-- ==== Sys2Proof/Word.lean ====
section
/-! DEFINITION. Word types, and the plain data types that operands of instructions and events carry (R2, R9, R24,
R196, R342, R398). Identities are flat numbers: slot = core * 8 + s, core = tile * 4 + c, node = die * 1024 + n,
core = node * 64 + c (R9, R21). -/

namespace Sys2Proof

/-- A general register or a memory word (R24). -/
abbrev Word := BitVec 64
/-- A vector register (R24). -/
abbrev Vec := BitVec 256
/-- The number of a general register in a 5-bit field (R58). -/
abbrev Reg := BitVec 5
/-- The number of a vector register in a 4-bit field (R58). -/
abbrev VReg := BitVec 4

/-- Who makes the next perform (R196, R201): a request at the head of its bank queue, or an engine hart. -/
inductive Performer where
  /-- the request with this number, at its target -/
  | request (id : Nat)
  /-- hart `h` of a node, its next access (R285) -/
  | hart (node h : Nat)
  /-- the Burin of a tile, its next operand word (R266) -/
  | burin (tile : Nat)
  /-- the epilogue engine of a tile, its next table word or output write (R277) -/
  | epilogue (tile : Nat)
  deriving DecidableEq, Repr

/-- The place that answers for a batch item (R185). -/
inductive Peer where
  /-- a node of the module -/
  | node (n : Nat)
  /-- another module, by pod position -/
  | module (pos : Nat)
  deriving DecidableEq, Repr

/-- What bring-up of one optical port found (R357): laser, thermal lock, and the training of each of the eight data wavelengths
and of the spare. -/
structure PortTest where
  laser : Bool
  lock : Bool
  data : Vector Bool 8
  spare : Bool
  deriving DecidableEq, Repr

/-- The readings of the bring-up tests (R357, R398 to R400): physical facts of the part that the tests find. -/
structure Repair where
  /-- register-bank bits failing in the first march pass: (slot, bit) (R398) -/
  march1 : List (Nat × Nat)
  /-- register-bank bits failing in the second pass (R398) -/
  march2 : List (Nat × Nat)
  /-- failing bus connections: (tile, bus 0 or 1, group 0 to 15, connection) (R399) -/
  stipple : List (Nat × Nat × Nat × Nat)
  /-- dies with a router that failed (R400) -/
  routers : List Nat
  /-- physical nodes marked defective by fuses or failing their self-test: (die, x, y) (R400) -/
  defects : List (Nat × Nat × Nat)
  /-- the first node that did not take its controller image, if any: (die, node) (R397 phase 5) -/
  deliver : Option (Nat × Nat)
  /-- the optical ports, from port 0 on (R357) -/
  ports : List PortTest := []
  deriving DecidableEq, Repr

/-- A packet header of the pod fabric (R342). Bits [38:16] are reserved: written zero, ignored on arrival (R7), covered by the
CRC and kept by a relay. -/
structure PodHeader where
  src : BitVec 10
  dst : BitVec 10
  epoch : BitVec 8
  pctx : BitVec 16
  vc : BitVec 2
  cls : BitVec 2
  seq : BitVec 32
  len : BitVec 9
  rsv : BitVec 23 := 0#23
  hcrc : BitVec 16
  deriving DecidableEq, Repr

/-- An access that a packet asks of its target (R158, R168 to R173, R230, R342). -/
inductive PodOp where
  /-- a load of `size` bytes with a sync mode -/
  | load (size : Nat) (sync : BitVec 2)
  /-- a store of the low `size` bytes of `v` with a sync mode -/
  | store (size : Nat) (sync : BitVec 2) (v : Word)
  | loadV
  | storeV (v : Vec)
  | wstate
  | wset (s : BitVec 2)
  | join
  /-- operation, G[b], G[(b+1) mod 32], G[d] -/
  | amo (op : BitVec 6) (b b2 d : Word)
  /-- accesses of a transfer hart: a read that learns the word's state, a write, a POISON mark, a FILLW write (R296, R297,
  R299, R305) -/
  | peek (size : Nat)
  | hput (size : Nat) (sf : Bool) (v : Word)
  | mark (size : Nat)
  | fillw (v : Word) (st : BitVec 2)
  deriving DecidableEq, Repr

/-- What a packet between modules carries (R342). -/
inductive PodBody where
  /-- an access at a module address: the sender's number for it; for a relaxed store or atomic item its slot, tag, number, count
  of performs and batch (R185); and the requester's WAITLIM (R165) -/
  | access (rid : Nat) (item : Option (Nat × Nat × Nat × Nat × Nat)) (limit : Nat) (op : PodOp) (addr : Nat)
  /-- a landing: the sender's slot and generation, tag, item number and batch, address, value; the core of a value sent direct
  (R112, R121) -/
  | landing (sl gen tag item batch : Nat) (addr value : Word) (direct : Option Nat)
  /-- a forwarding hint or an invalidation for slot `sl` of the target: handle, core; and its acknowledgement (R120,
  R406) -/
  | hint (id sl gen : Nat) (handle : BitVec 45) (core : Option Nat)
  | hintAck (id : Nat)
  /-- the reply to the sender's access `rid`: value, or a fault's cause and reason (R202) -/
  | reply (rid : Nat) (value : Vec) (fault : Option (Nat × Nat))
  /-- a summary request for the listed item numbers of a batch of a tag of the sender's slot (R347) -/
  | summaryRequest (sl : Nat) (tag : BitVec 2) (batch : Nat) (items : List Nat)
  /-- a summary of the listed items of a batch of slot `sl` of the target: failed items with their codes and, for a fault, the
  number of the faulting access and the fault's reason (R161, R185, R347) -/
  | summary (sl : Nat) (tag : BitVec 2) (batch : Nat) (items : List Nat) (fails : List (Nat × Nat × Option (Nat × Nat)))
  /-- a waiting notice for the target's access `rid` (R346) -/
  | waiting (rid : Nat)
  /-- a presence beat by relay (R348) -/
  | presence
  /-- a receipt of a SEQ that the target sent here (R344) -/
  | receipt (seq : BitVec 32)
  /-- a loss notice about the member at a position (R348) -/
  | lossNotice (about : Nat)
  /-- a refusal: the target's packet with a SEQ, bound for a lost member, has been dropped from a relay buffer (R349) -/
  | dropRefusal (target : Nat) (seq : BitVec 32)
  /-- a refusal: the relay has no room for the offered packet (R341) -/
  | offerRefusal (target : Nat) (seq : BitVec 32)
  deriving DecidableEq, Repr


end Sys2Proof
end

