-- ==== Sys2Proof/Config.lean ====
section
/-! DEFINITION. What an implementation fixes, and the free values: constants without a body, so that no proof can see
them and a statement holds whatever they are (log entries 4 and 6). -/

namespace Sys2Proof.Config

/-- Where VEXP2 changes from the lower to the upper of two FP32 neighbours, given by the pattern of the lower: the place in
the order of FP32 values from which inputs take the upper. The function is monotone, so that within the gap of two
neighbours each input takes the upper from some place on; where, the spec does not publish (R223). Log entry 4. -/
opaque exp2Cut : BitVec 32 → Nat
/-- The same for VLOG2 (R223). Log entry 4. -/
opaque log2Cut : BitVec 32 → Nat
/-- The same for VRSQ, which falls: inputs up to the place take the upper (R224). Log entry 4. -/
opaque rsqrtCut : BitVec 32 → Nat

/-- A word whose value the spec leaves open, drawn with the counter of State (log entry 4). -/
opaque freeWord : Nat → Word
/-- What firmware reads from an uncorrectable word of a save record or spill area, by its address (R156, R375; log entry 96). -/
opaque lostWord : Nat → Word
/-- The nodes that a core's probe generator chooses beyond the node (R92), drawn with the counter (log entry 4). -/
opaque probeNode : Nat → Nat

/-- The node where a request from another module enters the mesh (R193), drawn with the counter (log entry 4). -/
opaque entryNode : Nat → Nat
/-- How often a frame is re-sent in its meeting (R345), drawn with the counter (log entry 4). -/
opaque link : Nat → Nat
/-- Whether the member at position `n` admits the packet with number `id` to its relay buffer in global slot `t` (R341):
another module's decision (log entry 4). -/
opaque relayAdmits : (id n t : Nat) → Bool
/-- How a packet's payload lies in flits behind its header: the half flit beside the header, and the flits after it. R342 lays
out the header alone (log entry 41). -/
opaque payloadHead : PodBody → BitVec 128
opaque payloadRest : PodBody → List Vec
/-- What a word of the state window shows, by its offset in the stretch that R403 or R404 gives to a piece of state and by
that piece, where they publish no layout within the stretch (log entry 26). -/
opaque shown {α : Type} (off : Nat) (x : α) : Word
/-- Header fields of a packet that the spec leaves open, by the packet's number: the payload's bytes, whose layout R342 does
not give, and the class and pod context of a packet that belongs to no launch of this module (log entry 41). -/
opaque packetLen : Nat → Nat
opaque packetClass : Nat → BitVec 2
opaque packetContext : Nat → BitVec 16

/-- SHA-512 of a byte string (R395); uninterpreted, log entry 6. -/
opaque sha512 : List (BitVec 8) → BitVec 512
/-- Ed25519 verification of a signature over a digest under a public key (R395); uninterpreted, log entry 6. -/
opaque ed25519 : (key : BitVec 256) → (digest : BitVec 512) → (sig : BitVec 512) → Bool
/-- AES-256-GCM (R354): the tag and the plaintext flits for a key, IV, associated data and received flits;
uninterpreted, log entry 6. -/
opaque gcm : (key : BitVec 256) → (iv : BitVec 96) → (aad : BitVec 128) → List Vec → BitVec 128 × List Vec
/-- AES-256-GCM (R354): the tag and the sealed flits for plaintext flits; uninterpreted, log entry 6. -/
opaque gcmSeal : (key : BitVec 256) → (iv : BitVec 96) → (aad : BitVec 128) → List Vec → BitVec 128 × List Vec
/-- HKDF-SHA-256 (R355): 36 bytes of output for a secret and an info string; uninterpreted, log entry 6. -/
opaque hkdf : (secret : BitVec 256) → (info : List (BitVec 8)) → BitVec 288
/-- The fuses' first 32 bytes of the SHA-512 of the accepted public key (R395). Log entry 6. -/
opaque fuseHash : BitVec 256

/-- REVN of the DGK-650 as shipped (R386). -/
def revn : Word := 1

end Sys2Proof.Config
end

