-- ==== Sys2Proof/Machine/Tab.lean ====
section
/-! DEFINITION. Sparse tables and sparse memory as plain lists. A table lists (key, value) pairs; an unlisted key reads
as the table's default. Memory lists (address, byte) pairs with strictly rising addresses and no byte equal to what an
unlisted address reads as (log entry 1); the word states and the memory tables of State keep the same form. -/

namespace Sys2Proof.Machine

/-- A sparse table of values by number. -/
abbrev Tab (α : Type) := List (Nat × α)

/-- The value at a key, or `d` where the key is not listed. -/
def Tab.get {α : Type} (d : α) : Tab α → Nat → α
  | [], _ => d
  | (k, v) :: rest, n => if k = n then v else Tab.get d rest n

/-- The value at a key, if it is listed. -/
def Tab.look {α : Type} : Tab α → Nat → Option α
  | [], _ => none
  | (k, v) :: rest, n => if k = n then some v else Tab.look rest n

/-- Writes a key; the keys stay strictly rising. -/
def Tab.put {α : Type} : Tab α → Nat → α → Tab α
  | [], n, x => [(n, x)]
  | (k, v) :: rest, n, x =>
    if k = n then (n, x) :: rest
    else if n < k then (n, x) :: (k, v) :: rest
    else (k, v) :: Tab.put rest n x

/-- Removes a key. -/
def Tab.drop {α : Type} : Tab α → Nat → Tab α
  | [], _ => []
  | (k, v) :: rest, n => if k = n then Tab.drop rest n else (k, v) :: Tab.drop rest n

/-- Writes a key of a table in canonical form: writing the default `d` removes the entry. -/
def Tab.write {α : Type} [DecidableEq α] (d : α) (t : Tab α) (n : Nat) (x : α) : Tab α :=
  if x = d then Tab.drop t n else Tab.put t n x

/-- The canonical form, above a lower bound: keys strictly rise and no value is the default. -/
def Tab.canonAbove {α : Type} [DecidableEq α] (d : α) : Option Nat → Tab α → Bool
  | _, [] => true
  | lo, (k, v) :: rest =>
    (match lo with | none => true | some l => decide (l < k)) && decide (v ≠ d) && Tab.canonAbove d (some k) rest

/-- The canonical form of a sparse table. -/
def Tab.canon {α : Type} [DecidableEq α] (d : α) (t : Tab α) : Bool := Tab.canonAbove d none t

/-- What an unlisted address of memory reads as (R154 for on-chip memory; log entry 1 otherwise). -/
def unlistedByte : BitVec 8 := 0#8

/-- Sparse byte memory. -/
abbrev Memory := List Host.Cell

/-- The canonical form of memory. -/
def Memory.wf (m : Memory) : Bool := Tab.canon unlistedByte m

/-- One byte of memory. -/
def Memory.byte (m : Memory) (a : Nat) : BitVec 8 := Tab.get unlistedByte m a

/-- Stores one byte. -/
def Memory.setByte (m : Memory) (a : Nat) (b : BitVec 8) : Memory := Tab.write unlistedByte m a b

/-- The little-endian value of `n` bytes from `a` (R2), as a number. -/
def Memory.readNat (m : Memory) (a : Nat) : Nat → Nat
  | 0 => 0
  | n + 1 => (Memory.byte m a).toNat + 256 * Memory.readNat m (a + 1) n

/-- Stores the low `n` bytes of a number from `a`, little-endian (R2). -/
def Memory.writeNat (m : Memory) (a : Nat) : Nat → Nat → Memory
  | 0, _ => m
  | n + 1, v => Memory.writeNat (Memory.setByte m a (BitVec.ofNat 8 v)) (a + 1) n (v / 256)

end Sys2Proof.Machine
end

