-- ==== Sys2Proof/Syntax.lean ====
section
/-! DEFINITION. The instructions and events of the DGK-650: one constructor for each row of spec/opcode_table.json.
Operand fields of words keep the width and the name of their field in the row (R57, R58): d, a, b, c registers,
i an immediate, o an offset, s a shift amount or depth (on a load or store the sy field), l the lookahead field, r the
rx field, t and p a format, part, tag or pair, g the sg field, e an engine, n a descriptor or special-register number,
c on TRAP and BKPT a code. An event's operands name the agents that take the step (R9, R196); the operand `seq` of an event is a launch's
key (State.launches). -/

namespace Sys2Proof

inductive Instr where
  /-- ADD (R127): Writes the 64-bit wrapped sum of ga and gb to gd -/
  | add (d : BitVec 5) (a : BitVec 5) (b : BitVec 5)
  /-- SUB (R127): Writes the wrapped difference ga minus gb to gd -/
  | sub (d : BitVec 5) (a : BitVec 5) (b : BitVec 5)
  /-- MUL (R127): Writes the low 64 bits of the product to gd -/
  | mul (d : BitVec 5) (a : BitVec 5) (b : BitVec 5)
  /-- MULH (R127): Writes the high half of the signed 128-bit product to gd -/
  | mulh (d : BitVec 5) (a : BitVec 5) (b : BitVec 5)
  /-- MULHN (R127): Writes the high half of the unsigned 128-bit product to gd -/
  | mulhn (d : BitVec 5) (a : BitVec 5) (b : BitVec 5)
  /-- DIV (R128): Signed division rounding toward zero, with fixed results for zero divisor and overflow -/
  | div (d : BitVec 5) (a : BitVec 5) (b : BitVec 5)
  /-- DIVN (R128): Unsigned division, all ones on a zero divisor -/
  | divn (d : BitVec 5) (a : BitVec 5) (b : BitVec 5)
  /-- REM (R128): Signed remainder taking the dividend's sign -/
  | rem (d : BitVec 5) (a : BitVec 5) (b : BitVec 5)
  /-- REMN (R128): Unsigned remainder, the dividend on a zero divisor -/
  | remn (d : BitVec 5) (a : BitVec 5) (b : BitVec 5)
  /-- NEG (R127): Writes the wrapped negation of ga to gd -/
  | neg (d : BitVec 5) (a : BitVec 5)
  /-- AND (R127): Bitwise AND of ga and gb into gd -/
  | and (d : BitVec 5) (a : BitVec 5) (b : BitVec 5)
  /-- OR (R127): Bitwise OR of ga and gb into gd -/
  | or (d : BitVec 5) (a : BitVec 5) (b : BitVec 5)
  /-- XOR (R127): Bitwise XOR of ga and gb into gd -/
  | xor (d : BitVec 5) (a : BitVec 5) (b : BitVec 5)
  /-- ANDN (R127): ga AND NOT gb into gd -/
  | andn (d : BitVec 5) (a : BitVec 5) (b : BitVec 5)
  /-- ORN (R127): ga OR NOT gb into gd -/
  | orn (d : BitVec 5) (a : BitVec 5) (b : BitVec 5)
  /-- SHL (R129): Shifts ga left by gb[5:0] -/
  | shl (d : BitVec 5) (a : BitVec 5) (b : BitVec 5)
  /-- SHR (R129): Logical right shift of ga by gb[5:0] -/
  | shr (d : BitVec 5) (a : BitVec 5) (b : BitVec 5)
  /-- SHRA (R129): Arithmetic right shift of ga by gb[5:0] -/
  | shra (d : BitVec 5) (a : BitVec 5) (b : BitVec 5)
  /-- ROTR (R129): Rotates ga right by gb[5:0] -/
  | rotr (d : BitVec 5) (a : BitVec 5) (b : BitVec 5)
  /-- CMPEQ (R130): Writes 1 when ga equals gb, else 0 -/
  | cmpeq (d : BitVec 5) (a : BitVec 5) (b : BitVec 5)
  /-- CMPNE (R130): Writes 1 when ga differs from gb -/
  | cmpne (d : BitVec 5) (a : BitVec 5) (b : BitVec 5)
  /-- CMPLT (R130): Signed less-than compare -/
  | cmplt (d : BitVec 5) (a : BitVec 5) (b : BitVec 5)
  /-- CMPGE (R130): Signed greater-or-equal compare -/
  | cmpge (d : BitVec 5) (a : BitVec 5) (b : BitVec 5)
  /-- CMPLTN (R130): Unsigned less-than compare -/
  | cmpltn (d : BitVec 5) (a : BitVec 5) (b : BitVec 5)
  /-- CMPGEN (R130): Unsigned greater-or-equal compare -/
  | cmpgen (d : BitVec 5) (a : BitVec 5) (b : BitVec 5)
  /-- MIN (R130): Signed minimum of ga and gb -/
  | min (d : BitVec 5) (a : BitVec 5) (b : BitVec 5)
  /-- MAX (R130): Signed maximum of ga and gb -/
  | max (d : BitVec 5) (a : BitVec 5) (b : BitVec 5)
  /-- MINN (R130): Unsigned minimum of ga and gb -/
  | minn (d : BitVec 5) (a : BitVec 5) (b : BitVec 5)
  /-- MAXN (R130): Unsigned maximum of ga and gb -/
  | maxn (d : BitVec 5) (a : BitVec 5) (b : BitVec 5)
  /-- SEL (R131): Writes ga to gd when gd is nonzero, else gb -/
  | sel (d : BitVec 5) (a : BitVec 5) (b : BitVec 5)
  /-- CLZ (R132): Counts leading zero bits of ga -/
  | clz (d : BitVec 5) (a : BitVec 5)
  /-- CTZ (R132): Counts trailing zero bits of ga -/
  | ctz (d : BitVec 5) (a : BitVec 5)
  /-- POPC (R132): Counts one bits of ga -/
  | popc (d : BitVec 5) (a : BitVec 5)
  /-- SEXTB (R132): Sign-extends the low byte of ga -/
  | sextb (d : BitVec 5) (a : BitVec 5)
  /-- SEXTH (R132): Sign-extends the low 16 bits of ga -/
  | sexth (d : BitVec 5) (a : BitVec 5)
  /-- SEXTW (R132): Sign-extends the low 32 bits of ga -/
  | sextw (d : BitVec 5) (a : BitVec 5)
  /-- ZEXTB (R132): Zero-extends the low byte of ga -/
  | zextb (d : BitVec 5) (a : BitVec 5)
  /-- ZEXTH (R132): Zero-extends the low 16 bits of ga -/
  | zexth (d : BitVec 5) (a : BitVec 5)
  /-- ZEXTW (R132): Zero-extends the low 32 bits of ga -/
  | zextw (d : BitVec 5) (a : BitVec 5)
  /-- ADDI (R133): Adds a sign-extended immediate to ga -/
  | addi (d : BitVec 5) (a : BitVec 5) (i : BitVec 16)
  /-- ANDI (R133): ANDs ga with a zero-extended immediate -/
  | andi (d : BitVec 5) (a : BitVec 5) (i : BitVec 16)
  /-- ORI (R133): ORs ga with a zero-extended immediate -/
  | ori (d : BitVec 5) (a : BitVec 5) (i : BitVec 16)
  /-- XORI (R133): XORs ga with a zero-extended immediate -/
  | xori (d : BitVec 5) (a : BitVec 5) (i : BitVec 16)
  /-- SHLI (R134): Shifts ga left by an immediate amount -/
  | shli (d : BitVec 5) (a : BitVec 5) (s : BitVec 6)
  /-- SHRI (R134): Logical right shift of ga by an immediate amount -/
  | shri (d : BitVec 5) (a : BitVec 5) (s : BitVec 6)
  /-- SHRAI (R134): Arithmetic right shift of ga by an immediate amount -/
  | shrai (d : BitVec 5) (a : BitVec 5) (s : BitVec 6)
  /-- ROTRI (R134): Rotates ga right by an immediate amount -/
  | rotri (d : BitVec 5) (a : BitVec 5) (s : BitVec 6)
  /-- CMPEQI (R135): Compares ga equal to a sign-extended 13-bit value -/
  | cmpeqi (d : BitVec 5) (a : BitVec 5) (i : BitVec 13)
  /-- CMPNEI (R135): Compares ga not equal to a sign-extended 13-bit value -/
  | cmpnei (d : BitVec 5) (a : BitVec 5) (i : BitVec 13)
  /-- CMPLTI (R135): Signed less-than against a 13-bit immediate -/
  | cmplti (d : BitVec 5) (a : BitVec 5) (i : BitVec 13)
  /-- CMPGEI (R135): Signed greater-or-equal against a 13-bit immediate -/
  | cmpgei (d : BitVec 5) (a : BitVec 5) (i : BitVec 13)
  /-- CMPLTNI (R135): Unsigned less-than against a zero-extended 13-bit immediate -/
  | cmpltni (d : BitVec 5) (a : BitVec 5) (i : BitVec 13)
  /-- CMPGENI (R135): Unsigned greater-or-equal against a zero-extended 13-bit immediate -/
  | cmpgeni (d : BitVec 5) (a : BitVec 5) (i : BitVec 13)
  /-- LDI (R136): Loads a sign-extended 16-bit immediate into gd -/
  | ldi (d : BitVec 5) (i : BitVec 16)
  /-- LDIH (R136): Shifts ga left 16 and ORs in a 16-bit immediate -/
  | ldih (d : BitVec 5) (a : BitVec 5) (i : BitVec 16)
  /-- ADDP (R138): Adds gb to the address of fat pointer ga, keeping its tag -/
  | addp (d : BitVec 5) (a : BitVec 5) (b : BitVec 5)
  /-- SUBP (R138): Signed byte distance between two pointer addresses -/
  | subp (d : BitVec 5) (a : BitVec 5) (b : BitVec 5)
  /-- IDXP (R139): Advances a pointer by gb elements or blocks of its format, trapping FMT on a bad format -/
  | idxp (d : BitVec 5) (a : BitVec 5) (b : BitVec 5)
  /-- MKP (R140): Builds a pointer from the address of ga and the tag in gb -/
  | mkp (d : BitVec 5) (a : BitVec 5) (b : BitVec 5)
  /-- GETF (R140): Extracts the format byte and L of a pointer -/
  | getf (d : BitVec 5) (a : BitVec 5)
  /-- ADRP (R140): Extracts the 52-bit address of a pointer -/
  | adrp (d : BitVec 5) (a : BitVec 5)
  /-- ADDPI (R138): Adds a sign-extended immediate to a pointer address -/
  | addpi (d : BitVec 5) (a : BitVec 5) (i : BitVec 16)
  /-- FPADD (R143): FP32 addition rounded once -/
  | fpadd (d : BitVec 5) (a : BitVec 5) (b : BitVec 5)
  /-- FPSUB (R143): FP32 subtraction rounded once -/
  | fpsub (d : BitVec 5) (a : BitVec 5) (b : BitVec 5)
  /-- FPMUL (R143): FP32 multiplication rounded once -/
  | fpmul (d : BitVec 5) (a : BitVec 5) (b : BitVec 5)
  /-- FPDIV (R143): FP32 division rounded once -/
  | fpdiv (d : BitVec 5) (a : BitVec 5) (b : BitVec 5)
  /-- FPFMA (R143): Fused FP32 multiply-add of ga, gb and gd -/
  | fpfma (d : BitVec 5) (a : BitVec 5) (b : BitVec 5)
  /-- FPSQRT (R143): FP32 square root rounded once -/
  | fpsqrt (d : BitVec 5) (a : BitVec 5)
  /-- FPMIN (R144): FP32 minimum with -0 below +0 -/
  | fpmin (d : BitVec 5) (a : BitVec 5) (b : BitVec 5)
  /-- FPMAX (R144): FP32 maximum with +0 above -0 -/
  | fpmax (d : BitVec 5) (a : BitVec 5) (b : BitVec 5)
  /-- FPABS (R144): Clears the sign of a non-NaN FP32 value -/
  | fpabs (d : BitVec 5) (a : BitVec 5)
  /-- FPNEG (R144): Inverts the sign of a non-NaN FP32 value -/
  | fpneg (d : BitVec 5) (a : BitVec 5)
  /-- FPCMPEQ (R145): FP32 equality compare, 0 on NaN -/
  | fpcmpeq (d : BitVec 5) (a : BitVec 5) (b : BitVec 5)
  /-- FPCMPLT (R145): FP32 less-than compare -/
  | fpcmplt (d : BitVec 5) (a : BitVec 5) (b : BitVec 5)
  /-- FPCMPLE (R145): FP32 less-or-equal compare -/
  | fpcmple (d : BitVec 5) (a : BitVec 5) (b : BitVec 5)
  /-- FPTOI (R146): FP32 to INT64 by RNE with saturation -/
  | fptoi (d : BitVec 5) (a : BitVec 5)
  /-- FPTOIZ (R146): FP32 to INT64 toward zero with saturation -/
  | fptoiz (d : BitVec 5) (a : BitVec 5)
  /-- FPTON (R146): FP32 to NAT64 by RNE with saturation -/
  | fpton (d : BitVec 5) (a : BitVec 5)
  /-- ITOFP (R146): INT64 to FP32 by RNE -/
  | itofp (d : BitVec 5) (a : BitVec 5)
  /-- NTOFP (R146): NAT64 to FP32 by RNE -/
  | ntofp (d : BitVec 5) (a : BitVec 5)
  /-- FPTOH (R146): FP32 to FP16 by RNE -/
  | fptoh (d : BitVec 5) (a : BitVec 5)
  /-- HTOFP (R146): FP16 to FP32 exactly -/
  | htofp (d : BitVec 5) (a : BitVec 5)
  /-- FPTOB (R146): FP32 to BF16 by RNE -/
  | fptob (d : BitVec 5) (a : BitVec 5)
  /-- BTOFP (R146): BF16 to FP32 exactly -/
  | btofp (d : BitVec 5) (a : BitVec 5)
  /-- BEQ (R147): Branches when ga equals gb -/
  | beq (a : BitVec 5) (b : BitVec 5) (o : BitVec 16)
  /-- BNE (R147): Branches when ga differs from gb -/
  | bne (a : BitVec 5) (b : BitVec 5) (o : BitVec 16)
  /-- BLT (R147): Branches on signed less-than -/
  | blt (a : BitVec 5) (b : BitVec 5) (o : BitVec 16)
  /-- BGE (R147): Branches on signed greater-or-equal -/
  | bge (a : BitVec 5) (b : BitVec 5) (o : BitVec 16)
  /-- BLTN (R147): Branches on unsigned less-than -/
  | bltn (a : BitVec 5) (b : BitVec 5) (o : BitVec 16)
  /-- BGEN (R147): Branches on unsigned greater-or-equal -/
  | bgen (a : BitVec 5) (b : BitVec 5) (o : BitVec 16)
  /-- J (R148): Jumps to a PC-relative target -/
  | j (o : BitVec 26)
  /-- JAL (R148): Jumps to a PC-relative target and links into g31 -/
  | jal (o : BitVec 26)
  /-- JR (R149): Jumps to the offset held in ga -/
  | jr (a : BitVec 5)
  /-- JALR (R149): Jumps to the offset in ga and links into gd -/
  | jalr (d : BitVec 5) (a : BitVec 5)
  /-- LDB (R159): Loads a sign-extended byte, with optional relaxed or sync mode -/
  | ldb (d : BitVec 5) (a : BitVec 5) (l : BitVec 4) (r : BitVec 1) (s : BitVec 2) (o : BitVec 9)
  /-- LDH (R159): Loads a sign-extended halfword -/
  | ldh (d : BitVec 5) (a : BitVec 5) (l : BitVec 4) (r : BitVec 1) (s : BitVec 2) (o : BitVec 9)
  /-- LDW (R159): Loads a sign-extended 32-bit word -/
  | ldw (d : BitVec 5) (a : BitVec 5) (l : BitVec 4) (r : BitVec 1) (s : BitVec 2) (o : BitVec 9)
  /-- LDD (R159): Loads a 64-bit word, waiting on or changing word state under a sync mode -/
  | ldd (d : BitVec 5) (a : BitVec 5) (l : BitVec 4) (r : BitVec 1) (s : BitVec 2) (o : BitVec 9)
  /-- LDNB (R159): Loads a zero-extended byte -/
  | ldnb (d : BitVec 5) (a : BitVec 5) (l : BitVec 4) (r : BitVec 1) (s : BitVec 2) (o : BitVec 9)
  /-- LDNH (R159): Loads a zero-extended halfword -/
  | ldnh (d : BitVec 5) (a : BitVec 5) (l : BitVec 4) (r : BitVec 1) (s : BitVec 2) (o : BitVec 9)
  /-- LDNW (R159): Loads a zero-extended 32-bit word -/
  | ldnw (d : BitVec 5) (a : BitVec 5) (l : BitVec 4) (r : BitVec 1) (s : BitVec 2) (o : BitVec 9)
  /-- STB (R159): Stores the low byte of gd -/
  | stb (d : BitVec 5) (a : BitVec 5) (l : BitVec 4) (r : BitVec 1) (s : BitVec 2) (o : BitVec 9)
  /-- STH (R159): Stores the low halfword of gd -/
  | sth (d : BitVec 5) (a : BitVec 5) (l : BitVec 4) (r : BitVec 1) (s : BitVec 2) (o : BitVec 9)
  /-- STW (R159): Stores the low 32 bits of gd -/
  | stw (d : BitVec 5) (a : BitVec 5) (l : BitVec 4) (r : BitVec 1) (s : BitVec 2) (o : BitVec 9)
  /-- STD (R159): Stores gd as a 64-bit word, with optional relaxed or sync mode -/
  | std (d : BitVec 5) (a : BitVec 5) (l : BitVec 4) (r : BitVec 1) (s : BitVec 2) (o : BitVec 9)
  /-- LDV (R231): Loads 32 bytes into a vector register -/
  | ldv (d : BitVec 5) (a : BitVec 5) (l : BitVec 4) (r : BitVec 1) (o : BitVec 9)
  /-- STV (R231): Stores a vector register as 32 bytes -/
  | stv (d : BitVec 5) (a : BitVec 5) (l : BitVec 4) (r : BitVec 1) (o : BitVec 9)
  /-- LDBP (R233): Reads one chunk of a bit-plane block into vector lanes -/
  | ldbp (d : BitVec 5) (a : BitVec 5) (l : BitVec 4) (r : BitVec 1) (o : BitVec 9)
  /-- STBP (R234): Writes the planes of one chunk of a bit-plane block from vector lanes -/
  | stbp (d : BitVec 5) (a : BitVec 5) (l : BitVec 4) (r : BitVec 1) (o : BitVec 9)
  /-- AADD (R171): Atomic add at the owning unit, returning the old value -/
  | aadd (d : BitVec 5) (a : BitVec 5) (b : BitVec 5) (l : BitVec 4)
  /-- AAND (R171): Atomic AND returning the old value -/
  | aand (d : BitVec 5) (a : BitVec 5) (b : BitVec 5) (l : BitVec 4)
  /-- AOR (R171): Atomic OR returning the old value -/
  | aor (d : BitVec 5) (a : BitVec 5) (b : BitVec 5) (l : BitVec 4)
  /-- AXOR (R171): Atomic XOR returning the old value -/
  | axor (d : BitVec 5) (a : BitVec 5) (b : BitVec 5) (l : BitVec 4)
  /-- AMIN (R171): Atomic signed minimum returning the old value -/
  | amin (d : BitVec 5) (a : BitVec 5) (b : BitVec 5) (l : BitVec 4)
  /-- AMAX (R171): Atomic signed maximum returning the old value -/
  | amax (d : BitVec 5) (a : BitVec 5) (b : BitVec 5) (l : BitVec 4)
  /-- AMINN (R171): Atomic unsigned minimum returning the old value -/
  | aminn (d : BitVec 5) (a : BitVec 5) (b : BitVec 5) (l : BitVec 4)
  /-- AMAXN (R171): Atomic unsigned maximum returning the old value -/
  | amaxn (d : BitVec 5) (a : BitVec 5) (b : BitVec 5) (l : BitVec 4)
  /-- ASWAP (R171): Atomic swap returning the old value -/
  | aswap (d : BitVec 5) (a : BitVec 5) (b : BitVec 5) (l : BitVec 4)
  /-- ACAS (R171): Atomic compare-and-swap against gd -/
  | acas (d : BitVec 5) (a : BitVec 5) (b : BitVec 5) (l : BitVec 4)
  /-- AFADD (R175): Atomic FP32 add on one half of a word -/
  | afadd (d : BitVec 5) (a : BitVec 5) (b : BitVec 5) (l : BitVec 4)
  /-- ABUMP (R173): Atomic bounded increment with an overflow flag -/
  | abump (d : BitVec 5) (a : BitVec 5) (b : BitVec 5) (l : BitVec 4)
  /-- ATMERGE (R174): Atomically merges a partial mean record into two words and returns the count -/
  | atmerge (d : BitVec 5) (a : BitVec 5) (b : BitVec 5) (l : BitVec 4)
  /-- AADD_RX (R171): Relaxed atomic add, a batch item without destination -/
  | aaddRx (a : BitVec 5) (b : BitVec 5)
  /-- AAND_RX (R171): Relaxed atomic AND -/
  | aandRx (a : BitVec 5) (b : BitVec 5)
  /-- AOR_RX (R171): Relaxed atomic OR -/
  | aorRx (a : BitVec 5) (b : BitVec 5)
  /-- AXOR_RX (R171): Relaxed atomic XOR -/
  | axorRx (a : BitVec 5) (b : BitVec 5)
  /-- AMIN_RX (R171): Relaxed atomic signed minimum -/
  | aminRx (a : BitVec 5) (b : BitVec 5)
  /-- AMAX_RX (R171): Relaxed atomic signed maximum -/
  | amaxRx (a : BitVec 5) (b : BitVec 5)
  /-- AMINN_RX (R171): Relaxed atomic unsigned minimum -/
  | aminnRx (a : BitVec 5) (b : BitVec 5)
  /-- AMAXN_RX (R171): Relaxed atomic unsigned maximum -/
  | amaxnRx (a : BitVec 5) (b : BitVec 5)
  /-- AFADD_RX (R175): Relaxed atomic FP32 add -/
  | afaddRx (a : BitVec 5) (b : BitVec 5)
  /-- ATMERGE_RX (R174): Relaxed atomic merge of a partial record -/
  | atmergeRx (a : BitVec 5) (b : BitVec 5)
  /-- WSTATE (R169): Reads a word's state without waiting or faulting -/
  | wstate (d : BitVec 5) (a : BitVec 5) (l : BitVec 4) (o : BitVec 7)
  /-- WSET (R170): Writes a node-memory word's state, starting a wake walk if it changes -/
  | wset (d : BitVec 5) (a : BitVec 5) (l : BitVec 4) (o : BitVec 7)
  /-- FENCE_CORE (R189): Waits for earlier relaxed accesses within the core scope and raises deferred faults -/
  | fenceCore
  /-- FENCE_NODE (R189): Fence of node scope -/
  | fenceNode
  /-- FENCE_DEV (R189): Fence of module scope -/
  | fenceDev
  /-- FENCE_POD (R189): Fence of pod scope that also closes every tag holding items -/
  | fencePod
  /-- BCLOSE (R190): Waits for all items and summaries of a tag, writes the failure bitmap and closes it -/
  | bclose (d : BitVec 5) (t : BitVec 2)
  /-- BTEST (R191): Sends due summaries and closes the tag if settled, else reports progress -/
  | btest (d : BitVec 5) (t : BitVec 2)
  /-- WAITANY (R309): Parks until any tag of the mask is set and returns the lowest -/
  | waitany (d : BitVec 5) (a : BitVec 5)
  /-- WAITALL (R309): Parks until every tag of the mask is set -/
  | waitall (a : BitVec 5)
  /-- FFREADY (R309): Returns the lowest set tag of the mask, or 64 -/
  | ffready (d : BitVec 5) (a : BitVec 5)
  /-- TAGCLR (R309): Clears the mask's bits in TAGS and TAGERR -/
  | tagclr (a : BitVec 5)
  /-- FORK (R96): Pushes a task record onto the core's deque, or reports it full -/
  | fork (d : BitVec 5) (a : BitVec 5) (b : BitVec 5)
  /-- SPAWNAT (R97): Sends a task record to a named core's deque and returns its status -/
  | spawnat (d : BitVec 5) (a : BitVec 5) (b : BitVec 5) (l : BitVec 4)
  /-- JOIN (R98): Decrements a join cell at its bank, setting it FULL at zero -/
  | join (a : BitVec 5) (l : BitVec 4)
  /-- EXIT (R101): Fences, contributes to the launch status and ends the thread into IDLE -/
  | exit (a : BitVec 5)
  /-- YIELD (R100): Enters drain mode when a pre-emption is pending, else does nothing -/
  | yield
  /-- NEXTW (R99): Returns the next schedule-table entry of the core -/
  | nextw (d : BitVec 5)
  /-- SENDR (R112): Sends a value to a landing address as an item of the tag in BATCH -/
  | sendr (a : BitVec 5) (b : BitVec 5)
  /-- SENDR_RL (R112): Release SENDR held until earlier accesses are performed -/
  | sendrRl (a : BitVec 5) (b : BitVec 5)
  /-- SENDR_B (R112): SENDR with an explicit batch tag -/
  | sendrB (a : BitVec 5) (b : BitVec 5) (t : BitVec 2)
  /-- SENDR_RL_B (R112): Release SENDR with an explicit batch tag -/
  | sendrRlB (a : BitVec 5) (b : BitVec 5) (t : BitVec 2)
  /-- TAKE_G (R113): Moves a full general register and empties it, refilling from the landing buffer -/
  | takeG (d : BitVec 5) (a : BitVec 5)
  /-- TAKE_V (R113): TAKE on vector registers -/
  | takeV (d : BitVec 5) (a : BitVec 5)
  /-- EMPTY_G (R114): Clears a general register's presence bit and refills it if a value is held -/
  | emptyG (a : BitVec 5)
  /-- EMPTY_V (R114): EMPTY on a vector register -/
  | emptyV (a : BitVec 5)
  /-- PTEST_G (R115): Returns 1 if a general register is full -/
  | ptestG (d : BitVec 5) (a : BitVec 5)
  /-- PTEST_V (R115): Returns 1 if a vector register is full -/
  | ptestV (d : BitVec 5) (a : BitVec 5)
  /-- SELF (R109): Returns the thread's handle -/
  | self (d : BitVec 5)
  /-- HREG (R115): Forms a landing address from a handle and a register code -/
  | hreg (d : BitVec 5) (a : BitVec 5) (b : BitVec 5)
  /-- PLOOK (R322): Looks up a plate by name in the node's table -/
  | plook (d : BitVec 5) (a : BitVec 5) (l : BitVec 4)
  /-- PMAKE (R323): Creates or re-makes a plate, evicting for space if needed -/
  | pmake (d : BitVec 5) (a : BitVec 5) (b : BitVec 5) (l : BitVec 4)
  /-- PATT (R324): Attaches to a plate by name and pins it -/
  | patt (d : BitVec 5) (a : BitVec 5) (l : BitVec 4)
  /-- PATT_T (R324): PATT that traps PLMISS on a miss -/
  | pattT (d : BitVec 5) (a : BitVec 5) (l : BitVec 4)
  /-- PDET (R325): Removes an attach record and lowers the plate's pins -/
  | pdet (a : BitVec 5) (l : BitVec 4)
  /-- PSEAL (R326): Fences and seals a plate -/
  | pseal (a : BitVec 5) (l : BitVec 4)
  /-- PEVICT (R327): Fences and evicts a sealed plate to its backing copy -/
  | pevict (a : BitVec 5) (l : BitVec 4)
  /-- PFREE (R328): Frees a plate's entry and space without write-back -/
  | pfree (a : BitVec 5) (l : BitVec 4)
  /-- MMAZ (R271): Allocates a ring tile and queues its zeroing on the Burin -/
  | mmaz (l : BitVec 4)
  /-- MMA (R271): Queues a bit-plane multiply-accumulate into the slot's newest ring tile -/
  | mma (a : BitVec 5) (b : BitVec 5) (l : BitVec 4) (g : BitVec 2)
  /-- RFREE (R271): Releases the slot's oldest ring tile without draining -/
  | rfree (l : BitVec 4)
  /-- EPI (R271): Queues the epilogue drain of the slot's oldest ring tile -/
  | epi (a : BitVec 5) (b : BitVec 5) (l : BitVec 4)
  /-- COPY (R296): Queues a strided copy on a transfer hart -/
  | copy (a : BitVec 5) (b : BitVec 5) (l : BitVec 4)
  /-- GATHER (R299): Queues an indexed gather of table rows -/
  | gather (a : BitVec 5) (b : BitVec 5) (l : BitVec 4)
  /-- SCATTER (R299): Queues an indexed scatter into table rows -/
  | scatter (a : BitVec 5) (b : BitVec 5) (l : BitVec 4)
  /-- BINS (R301): Queues the expert-binning scatter with capacity counters and overflow -/
  | bins (a : BitVec 5) (b : BitVec 5) (l : BitVec 4)
  /-- MCAST (R303): Queues a multicast of a buffer to a range of nodes -/
  | mcast (a : BitVec 5) (b : BitVec 5) (l : BitVec 4)
  /-- FREEB (R304): Sends a multicast handle back toward the sender through combining routers -/
  | freeb (a : BitVec 5) (l : BitVec 4)
  /-- FILLW (R305): Queues a fill of words with a value and a word state -/
  | fillw (a : BitVec 5) (b : BitVec 5) (l : BitVec 4)
  /-- ESET (R273): Writes an engine descriptor register -/
  | eset (e : BitVec 4) (a : BitVec 5) (n : BitVec 5)
  /-- EGET (R273): Reads an engine descriptor register -/
  | eget (e : BitVec 4) (d : BitVec 5) (n : BitVec 5)
  /-- EPOP (R273): Reads and clears an engine status word -/
  | epop (e : BitVec 4) (d : BitVec 5)
  /-- EWAIT (R273): Parks until the slot's commands on an engine complete and returns its status -/
  | ewait (e : BitVec 4) (d : BitVec 5)
  /-- ETEST (R273): Returns the number of incomplete commands on an engine -/
  | etest (e : BitVec 4) (d : BitVec 5)
  /-- VADD (R216): Lane-wise addition by format -/
  | vadd (d : BitVec 4) (a : BitVec 4) (b : BitVec 4)
  /-- VSUB (R216): Lane-wise subtraction by format -/
  | vsub (d : BitVec 4) (a : BitVec 4) (b : BitVec 4)
  /-- VMUL (R216): Lane-wise multiplication by format -/
  | vmul (d : BitVec 4) (a : BitVec 4) (b : BitVec 4)
  /-- VMAD (R216): Lane-wise multiply-add by format -/
  | vmad (d : BitVec 4) (a : BitVec 4) (b : BitVec 4) (c : BitVec 4)
  /-- VMIN (R216): Lane-wise minimum -/
  | vmin (d : BitVec 4) (a : BitVec 4) (b : BitVec 4)
  /-- VMAX (R216): Lane-wise maximum -/
  | vmax (d : BitVec 4) (a : BitVec 4) (b : BitVec 4)
  /-- VABS (R216): Lane-wise absolute value -/
  | vabs (d : BitVec 4) (a : BitVec 4)
  /-- VNEG (R216): Lane-wise negation -/
  | vneg (d : BitVec 4) (a : BitVec 4)
  /-- VADDS (R216): Lane-wise saturating integer addition -/
  | vadds (d : BitVec 4) (a : BitVec 4) (b : BitVec 4)
  /-- VSUBS (R216): Lane-wise saturating integer subtraction -/
  | vsubs (d : BitVec 4) (a : BitVec 4) (b : BitVec 4)
  /-- VMULS (R216): Lane-wise saturating integer multiplication -/
  | vmuls (d : BitVec 4) (a : BitVec 4) (b : BitVec 4)
  /-- VAND (R216): Bitwise AND of 256 bits -/
  | vand (d : BitVec 4) (a : BitVec 4) (b : BitVec 4)
  /-- VOR (R216): Bitwise OR of 256 bits -/
  | vor (d : BitVec 4) (a : BitVec 4) (b : BitVec 4)
  /-- VXOR (R216): Bitwise XOR of 256 bits -/
  | vxor (d : BitVec 4) (a : BitVec 4) (b : BitVec 4)
  /-- VANDN (R216): Bitwise AND-NOT of 256 bits -/
  | vandn (d : BitVec 4) (a : BitVec 4) (b : BitVec 4)
  /-- VSHL (R216): Lane-wise left shift -/
  | vshl (d : BitVec 4) (a : BitVec 4) (b : BitVec 4)
  /-- VSHR (R216): Lane-wise logical right shift -/
  | vshr (d : BitVec 4) (a : BitVec 4) (b : BitVec 4)
  /-- VSHRA (R216): Lane-wise arithmetic right shift -/
  | vshra (d : BitVec 4) (a : BitVec 4) (b : BitVec 4)
  /-- VCMPEQ (R218): Lane-wise equality mask -/
  | vcmpeq (d : BitVec 4) (a : BitVec 4) (b : BitVec 4)
  /-- VCMPNE (R218): Lane-wise inequality mask -/
  | vcmpne (d : BitVec 4) (a : BitVec 4) (b : BitVec 4)
  /-- VCMPLT (R218): Lane-wise less-than mask -/
  | vcmplt (d : BitVec 4) (a : BitVec 4) (b : BitVec 4)
  /-- VCMPLE (R218): Lane-wise less-or-equal mask -/
  | vcmple (d : BitVec 4) (a : BitVec 4) (b : BitVec 4)
  /-- VSEL (R218): Lane-wise select by a mask register -/
  | vsel (d : BitVec 4) (a : BitVec 4) (b : BitVec 4) (c : BitVec 4)
  /-- VPERM (R218): Byte permutation of two registers by an index register -/
  | vperm (d : BitVec 4) (a : BitVec 4) (b : BitVec 4) (c : BitVec 4)
  /-- VCVT (R219): Converts a window of lanes to target format t -/
  | vcvt (d : BitVec 4) (a : BitVec 4) (t : BitVec 4) (p : BitVec 4)
  /-- VQSCL (R220): Computes and folds a bit-plane scale code -/
  | vqscl (d : BitVec 4) (a : BitVec 4) (b : BitVec 4)
  /-- VQNT (R221): Quantises lanes to q8 values at depth s -/
  | vqnt (d : BitVec 4) (a : BitVec 4) (b : BitVec 4) (s : BitVec 4)
  /-- VEXP2 (R223): Long-latency lane-wise 2^x -/
  | vexp2 (d : BitVec 4) (a : BitVec 4) (l : BitVec 4)
  /-- VLOG2 (R223): Long-latency lane-wise log2 -/
  | vlog2 (d : BitVec 4) (a : BitVec 4) (l : BitVec 4)
  /-- VRCP (R224): Long-latency lane-wise reciprocal -/
  | vrcp (d : BitVec 4) (a : BitVec 4) (l : BitVec 4)
  /-- VRSQ (R224): Long-latency lane-wise reciprocal square root -/
  | vrsq (d : BitVec 4) (a : BitVec 4) (l : BitVec 4)
  /-- VDOT (R226): Accumulates grouped dot products into eight 32-bit lanes, wrapping -/
  | vdot (d : BitVec 4) (a : BitVec 4) (b : BitVec 4)
  /-- VDOTS (R226): Grouped dot products with saturation -/
  | vdots (d : BitVec 4) (a : BitVec 4) (b : BitVec 4)
  /-- VRSUM (R227): Reduces lanes to their sum -/
  | vrsum (d : BitVec 4) (a : BitVec 4)
  /-- VRMIN (R227): Reduces lanes to their minimum -/
  | vrmin (d : BitVec 4) (a : BitVec 4)
  /-- VRMAX (R227): Reduces lanes to their maximum -/
  | vrmax (d : BitVec 4) (a : BitVec 4)
  /-- VSPLAT (R229): Copies ga's low lane bits into every lane -/
  | vsplat (d : BitVec 5) (a : BitVec 5)
  /-- VEXT (R229): Extracts a lane or word to a general register -/
  | vext (d : BitVec 5) (a : BitVec 5) (b : BitVec 5)
  /-- VINS (R229): Inserts a general register into a lane or word -/
  | vins (d : BitVec 5) (a : BitVec 5) (b : BitVec 5)
  /-- TMINIT (R243): Writes an empty partial record with the selected pair and shape -/
  | tminit (d : BitVec 4)
  /-- TMACC (R244): Folds masked lanes into a partial record -/
  | tmacc (d : BitVec 4) (a : BitVec 4) (b : BitVec 4) (l : BitVec 4)
  /-- TMMRG (R247): Merges two partial records -/
  | tmmrg (d : BitVec 4) (a : BitVec 4) (b : BitVec 4) (l : BitVec 4)
  /-- TMFIN (R249): Turns a partial record into a mean -/
  | tmfin (d : BitVec 4) (a : BitVec 4) (l : BitVec 4)
  /-- TMLOAD (R254): Loads and checks a table pair image into the tile table store -/
  | tmload (a : BitVec 4) (p : BitVec 4) (l : BitVec 4)
  /-- NOP (R383): Has no effect -/
  | nop
  /-- TRAP (R383): Raises SWTRAP with ga and a code -/
  | trap (a : BitVec 5) (c : BitVec 12)
  /-- RTE (R384): Returns from a handler, raising any deferred fault -/
  | rte
  /-- SRD (R385): Reads a special register -/
  | srd (d : BitVec 5) (n : BitVec 12)
  /-- SWR (R385): Writes the writable fields of a special register -/
  | swr (a : BitVec 5) (n : BitVec 12)
  /-- BKPT (R383): Raises BKPT with a code -/
  | bkpt (c : BitVec 12)
  /-- WASTED_TURN (R81): A turn offered to a slot that is not RUNNING, whose check fails, that is forgone for a replay, or that throttling takes, is wasted and WASTED rises -/
  | wastedTurn (sl : Nat)
  /-- TARGET_FAULT_TRAP (R161): A plain access's target fault is taken at the slot's next turn after its reply -/
  | targetFaultTrap (sl : Nat)
  /-- SAVE (R376): A slot at a safe point enters SAVING and its save proceeds -/
  | save (sl : Nat)
  /-- FUNCTION_RESULT (R222): A function conversion fills its destination 20 cycles after issue -/
  | functionResult (sl : Nat)
  /-- MEAN_RESULT (R242): A mean-stage instruction fills its destination after its fixed latency -/
  | meanResult (sl : Nat)
  /-- PARK_RESUME (R3): The condition of a park holds and the slot resumes at its next turn -/
  | parkResume (sl : Nat)
  /-- DRAIN_TIMEOUT (R105): A pre-emption pending for 4,096 cycles puts the slot in drain mode -/
  | drainTimeout (sl : Nat)
  /-- PORT_ACCEPT (R199): The network port accepts the oldest outbound entry of a slot -/
  | portAccept (sl : Nat)
  /-- ROUTE_DELIVER (R200): The front request of a path enters its target's bank queue -/
  | routeDeliver (id : Nat)
  /-- BANK_PERFORM (R201): A target performs the request at the head of its queue or moves it to the wait list -/
  | bankPerform (p : Performer)
  /-- WAIT_LIST_RETRY (R164): A requester re-sends an access refused by a full wait list after 64 cycles -/
  | waitListRetry (id : Nat)
  /-- REPLY (R202): A reply reaches the slot, fills the destination and ends the outstanding state -/
  | reply (id : Nat)
  /-- FENCE_MARKER_RETURN (R189): A target returns a fence marker once the slot's earlier requests on that path are performed -/
  | fenceMarkerReturn (sl : Nat) (id : Nat)
  /-- SUMMARY_REQUEST (R185): A peer receives a summary request and replies once its items have settled -/
  | summaryRequest (sl : Nat) (tag : BitVec 2) (peer : Peer)
  /-- SUMMARY_REPLY (R185): A peer's summary reaches the slot and reports its items' outcomes -/
  | summaryReply (sl : Nat) (tag : BitVec 2) (peer : Peer)
  /-- LANDING_ARRIVE (R118): The home or forwarded core settles, holds, forwards, logs or refuses a landing -/
  | landingArrive (id : Nat)
  /-- LANDING_TIMEOUT (R116): A landing-buffer entry held 1 ms is refused with LAND_TIMEOUT -/
  | landingTimeout (core : Nat) (id : Nat)
  /-- ROUTE_HINT (R406): A forwarding hint installs a route-cache entry at the sender and is acknowledged -/
  | routeHint (id : Nat)
  /-- ROUTE_INVALIDATE (R120): A returned direct value removes the sender's route-cache entry -/
  | routeInvalidate (id : Nat)
  /-- LOG_APPEND (R119): A transfer hart appends a value to a saved thread's landing log or refuses it LAND_FULL -/
  | logAppend (id : Nat)
  /-- TASK_TAKE (R91): An IDLE or FREE slot takes the bottom eligible record of its core's deque -/
  | taskTake (core : Nat)
  /-- STEAL_PROBE (R92): A probed core sends its top record of the thief's launch or replies empty -/
  | stealProbe (core : Nat)
  /-- STEAL_RECORD_ARRIVE (R92): The thief core accepts or refuses a stolen record -/
  | stealRecordArrive (core : Nat)
  /-- STEAL_RETRY (R92): An IDLE slot probes again 1,024 cycles after an empty round -/
  | stealRetry (sl : Nat)
  /-- SPAWN_ARRIVE (R93): A target core pushes or refuses a SPAWNAT record and replies -/
  | spawnArrive (id : Nat)
  /-- NODE_PART_COMPLETE (R103): A node's part of a launch completes and its bound slots become FREE -/
  | nodePartComplete (node : Nat) (seq : Nat)
  /-- DONE_MESSAGE (R372): A done-tree node combines its children's status words and reports upward -/
  | doneMessage (node : Nat) (seq : Nat)
  /-- ENGINE_DISPATCH (R206): An engine command leaves the pending latch into its dispatch queue once earlier accesses are performed -/
  | engineDispatch (sl : Nat)
  /-- BURIN_TAKE (R262): The idle Burin takes the next takeable command in core rotation -/
  | burinTake (tile : Nat)
  /-- MMA_COMPLETE (R265): An MMA completes after its array time -/
  | mmaComplete (tile : Nat)
  /-- MMA_GRANULE_STOP (R280): A running MMA of a pre-empted slot stops at its next granule boundary -/
  | mmaGranuleStop (tile : Nat)
  /-- EPI_TAKE (R263): The epilogue engine takes a takeable EPI in rotation -/
  | epiTake (tile : Nat)
  /-- EPI_COMPLETE (R278): After its last write the EPI sets its tag and frees the ring place -/
  | epiComplete (tile : Nat)
  /-- HART_TAKE (R287): A free transfer hart takes firmware work or the next program command -/
  | hartTake (node : Nat) (h : Nat)
  /-- COMMAND_COMPLETE (R292): A hart writes STATUS, fences and sets the tag at the issuing core -/
  | commandComplete (node : Nat) (h : Nat)
  /-- FREEB_ARRIVE (R304): A router counts a FREEB against its combining entry and forwards or adds to the counter -/
  | freebArrive (id : Nat)
  /-- TABLE_SWITCH (R254): After all reads the tile checks the image and switches the pair -/
  | tableSwitch (tile : Nat)
  /-- EVICT_COMPLETE (R327): The write-back ends, the space is freed and the entry becomes EVICTED -/
  | evictComplete (node : Nat) (e : Nat)
  /-- PLATE_TABLE_STEP (R330): The node plate table performs one operation in arrival order -/
  | plateTableStep (node : Nat)
  /-- PREEMPT_MARK (R374): Firmware marks pre-emption on slots of lower-priority launches -/
  | preemptMark (seq : Nat) (core : Nat)
  /-- SAVE_COMPLETE (R376): The record is written, the entry becomes SAVED and the slot FREE -/
  | saveComplete (sl : Nat)
  /-- RESTORE (R376): Firmware restores a saved thread into a chosen slot -/
  | restore (birth : Nat) (gen : Nat)
  /-- RESTORE_CODE_LOAD (R376): A hart loads the launch's code into a FREE bank before a restore -/
  | restoreCodeLoad (birth : Nat) (gen : Nat)
  /-- PREEMPT_WITHDRAW (R377): A pre-emption not reaching SAVING in 1 ms is withdrawn -/
  | preemptWithdraw (sl : Nat)
  /-- SNOOP_EVENT (R359): A host write to a packet line enters the pool's event queue -/
  | snoopEvent (q : Nat) (data : List (Nat × BitVec 8))
  /-- LAUNCH (R363): Takes a LAUNCH packet and places it -/
  | launch (q : Nat)
  /-- PLACEMENT_RETRY (R369): Firmware chooses nodes again for waiting launches when a node part completes -/
  | placementRetry
  /-- CODE_MULTICAST (R371): A hart multicasts a launch's code image to each die's tiles -/
  | codeMulticast (seq : Nat) (die : Nat)
  /-- CODE_ACK (R371): A node's acknowledgement lets its cores be seeded -/
  | codeAck (seq : Nat) (node : Nat)
  /-- WAIT (R364): Takes a WAIT packet or parks its queue on a watched word -/
  | wait (q : Nat)
  /-- WAIT_REMAP (R364): The signal unit sees the condition hold and the pool takes the WAIT -/
  | waitRemap (q : Nat)
  /-- WAIT_TIMEOUT (R364): A WAIT's timeout passes and the queue stops with ERR 5 -/
  | waitTimeout (q : Nat)
  /-- SIGNAL (R365): Writes or adds to a signal word after earlier packets complete -/
  | signal (q : Nat)
  /-- PLATEOP (R365): Firmware evicts a named plate and signals the result -/
  | plateop (q : Nat)
  /-- NOP_PACKET (R365): Takes and consumes a NOP packet -/
  | nopPacket (q : Nat)
  /-- PACKET_REREAD (R367): A packet with a failing CRC is re-read 1 µs later, up to 8 times -/
  | packetReread (q : Nat)
  /-- DOWNLOAD (R397): Reads and verifies the image and runs bring-up -/
  | download (rep : Repair)
  /-- CTXSET (R394): Sets up a context from its record -/
  | ctxset
  /-- CTXEND (R393): Ends a context and clears its resources -/
  | ctxend
  /-- QREG (R358): Registers a host queue -/
  | qreg
  /-- QRESTART (R361): Restarts a stopped queue at its failing packet -/
  | qrestart
  /-- QCLASS (R373): Changes a queue's class -/
  | qclass
  /-- MEMWIN (R392): Sets or removes the host CXL.mem window -/
  | memwin
  /-- PODKEY (R355): Gives the module the pod secret for link keys -/
  | podkey
  /-- REGISTER_WRITE (R393): A host write to a mailbox register with no behaviour of its own -/
  | registerWrite (off : Nat) (v : Word)
  /-- HOST_MEM_ACCESS (R392): A host CXL.mem access is performed word by word at the HBM controllers -/
  | hostMemAccess (addr : Nat) (data : List (Option Word))
  /-- STATE_WINDOW_READ (R405): A host read of BAR2 reads each word as one step at its unit -/
  | stateWindowRead (off : BitVec 41)
  /-- BAR2_WRITE (R391): A host write to BAR2 completes Unsupported Request and changes nothing -/
  | bar2Write (off : BitVec 41) (v : Word)
  /-- POWER_UP_RESET (R397): Power-up reset brings the module to phase 0 -/
  | powerUpReset
  /-- BUCKET_PERIOD (R193): At each 1,024-cycle boundary every token bucket is set anew -/
  | bucketPeriod (node : Nat)
  /-- THERMAL_THROTTLE (R402): A node temperature threshold sets or lowers the throttle level -/
  | thermalThrottle (node : Nat) (temp : Nat)
  /-- DROOP_THROTTLE (R402): A supply droop holds throttle level 4 for 1,024 cycles -/
  | droopThrottle (node : Nat)
  /-- DROOP_THROTTLE_END (R402): The 1,024-cycle droop hold expires -/
  | droopThrottleEnd (node : Nat)
  /-- THERMAL_SHUTDOWN (R402): A node at 115 °C makes the management core remove module power -/
  | thermalShutdown (node : Nat)
  /-- ROTOR_MEETING (R337): At a slot pulse a port meets its partner, exchanges presence beats and sends -/
  | rotorMeeting (port : BitVec 6) (slot : Nat)
  /-- RELAY_OFFER (R341): A relay admits or refuses a packet offered for relaying -/
  | relayOffer (hdr : PodHeader) (body : PodBody)
  /-- FRAME_RECEIVE (R354): A frame is verified by its GCM tag and counter, or counted as failing -/
  | frameReceive (port : BitVec 6) (trailer : Vec) (payload : List Vec)
  /-- POD_PACKET_ARRIVE (R343): A target performs or discards a whole arrived packet by epoch and sequence window -/
  | podPacketArrive (hdr : PodHeader) (body : PodBody)
  /-- POD_RECEIPT (R344): A receipt of accepted sequence values reaches the sender -/
  | podReceipt (dst : BitVec 10) (seq : BitVec 32)
  /-- POD_PACKET_EXPIRE (R344): A packet 1 ms in the fabric is discarded and counted dropped -/
  | podPacketExpire (id : Nat)
  /-- WAITING_NOTICE (R346): A target sends a waiting notice every 100 µs that restarts the requester's timer -/
  | waitingNotice (id : Nat)
  /-- REMOTE_REPLY_TIMEOUT (R346): A remote access without reply for 1 ms ends PEERLOST or INDET -/
  | remoteReplyTimeout (id : Nat)
  /-- SUMMARY_PEER_TIMEOUT (R347): A peer records listed items missing after 1 ms as failed -/
  | summaryPeerTimeout (id : Nat)
  /-- SUMMARY_RESEND (R347): A summary request unanswered for 1 ms is re-sent -/
  | summaryResend (sl : Nat) (tag : BitVec 2) (peer : Peer)
  /-- PEER_LOST_DECLARE (R349): Three failed presence windows declare a peer lost and end its outstanding work -/
  | peerLostDeclare (pos : BitVec 10)
  /-- LOSS_NOTICE (R348): A received loss notice declares the peer lost at once -/
  | lossNotice (pos : BitVec 10)
  /-- POD_JOIN (R336): A module joins, exchanging join records and bringing up ports and keys -/
  | podJoin (pos : BitVec 10) (epoch : BitVec 8) (cap : Word) (ports : List PortTest)
  /-- KEY_ROTATE (R353): The management core installs a new key state when a counter passes 2^63 -/
  | keyRotate (port : BitVec 6) (partner : BitVec 10)
  /-- KEY_TIMEOUT (R356): No new key within 1 ms declares the port down for that pair -/
  | keyTimeout (port : BitVec 6) (partner : BitVec 10)
  /-- PROBE_EMPTY_REPLY (R92): An empty reply to a steal probe reaches the thief core, which goes on with its next probe or ends the round -/
  | probeEmptyReply (core : Nat)
  /-- THIEF_ANSWER (R92): The thief's acceptance or refusal reaches the victim core, which removes the in-transit record or clears its mark -/
  | thiefAnswer (core : Nat)
  /-- FAILED_PRESENCE_WINDOW (R338): A partner's presence beat does not arrive within the first 100 ns of live time, so the port sends nothing more in that meeting, its queued packets wait for another route, and the failure is counted -/
  | failedPresenceWindow (port : BitVec 6) (slot : Nat)
  /-- INSTALL_MESSAGE (R303): An MCAST install message or its answer reaches the router at module position `pos` (X + 165 Y, R20) or the hart; the router installs its combining entry and forwards, or holds the message until an entry frees, and the hart sends data once the whole tree has answered -/
  | installMessage (pos : Nat) (id : Nat)
  /-- UNKNOWN_COMMAND_CODE (R393): A write of an unknown code to MBCMD completes with ERR 1 and no effect -/
  | unknownCommandCode (code : BitVec 8)
  /-- RELAY_DROP_REFUSAL (R349): A refusal for a packet dropped from a relay buffer at a declaration reaches its originator, which then applies the containment table as if it had declared the peer lost -/
  | relayDropRefusal (id : Nat)
  deriving DecidableEq, Repr

end Sys2Proof
end

