-- ==== Sys2Proof/Machine/State.lean ====
section
/-! DEFINITION. The state of one Kazum module as plain data, what a step can end with, and the state after power-up
reset (R397). The field comments name the rule that gives the piece of state; INVENTORY.md lists each with its reset
value. Sparse tables (Tab) hold one entry per agent that differs from its default or has been touched. A launch is
known by `context × 2^32 + sequence number` (R370). -/

namespace Sys2Proof.Machine

/-! ### Small types -/

/-- The state of a slot (R79). -/
inductive SlotSt where | free | running | parked | saving | disabled
  deriving DecidableEq, Repr

/-- The reason of a park (R3, R404). -/
inductive Reason where | none | reg | word | access | look | tag | engine | idle
  deriving DecidableEq, Repr

/-- A thread: its birth slot and its generation (R34, R89). -/
structure Thread where
  birth : Nat
  gen : BitVec 12
  deriving DecidableEq, Repr

/-- A trap's cause with its address and info words (R378). -/
structure FaultInfo where
  cause : BitVec 8
  faddr : Word
  finfo : Word
  deriving DecidableEq, Repr

/-- A task record (R90): PC, four words, launch, the handle that goes to g0 (R91), the in-transit mark, and whether it
was taken from another core's deque (R92). -/
structure Task where
  pc : Nat
  w0 : Word
  w1 : Word
  w2 : Word
  w3 : Word
  launch : Nat
  parent : Word
  transit : Bool
  stolen : Bool
  deriving DecidableEq, Repr

/-! ### Requests in flight -/

/-- Who issued a request. -/
inductive Owner where
  /-- the slot `sl`, for its thread -/
  | slot (sl : Nat) (th : Thread)
  /-- hart `h` of a node (R285) -/
  | hart (node h : Nat)
  /-- the module at pod position `pos` (R342): its request `rid`, or the slot `rid` of an item, with its generation, and the
  item's batch (log entry 71) -/
  | remote (pos rid gen batch : Nat)
  /-- the PLATEOP packet of a queue, with its signal pair (R365) -/
  | host (q : Nat) (addr val : Word)
  /-- the epilogue engine of a tile, for a table word in another module (R277) -/
  | epi (tile : Nat)
  deriving DecidableEq, Repr

/-- The unit that owns the bank queue of a request (R196). -/
inductive Target where
  /-- banks of a core's local store, one bit for each bank (R23) -/
  | store (core : Nat) (banks : BitVec 4)
  /-- column slice of a tile's B-SRAM (R25) -/
  | slice (tile col : Nat)
  /-- code banks of a tile, which only transfer harts reach as data (R33; log entry 101) -/
  | code (tile : Nat)
  /-- HBM channel, stack × 32 + channel (R177) -/
  | hbm (chan : Nat)
  /-- plate table of a node (R330) -/
  | plates (node : Nat)
  /-- task deque of a core (R90) -/
  | deque (core : Nat)
  /-- landing unit of a core (R118) -/
  | landing (core : Nat)
  /-- another module (R342) -/
  | remote (pos : Nat)
  deriving DecidableEq, Repr

/-- What a request does at its target. -/
inductive MemOp where
  /-- scalar load of `n` bytes with a sync mode (R158) -/
  | load (n : Nat) (sync : BitVec 2)
  /-- scalar store of `n` bytes (R158); also one plane piece of STBP (R234) -/
  | store (n : Nat) (sync : BitVec 2) (v : Word)
  /-- LDV, and one 32-byte read of TMLOAD (R231, R254) -/
  | loadV
  /-- STV (R231) -/
  | storeV (v : Vec)
  /-- WSTATE (R169) -/
  | wstate
  /-- WSET (R170) -/
  | wset (s : BitVec 2)
  /-- JOIN (R98) -/
  | join
  /-- atomic: operation op[5:0], G[b], G[(b+1) mod 32], G[d] (R171) -/
  | amo (op : BitVec 6) (b b2 d : Word)
  /-- landing of a value; `direct` names the core of a value sent to a cached core, `fwd` once a home core forwarded it
  (R118, R121) -/
  | landing (val : Word) (direct : Option Nat) (fwd : Bool)
  /-- PLT instruction: op, G[a], G[b], G[(b+1) mod 32] (R319) -/
  | plt (op : BitVec 7) (a b b2 : Word)
  /-- SPAWNAT (R97) -/
  | spawn (rec : Task)
  /-- read of `n` bytes by a transfer hart, which learns the word's state too (R296, R297, R299) -/
  | peek (n : Nat)
  /-- write of `n` bytes by a transfer hart; `sf` as an .SF store (R296) -/
  | hput (n : Nat) (sf : Bool) (v : Word)
  /-- write of `n` bytes that marks its word POISON (R297) -/
  | mark (n : Nat)
  /-- FILLW's write of a word with a state (R305) -/
  | fillw (v : Word) (st : BitVec 2)
  deriving DecidableEq, Repr

/-- Where a request stands between its issue and its reply (R198 to R202). -/
inductive Stage where
  /-- in the slot's outbound queue -/
  | outbound
  /-- from another module, in the queue of its context at the port where it enters the mesh (R193) -/
  | port
  /-- in a route set -/
  | route
  /-- in its target's bank queue -/
  | queued
  /-- in the wait list of a core (R164) -/
  | waiting (core : Nat)
  /-- refused by a full wait list; sent again from cycle `at_` (R164) -/
  | retry (at_ : Nat)
  /-- at the plate table, waiting for the eviction of entry `e` (R323) -/
  | evicting (e : Nat)
  /-- held in a landing buffer (R116) -/
  | held (core : Nat)
  /-- passed to the transfer hart for a landing log (R118) -/
  | log
  /-- sent to another module, from cycle `at_` (R346) -/
  | sent (at_ : Nat)
  /-- performed; the reply is on its way -/
  | replied (v : Vec) (fault : Option FaultInfo)
  deriving DecidableEq, Repr

/-- One perform on its way to its target and back. -/
structure Req where
  id : Nat
  /-- order in its present path, queue or list -/
  stamp : Nat
  own : Owner
  ctx : Nat
  /-- source node of its path (R200) -/
  src : Nat
  op : MemOp
  /-- address as the program formed it: the 52 bits of ea, or a landing address (R162) -/
  ea : Word
  /-- byte index in State.mem: physical HBM address or on-chip module address -/
  loc : Nat
  tgt : Target
  relaxed : Bool
  /-- SENDR with .RL (R112) -/
  rl : Bool
  /-- batch tag and item number (R185) -/
  item : Option (Nat × Nat)
  /-- the access of the slot that this perform belongs to, and its number in it (R235, R254) -/
  acc : Nat
  part : Nat
  /-- bits [63:8] of the info word its faults carry (R162) -/
  info : Word
  limit : Nat
  misses : Nat
  stage : Stage
  /-- a waiting notice has said that it stands in a wait list of the target module (R164, R346) -/
  listed : Bool := false
  /-- a request of another module in a wait list: cycle from which the next waiting notice goes (R346) -/
  noticeAt : Nat := 0
  deriving DecidableEq, Repr

/-- Where a completion writes. -/
inductive Dest where
  | none
  | g (r : Reg)
  | v (r : VReg)
  /-- the pair G[d], G[(d+1) mod 32] of PMAKE and PATT (R319) -/
  | gg (r : Reg)
  deriving DecidableEq, Repr

/-- How a reply's data become the value of the destination. -/
inductive Fill where
  /-- sign-extended from `n` bytes (R158) -/
  | sx (n : Nat)
  /-- zero-extended from `n` bytes -/
  | zx (n : Nat)
  /-- the 256 bits -/
  | vec
  /-- LDBP (R233): format byte, L, chunk, EFMT, block address -/
  | planes (fmt : BitVec 8) (l c efmt : Nat) (base : Nat)
  /-- SPAWNAT's status, with the counter FORKS or INLINE (R97) -/
  | status
  /-- PLT results (R317) -/
  | plate
  /-- TMLOAD: tile, pair and image address (R254) -/
  | table (tile p base : Nat)
  deriving DecidableEq, Repr

/-- An access of a slot that is outstanding (R83). -/
structure Acc where
  id : Nat
  relaxed : Bool
  /-- a PLT instruction (R320) -/
  plt : Bool
  dest : Dest
  /-- presence bits of the destination before issue, for a save in a WORD park (R104) -/
  oldPres : BitVec 48
  pca : Nat
  /-- value of ISSUED after this access issued (R104: whether it is the last instruction issued) -/
  issued : Word
  fill : Fill
  /-- performs without their reply -/
  left : Nat
  /-- data of the performs by number (R235) -/
  data : List (Nat × Vec)
  /-- the fault of the lowest-numbered faulting perform (R235) -/
  fault : Option (Nat × FaultInfo)
  deriving DecidableEq, Repr

/-- A batch item (R185). -/
structure Item where
  tag : Nat
  seq : Nat
  /-- the model's own number of the tag's batch, from one close to the next (log entry 71); 0 where an item settles at issue -/
  batch : Nat := 0
  peer : Option Peer
  /-- performs not yet settled -/
  left : Nat
  /-- failure code, 0 for none (R186) -/
  code : BitVec 8
  /-- the slot has learned the outcome through a summary (R185, R191) -/
  known : Bool
  /-- fence marker of the item: 0 none, 1 sent, 2 returned (R189), and the scope of the fence that sent it -/
  marker : Nat
  scope : Nat := 0
  /-- the fault of the first perform in issue order that has faulted, while others are unsettled (R235) -/
  fault : Option (Nat × FaultInfo) := none
  /-- a forwarding hint of this item awaits its acknowledgement (R406) -/
  hint : Bool
  /-- handle bits [63:19] when the value was sent by way of the home core (R121) -/
  viaHome : Option (BitVec 45)
  /-- cores whose store or landing unit the item addresses; nodes of its node memory and B-SRAM; local module (R189) -/
  cores : List Nat
  nodes : List Nat
  loc : Bool
  deriving DecidableEq, Repr

/-- How far a summary has come (R185, R190, R347). -/
inductive Asked where
  /-- the request is on its way -/
  | sent
  /-- it has left for another module, at the cycle given -/
  | posted (at_ : Nat)
  /-- the peer's reply is on its way -/
  | answered
  deriving DecidableEq, Repr

/-- A summary that a slot has asked a peer for: it covers the tag's items of that peer with numbers below `upto`. -/
structure Ask where
  tag : Nat
  peer : Peer
  upto : Nat
  st : Asked
  /-- the numbers that its request to another module lists (R347), and their batch -/
  items : List Nat := []
  batch : Nat := 0
  deriving DecidableEq, Repr

/-- A lookahead window (R71): the access, command or pipeline result it waits for, its count, and the registers
(R108 order: 0 to 31 g, 32 to 47 v) that its completion fills. -/
structure Win where
  id : Nat
  count : Nat
  dests : BitVec 48
  deriving DecidableEq, Repr

/-- A forwarding hint or an invalidation on its way to a sender (R120). -/
structure Hint where
  id : Nat
  /-- the sender -/
  own : Owner
  /-- it has left for another module -/
  posted : Bool
  handle : BitVec 45
  /-- core to install; none invalidates -/
  core : Option Nat
  /-- the item whose settlement waits for the acknowledgement (R406) -/
  item : Option (Nat × Nat)
  deriving DecidableEq, Repr

/-! ### Engines -/

/-- The commands of engines 0, 1 and 2 (R269, R288). -/
inductive CmdKind where
  | mmaz | mma | rfree | epi | copy | gather | scatter | bins | mcast | freeb | fillw
  deriving DecidableEq, Repr

/-- A queued engine command with everything captured at its issue (R271, R288). -/
structure Cmd where
  id : Nat
  kind : CmdKind
  /-- issuing core, slot and thread -/
  sl : Nat
  th : Thread
  ctx : Nat
  launch : Nat
  pca : Nat
  a : Word
  b : Word
  /-- AEXT0-3, ASTR0-3 of MMA; SBPTR, ROWSTRIDE of EPI -/
  desc : List Word
  sg : BitVec 2
  /-- ring tile fixed at issue (R259) and accumulation mode -/
  rt : Nat
  mode : Bool
  /-- next k-block and row of a restored MMA (R282) -/
  nextJ : Nat
  nextR : Nat
  /-- name of the plate that covered B at the stop, and B's offset in it (R281) -/
  plate : Word := 0#64
  off : Nat := 0
  deriving DecidableEq, Repr

/-- A ring tile in a HELD place (R260). -/
structure Ring where
  rt : Nat
  /-- INT32 accumulation (R259) -/
  mode : Bool
  poison : Bool
  acc : Vector (BitVec 32) 256
  th : Thread
  deriving DecidableEq, Repr

/-- The command a Burin runs (R264): position in the step order and the words read so far for the present block. -/
structure BurinJob where
  cmd : Cmd
  /-- cycle from which the array is free for the next step (R265) -/
  since : Nat
  j : Nat
  r : Nat
  /-- words of the eight B blocks of k-block `j`, in read order (R266) -/
  bw : List Word
  /-- words of the A block of step (r, j) -/
  aw : List Word
  deriving DecidableEq, Repr

/-- The command an epilogue engine runs (R277): the table words read, and the number of writes made. -/
structure EpiJob where
  cmd : Cmd
  tw : List Word
  writes : Nat
  /-- every write is data 0 in state POISON (R278) -/
  psn : Bool
  /-- a write was POISON or was refused -/
  bad : Bool
  /-- a table word in another module is being read -/
  busy : Bool
  deriving DecidableEq, Repr

/-- One access of a hart's engine program; addresses are of 52 bits. -/
inductive Micro where
  /-- read `n` bytes into the job's buffer; `idx` marks an index or key word, whose EMPTY state counts (R299, R301) -/
  | read (n addr : Nat) (idx : Bool)
  /-- write `n` bytes of buffer entry `i`; `sf` as an .SF store (R296); a POISON entry marks its word (R297) -/
  | copy (n addr i : Nat) (sf : Bool)
  /-- write a word; `sf` as an .SF store -/
  | put (addr : Nat) (v : Word) (sf : Bool)
  /-- write a word with data 0 in state POISON (R299) -/
  | poison (addr : Nat)
  /-- FILLW: write a word with a state (R305) -/
  | fill (addr : Nat) (v : Word) (s : BitVec 2)
  /-- ABUMP of 1 with a limit (R301) -/
  | bump (addr limit : Nat)
  deriving DecidableEq, Repr

/-- What a hart does next, once its accesses are made. -/
inductive HartPhase where
  /-- the descriptor has been read (R293) -/
  | desc
  /-- element, row, item or word `unit` is about to begin -/
  | unit
  /-- the index word of row `unit` has been read (R299) -/
  | index
  /-- the key word of item `unit` has been read (R301) -/
  | key
  /-- the counter of the bin, then the overflow counter, has answered (R301) -/
  | bump (k : Nat)
  | ovf (k : Nat)
  /-- the unit's copies and writes are made -/
  | rows
  /-- the install messages of an MCAST are in the tree (R303) -/
  | install
  /-- STATUS and, for BINS, DROPS are still to be written (R292, R301) -/
  | status
  /-- STATUS is written -/
  | wrote
  /-- only the tag write is left (R292) -/
  | tag
  deriving DecidableEq, Repr

/-- What a hart works on (R287). -/
inductive HartWork where
  /-- a program's command -/
  | cmd (c : Cmd)
  /-- write-back of plate entry `e`, as a COPY (R327) -/
  | evict (e : Nat) (c : Cmd)
  deriving DecidableEq, Repr

/-- The command a hart runs. -/
structure HartJob where
  work : HartWork
  phase : HartPhase
  /-- descriptor words (R293) -/
  dw : List Word
  /-- element, row, item or word number -/
  unit : Nat
  todo : List Micro
  /-- the reads of the present unit: value, POISON (or, for an index, EMPTY) -/
  buf : List (Word × Bool)
  err : Nat
  more : Bool
  fcause : Nat
  where_ : Nat
  /-- BINS: items dropped -/
  drops : Nat
  /-- MCAST: handle, and whether the tree's answer is due (R303) -/
  handle : Word
  due : Bool
  /-- a request of the hart is in flight -/
  busy : Bool
  /-- no further unit is written (R291) -/
  stop : Bool
  deriving DecidableEq, Repr

/-- A combining entry of a router (R303, R304): its parent's position (none at the root), the FREEBs it expects and has
counted, the hart that sends, and the children whose install answer is due. -/
structure Comb where
  handle : Word
  ctx : Nat
  parent : Option Nat
  expect : Nat
  seen : Nat
  root : Nat
  h : Nat
  due : List Nat
  deriving DecidableEq, Repr

/-- A message of MCAST or FREEB on virtual channel 3 (R303, R304), at the router of a module position (R20). -/
inductive Ctl where
  /-- install message at a router, with its entry and the receivers in its subtree -/
  | install (id pos : Nat) (comb : Comb) (recv : List Nat)
  /-- the answer of the child `from_` at its parent's router -/
  | answer (id pos from_ : Nat) (handle : Word) (ctx : Nat)
  /-- the answer of the whole tree, for hart `h` of a node -/
  | ready (id pos node h ctx : Nat)
  /-- FREEB of a node with a handle at a router; it counts for `weight` receivers -/
  | freeb (id pos node : Nat) (handle : Word) (ctx weight : Nat)
  deriving DecidableEq, Repr

/-! ### Slots, cores, tiles, nodes -/

/-- A thread slot (R24, R79). -/
structure Slot where
  st : SlotSt
  reason : Reason
  /-- the present park has been counted (R75) -/
  inPark : Bool
  /-- one more than the cycle of the slot's last turn (R81) -/
  turnAt : Nat
  pc : Nat
  g : Vector Word 32
  v : Vector Vec 16
  /-- presence bits and pending marks, g0-g31 in [31:0], v0-v15 in [47:32] (R106, R72) -/
  pres : BitVec 48
  pend : BitVec 48
  /-- registers with an uncorrectable and with a correctable ECC error (R156, R382) -/
  rerr : BitVec 48
  rcorr : BitVec 48
  /-- generation counter of the slot (R89) -/
  gen : BitVec 12
  /-- the thread (R34) and its context and launch -/
  th : Thread
  ctx : Nat
  launch : Nat
  /-- code bank of the tile and code length (R66) -/
  bank : Nat
  n : Nat
  efmt : Word
  shape : Word
  tmsel : Word
  batch : Word
  /-- CODE, TAG and SEQ of BSTAT (R186) -/
  bstat : BitVec 16
  btrap : Word
  /-- LOGGED of LANDST (R122) -/
  logged : Nat
  tvec : Word
  epc : Word
  fcause : Word
  faddr : Word
  finfo : Word
  waitlim : Word
  /-- counters 0x050 to 0x05F (R84) -/
  cnt : Vector Word 16
  wins : List Win
  /-- deferred-fault record (R161) -/
  dfr : Option FaultInfo
  accs : List Acc
  items : List Item
  /-- summaries asked for and not yet arrived (R190) -/
  asked : List Ask
  latch : Option Cmd
  /-- commands of engines 0 and 1 that a pending pre-emption has stopped or withdrawn, in issue order (R280) -/
  stopped : List Cmd
  /-- ring tiles owned, oldest first (R259) -/
  owned : List Nat
  /-- descriptor registers of engine 0 and engine 1 (R272), engine status words (R276) -/
  edesc0 : Vector Word 13
  edesc1 : Vector Word 2
  estat0 : Word
  estat1 : Word
  attach : List Word
  /-- route cache, most recently used first (R120) -/
  routes : List (BitVec 45 × Nat)
  named : BitVec 64
  /-- a turn is to be forgone for a replay, waiting for register (R73) -/
  replay : Option Nat
  /-- cycle at which pre-emption was marked (R105) -/
  pre : Option Nat
  drain : Bool
  /-- target fault to be taken at the next turn, and the access's offset (R161) -/
  tfault : Option FaultInfo
  /-- an EXIT or an unhandled trap waits for its accesses, PLT instruction and detaches (R209, R320) -/
  ending : Option (BitVec 8)
  /-- cycle from which an IDLE slot probes again (R92) -/
  retryAt : Nat
  changes : BitVec 16
  /-- class of the slot's launch when the thread was born or restored (R373) -/
  cls : Nat
  deriving DecidableEq, Repr

/-- An entry of a landing buffer (R116): request that holds the value, the thread and register it is for. -/
structure Held where
  id : Nat
  th : Thread
  /-- landing address as the sender wrote it (R108, R375) -/
  addr : Word
  code : BitVec 7
  val : Word
  since : Nat
  deriving DecidableEq, Repr

/-- State of an away-directory entry (R117). -/
inductive AwaySt where | saving | saved | restoring | moved (core : Nat)
  deriving DecidableEq, Repr

/-- An entry of the away directory (R117, R375): thread, state, save record, spill areas, launch, slot being saved or
restored, core it was saved from. -/
structure Away where
  th : Thread
  st : AwaySt
  recNo : Nat
  spills : List Nat
  ctx : Nat
  launch : Nat
  slot : Nat
  from_ : Nat
  /-- a code load for the restore holds this core's bank (R376) -/
  code : Option (Nat × Nat)
  /-- reference of the oldest of three ring tiles, for which the Burin area has no room; 0 for none (R281, log entry 45) -/
  third : Word := 0#64
  deriving DecidableEq, Repr

/-- A steal probe of a core (R92): the slot that steals, its launch, and the targets of the round, each a list of cores
(one core, or the cores of a node). -/
inductive Probe where
  /-- on its way to the first target -/
  | asked (sl launch : Nat) (targets : List (List Nat))
  /-- the record in transit from a victim core -/
  | record (sl launch : Nat) (rest : List (List Nat)) (victim : Nat) (task : Task)
  /-- an empty reply is on its way -/
  | empty (sl launch : Nat) (rest : List (List Nat))
  deriving DecidableEq, Repr

/-- A wake walk that is not over (R165, R201): byte index of its word, the entries that its present pass has still to look
at, and whether the pass has performed one. -/
structure Walk where
  word : Nat
  rest : List Nat
  again : Bool
  deriving DecidableEq, Repr

/-- A core (R21). -/
structure Core where
  deque : List Task
  /-- one more than the cycle of the deque's last entry or removal (R90) -/
  dequeAt : Nat
  sched : List (BitVec 32)
  cursor : Nat
  owner : Option Nat
  lbuf : List Held
  /-- buffer entries reserved for a restore (R119) -/
  reserve : Nat
  away : List Away
  /-- requests waiting on word states, in order of entry (R164) -/
  waitl : List Nat
  walks : List Walk
  tags : BitVec 64
  tagerr : BitVec 64
  q0 : List Cmd
  q1 : List Cmd
  q2 : List Cmd
  probe : Option Probe
  /-- answers on their way to victims: victim core, record, accepted (R92) -/
  answers : List (Nat × Task × Bool)
  deriving DecidableEq, Repr

/-- A code bank's holder (R370): launch, and whether the image is in place. -/
structure Holder where
  launch : Nat
  loaded : Bool
  deriving DecidableEq, Repr

/-- A tile (R21, R25). -/
structure Tile where
  ring : Vector (Option Ring) 8
  burin : Option BurinJob
  brot : Nat
  /-- one more than the cycle in which an MMAZ or RFREE last occupied the Burin (R262) -/
  burinAt : Nat
  epi : Option EpiJob
  erot : Nat
  /-- table pairs 2 and 3, as 128 words each; none is UNLOADED (R251) -/
  pair2 : Option (List Word)
  pair3 : Option (List Word)
  /-- TMLOAD in progress (R255) -/
  tload : Option Nat
  rbus : Nat
  hold0 : Option Holder
  hold1 : Option Holder
  deriving DecidableEq, Repr

/-- State of a plate entry (R313). -/
inductive PlateSt where | free | filling | sealed | open_ | evicting | evicted
  deriving DecidableEq, Repr

/-- A plate table entry (R313). -/
structure Plate where
  name : Word
  st : PlateSt
  kind : Bool
  dirty : Bool
  fromb : Bool
  bv : Bool
  egen : BitVec 12
  pins : BitVec 16
  unit : Nat
  base : Nat
  len : Nat
  ctx : Nat
  back : Nat
  launch : Nat
  last : BitVec 32
  deriving DecidableEq, Repr

/-- A token bucket (R193): tokens, and whether its context was active in the period. -/
structure Bucket where
  hbm : Nat
  fab : Nat
  hbmAct : Bool
  fabAct : Bool
  deriving DecidableEq, Repr

/-- A node (R21). -/
structure Node where
  plates : Tab Plate
  attaches : BitVec 32
  harts : Tab HartJob
  /-- registers of the hart slots, and one more than the cycle of the harts' last turn (R285) -/
  hslots : Tab Slot
  hartAt : Nat
  hrot : Nat
  /-- MCAST number (R303) -/
  mq : BitVec 4
  /-- corrected words, FREEBs dropped, single march faults, withdrawn pre-emptions (R156, R304, R398, R377) -/
  corrected : Nat
  freebDrops : Nat
  marchOnce : Nat
  withdrawn : Nat
  temp : Nat
  /-- throttle level of the firmware; first cycle and end of each droop hold (R402) -/
  level : Nat
  droop : List (Nat × Nat)
  buckets : Tab Bucket
  /-- one more than the number of the last period whose boundary the port has handled (R193) -/
  period : Nat
  /-- the value at the head of the landing virtual channel into the node, while a full buffer stalls it (R116) -/
  landHead : Option Nat
  deriving DecidableEq, Repr

/-! ### Module: contexts, launches, queues, pod -/

/-- A live context (R393, R394). -/
structure Ctx where
  pctx : Nat
  plateG : Nat
  hbmShare : Nat
  fabShare : Nat
  hbmBase : Nat
  hbmLen : Nat
  saveBase : Nat
  saveRecs : Nat
  spills : Nat
  allot : BitVec 10240
  windows : List (BitVec 128)
  podTab : Tab Word
  lastSeq : BitVec 32
  usedRecs : List Nat
  usedSpills : List Nat
  deriving DecidableEq, Repr

/-- A placed core's share of a launch (R368): slots to seed, first ordinal, schedule items, what it holds. -/
structure Share where
  core : Nat
  slots : Nat
  ord : Nat
  items : List (BitVec 32)
  owns : Bool
  seeded : Bool
  deriving DecidableEq, Repr

/-- A launch's part on a node (R102, R103, R372). -/
structure Part where
  node : Nat
  word : Word
  acked : Bool
  complete : Bool
  sent : Bool
  shares : List Share
  /-- plate entries pinned for placement (R333) -/
  pins : List Nat
  deriving DecidableEq, Repr

/-- How far a taken launch has come. -/
inductive LaunchSt where
  /-- waits for free nodes (R369) -/
  | unplaced
  /-- waits for its fill kernel, launch `k` (R332) -/
  | filling (k : Nat)
  | placed
  | done
  deriving DecidableEq, Repr

/-- The fields of a LAUNCH packet (R363). -/
structure LaunchPkt where
  barrier : Bool
  nopre : Bool
  seedw : Bool
  cls : Nat
  quota : Nat
  domain : Nat
  mode : Nat
  n : Nat
  code : Nat
  work : Nat
  shift : Nat
  fill : Nat
  tvec : Nat
  plate : Word
  first : Nat
  count : Nat
  args : List Word
  sig : Word
  val : Word
  deriving DecidableEq, Repr

/-- A taken launch (R363). -/
structure Launch where
  pkt : LaunchPkt
  ctx : Nat
  /-- queue, and ordinal among the packets taken from it; none for a fill kernel -/
  queue : Nat
  cls : Nat
  /-- order of take -/
  taken : Nat
  st : LaunchSt
  parts : List Part
  /-- dies whose code multicast has run (R371) -/
  dies : List Nat
  deriving DecidableEq, Repr

/-- A registered host queue (R358 to R361). -/
structure HQueue where
  ring : Nat
  size : Nat
  ridx : Nat
  qstat : Nat
  ctx : Nat
  cls : Nat
  fills : Nat
  nfill : Nat
  /-- index of the next packet -/
  idx : Nat
  state : Nat
  err : Nat
  seq : BitVec 32
  /-- snoop events in the pool's event queue not yet handled (R359) -/
  event : Bool
  /-- hardware queue slot, and since when one is asked for (R360) -/
  slot : Option Nat
  askedAt : Option Nat
  /-- CRC re-reads of the present packet, and the cycle of the next (R367) -/
  rereads : Nat
  rereadAt : Nat
  /-- start of the present WAIT, and the signal unit's remap request (R364) -/
  waitSince : Nat
  remap : Bool
  /-- launches and plate operations of the queue not yet complete (R363, R365) -/
  pending : List Nat
  deriving DecidableEq, Repr

/-- Mailbox and boot registers (R393). -/
structure Mbox where
  arg0 : Word
  arg1 : Word
  arg2 : Word
  arg3 : Word
  busy : Bool
  /-- the context that a CTXEND command ends, while harts of it stand inside a unit (R311) -/
  ending : Option Nat
  err : Nat
  result : BitVec 32
  phase : Nat
  bootErr : Nat
  detail : Nat
  deriving DecidableEq, Repr

/-- A join record (R336). -/
structure Join where
  epoch : BitVec 8
  cap : Word
  deriving DecidableEq, Repr

/-- A frame on a link: its trailer flit and its sealed payload flits (R354). -/
structure Frame where
  trailer : Vec
  payload : List Vec
  deriving DecidableEq, Repr

/-- A port (R337, R357): bring-up results, partners for which it is down, the last meeting, link counters (R345). -/
structure Port where
  test : Option PortTest
  disabled : Bool
  down : List Nat
  /-- the last global slot whose meeting the port has begun, and whether the partner's presence beat came (R338) -/
  met : Option (Nat × Bool)
  /-- failing frames in a row in that meeting (R345) -/
  bad : Nat
  errs : Nat
  /-- bytes and frames that the port has sent in that meeting (R339, R354) -/
  sent : Nat
  wire : List Frame
  /-- flits of accepted frames, not yet taken as packets; none stands where a frame was lost -/
  rx : List (Option Vec)
  deriving DecidableEq, Repr

/-- A key state (R353 to R356): rotation, counter, last accepted counter, raised KEYEXH since. -/
structure Key where
  rot : Nat
  secret : BitVec 256
  ctr : Nat
  last : Option Nat
  exhausted : Option Nat
  deriving DecidableEq, Repr

/-- What a target remembers of a source's sequence numbers (R344). -/
structure RxWin where
  high : Option (BitVec 32)
  seen : BitVec 4096
  deriving DecidableEq, Repr

/-- A packet that leaves this module or lies in its relay buffer (R341, R342). -/
structure Packet where
  id : Nat
  hdr : PodHeader
  body : PodBody
  /-- the request of this module that it carries -/
  req : Option Nat
  /-- first sent at this cycle (R344) -/
  firstSent : Option Nat
  relayed : Bool
  deriving DecidableEq, Repr

/-- A sent packet without its receipt (R344). -/
structure Unreceipted where
  dst : Nat
  seq : BitVec 32
  since : Nat
  deriving DecidableEq, Repr

/-- A summary request of another module that waits for its items here (R347). -/
structure PeerAsk where
  id : Nat
  pos : Nat
  sl : Nat
  tag : BitVec 2
  batch : Nat
  items : List Nat
  since : Nat
  deriving DecidableEq, Repr

/-- An item another module sent here: sender slot, tag, number; settled with a code (R185, R347). -/
structure PeerItem where
  pos : Nat
  sl : Nat
  tag : Nat
  seq : Nat
  batch : Nat
  /-- performs not yet settled, those not yet arrived included; performs not yet arrived -/
  left : Nat
  due : Nat
  code : BitVec 8
  /-- the faulting access, the first in issue order, and its reason (R161, R235) -/
  fault : Option (Nat × Nat)
  /-- recorded as missing (R347) -/
  gone : Bool
  /-- a hint awaits its acknowledgement (R406) -/
  hint : Bool
  deriving DecidableEq, Repr

/-- The pod's view of this module (R335 to R357). -/
structure Pod where
  pos : Option Nat
  joins : Tab Join
  lost : List Nat
  ports : Tab Port
  keys : Tab Key
  /-- consecutive failed presence windows by position (R348) -/
  fails : Tab Nat
  /-- number of the present global slot (R337) -/
  slot : Nat
  nextSeq : Tab (BitVec 32)
  rx : Tab RxWin
  out : List Packet
  relay : List Packet
  unreceipted : List Unreceipted
  asks : List PeerAsk
  items : List PeerItem
  /-- receipts, loss notices and refusals that have arrived, with their source (R344, R348, R349) -/
  inbox : List (Nat × PodBody)
  /-- ports and partners for which KEYEXH has been raised to the management core (R356) -/
  keyexh : List (Nat × Nat)
  deriving DecidableEq, Repr

/-- A result of a core's function pipeline or mean stage (R222, R242). -/
structure Pipe where
  id : Nat
  due : Nat
  sl : Nat
  th : Thread
  mean : Bool
  dest : VReg
  val : Vec
  deriving DecidableEq, Repr

/-- Whose move is next (the model's schedule, log entry 3). -/
inductive Move where
  /-- the core offers its turn to a slot (R81) -/
  | turn (sl : Nat)
  /-- an event of the table takes place -/
  | event (i : Instr)
  deriving DecidableEq, Repr

/-- What the host has been answered: a read of BAR2 or of CXL.mem, word by word, with the poison indication; or an
Unsupported Request completion (R391, R392, R405). -/
inductive HostOut where
  | word (v : Word) (poison : Bool)
  | unsupported
  deriving DecidableEq, Repr

/-- The whole module. -/
structure State where
  /-- the model's own: schedule, slot whose turn is taken, counters for numbers and free values (log entries 3, 4) -/
  agenda : List Move
  cur : Nat
  nextId : Nat
  freeCtr : Nat
  cycle : Nat
  power : Bool
  slots : Tab Slot
  cores : Tab Core
  tiles : Tab Tile
  nodes : Tab Node
  mem : Memory
  /-- word states that are not FULL, by word address div 8 (R155) -/
  wst : Tab (BitVec 2)
  /-- words with an uncorrectable, and with a correctable, ECC error, by address div 8 (R156) -/
  bad : List Nat
  corr : List Nat
  hostMem : Memory
  /-- host addresses that cannot be read over CXL (R393): from, to -/
  hostHoles : List (Nat × Nat)
  reqs : List Req
  pipe : List Pipe
  hints : List Hint
  ctls : List Ctl
  /-- combining entries of the routers, by module position (R20, R303) -/
  routers : Tab (List Comb)
  /-- contributions of threads that ended away from their birth node: launch, birth node, thread, status (R432) -/
  contribs : List (Nat × Nat × Thread × Word)
  ctxs : Tab Ctx
  launches : Tab Launch
  queues : Tab HQueue
  mbox : Mbox
  memwin : Option (Nat × Nat)
  podSecret : Option (BitVec 256)
  /-- firmware SRAM bytes 0 to 0x5F_FFFF, the image (R396) -/
  image : Memory
  /-- defective and excluded physical positions (die, x, y), sorted (R400) -/
  defects : List (Nat × Nat × Nat)
  /-- BOOTST history, latest first (R403) -/
  bootHist : List Word
  /-- readings of the process-monitor ring oscillators, by die × 64 + number: inputs, read for reporting only (R402) -/
  oscs : Tab Nat
  pod : Pod
  hostOut : List HostOut
  deriving DecidableEq, Repr

/-! ### What a step can end with -/

/-- Reasons for which the machine stops. -/
inductive Fault where
  /-- the management core has removed module power: state is lost (R402). Raised by `step` until a POWER_UP_RESET
  event; safe, since nothing is claimed of a module without power. -/
  | powerRemoved
  deriving DecidableEq, Repr

/-- Reasons for which the model has no next state. -/
inductive Refusal where
  /-- raised by Dispatch for an instruction without a meaning in the model; safe -/
  | notModelled (mnemonic : String)
  deriving DecidableEq, Repr

/-! ### Reset -/

/-- Every register of a slot before its first thread (log entry 2); FREE (R404). -/
def Slot.reset : Slot where
  st := .free
  reason := .none
  inPark := false
  turnAt := 0
  pc := 0
  g := Vector.replicate 32 0#64
  v := Vector.replicate 16 0#256
  pres := BitVec.allOnes 48
  pend := 0#48
  rerr := 0#48
  rcorr := 0#48
  gen := 0#12
  th := { birth := 0, gen := 0#12 }
  ctx := 0
  launch := 0
  bank := 0
  n := 0
  efmt := 0#64
  shape := 0x3F800000#64
  tmsel := 0#64
  batch := 0#64
  bstat := 0#16
  btrap := 0#64
  logged := 0
  tvec := 0#64
  epc := 0#64
  fcause := 0#64
  faddr := 0#64
  finfo := 0#64
  waitlim := 256#64
  cnt := Vector.replicate 16 0#64
  wins := []
  dfr := none
  accs := []
  items := []
  asked := []
  latch := none
  stopped := []
  owned := []
  edesc0 := (Vector.replicate 13 0#64).set 0 1#64 |>.set 1 1#64 |>.set 2 1#64 |>.set 3 1#64
  edesc1 := Vector.replicate 2 0#64
  estat0 := 0#64
  estat1 := 0#64
  attach := []
  routes := []
  named := 0#64
  replay := none
  pre := none
  drain := false
  tfault := none
  ending := none
  retryAt := 0
  changes := 0#16
  cls := 0

/-- A core after reset. -/
def Core.reset : Core where
  deque := []
  dequeAt := 0
  sched := []
  cursor := 0
  owner := none
  lbuf := []
  reserve := 0
  away := []
  waitl := []
  walks := []
  tags := 0#64
  tagerr := 0#64
  q0 := []
  q1 := []
  q2 := []
  probe := none
  answers := []

/-- A tile after reset. -/
def Tile.reset : Tile where
  ring := Vector.replicate 8 none
  burin := none
  brot := 0
  burinAt := 0
  epi := none
  erot := 0
  pair2 := none
  pair3 := none
  tload := none
  rbus := 0
  hold0 := none
  hold1 := none

/-- A FREE plate entry (R313). -/
def Plate.reset : Plate where
  name := 0#64
  st := .free
  kind := false
  dirty := false
  fromb := false
  bv := false
  egen := 0#12
  pins := 0#16
  unit := 0
  base := 0
  len := 0
  ctx := 0
  back := 0
  launch := 0
  last := 0#32

/-- A node after reset. -/
def Node.reset : Node where
  plates := []
  attaches := 0#32
  harts := []
  hslots := []
  hartAt := 0
  hrot := 0
  mq := 0#4
  corrected := 0
  freebDrops := 0
  marchOnce := 0
  withdrawn := 0
  temp := 0
  level := 0
  droop := []
  buckets := []
  period := 0
  landHead := none

/-- A port before its bring-up (R357). -/
def Port.reset : Port where
  test := none
  disabled := false
  down := []
  met := none
  bad := 0
  errs := 0
  sent := 0
  wire := []
  rx := []

/-- No pod joined (R335). -/
def Pod.reset : Pod where
  pos := none
  joins := []
  lost := []
  ports := []
  keys := []
  fails := []
  slot := 0
  nextSeq := []
  rx := []
  out := []
  relay := []
  unreceipted := []
  asks := []
  items := []
  inbox := []
  keyexh := []

/-- The mailbox in phase 0 (R393, R397). -/
def Mbox.reset : Mbox where
  arg0 := 0#64
  arg1 := 0#64
  arg2 := 0#64
  arg3 := 0#64
  busy := false
  ending := none
  err := 0
  result := 0#32
  phase := 0
  bootErr := 0
  detail := 0

/-- The module right after power-up reset: phase 0 of R397, CYCLE 0 (R386), every slot FREE. -/
def State.reset : State where
  agenda := []
  cur := 0
  nextId := 0
  freeCtr := 0
  cycle := 0
  power := true
  slots := []
  cores := []
  tiles := []
  nodes := []
  mem := []
  wst := []
  bad := []
  corr := []
  hostMem := []
  hostHoles := []
  reqs := []
  pipe := []
  hints := []
  ctls := []
  routers := []
  contribs := []
  ctxs := []
  launches := []
  queues := []
  mbox := Mbox.reset
  memwin := none
  podSecret := none
  image := []
  defects := []
  bootHist := []
  oscs := []
  pod := Pod.reset
  hostOut := []

end Sys2Proof.Machine
end

