-- ==== Sys2Proof/Machine/Base.lean ====
section
/-! DEFINITION. Reading and writing one agent of the state; the numbering of agents and the on-chip addresses (R9, R21,
R32, R34); small helpers over words and lists. Every read and write of a table of State goes through these. -/

namespace Sys2Proof.Machine

/-! ### One agent of the state -/

/-- A slot. -/
def State.slot (s : State) (sl : Nat) : Slot := Tab.get Slot.reset s.slots sl
/-- Replaces a slot. -/
def State.setSlot (s : State) (sl : Nat) (x : Slot) : State := { s with slots := Tab.put s.slots sl x }
/-- Changes a slot. -/
def State.updSlot (s : State) (sl : Nat) (f : Slot → Slot) : State := s.setSlot sl (f (s.slot sl))
/-- A core. -/
def State.core (s : State) (c : Nat) : Core := Tab.get Core.reset s.cores c
/-- Replaces a core. -/
def State.setCore (s : State) (c : Nat) (x : Core) : State := { s with cores := Tab.put s.cores c x }
/-- Changes a core. -/
def State.updCore (s : State) (c : Nat) (f : Core → Core) : State := s.setCore c (f (s.core c))
/-- A tile. -/
def State.tile (s : State) (t : Nat) : Tile := Tab.get Tile.reset s.tiles t
/-- Replaces a tile. -/
def State.setTile (s : State) (t : Nat) (x : Tile) : State := { s with tiles := Tab.put s.tiles t x }
/-- Changes a tile. -/
def State.updTile (s : State) (t : Nat) (f : Tile → Tile) : State := s.setTile t (f (s.tile t))
/-- A node. -/
def State.node (s : State) (n : Nat) : Node := Tab.get Node.reset s.nodes n
/-- Replaces a node. -/
def State.setNode (s : State) (n : Nat) (x : Node) : State := { s with nodes := Tab.put s.nodes n x }
/-- Changes a node. -/
def State.updNode (s : State) (n : Nat) (f : Node → Node) : State := s.setNode n (f (s.node n))
/-- A plate entry of a node. -/
def State.plate (s : State) (n e : Nat) : Plate := Tab.get Plate.reset (s.node n).plates e
/-- Replaces a plate entry. -/
def State.setPlate (s : State) (n e : Nat) (p : Plate) : State :=
  s.updNode n (fun x => { x with plates := Tab.put x.plates e p })
/-- A live context. -/
def State.context (s : State) (c : Nat) : Option Ctx := Tab.look s.ctxs c
/-- A launch by its key. -/
def State.launch? (s : State) (k : Nat) : Option Launch := Tab.look s.launches k
/-- The port record of a port. -/
def State.port (s : State) (p : Nat) : Port := Tab.get Port.reset s.pod.ports p
/-- Changes a port record. -/
def State.updPort (s : State) (p : Nat) (f : Port → Port) : State :=
  { s with pod := { s.pod with ports := Tab.put s.pod.ports p (f (s.port p)) } }

/-- A fresh number, and the state that will give the next one. -/
def State.fresh (s : State) : Nat × State := (s.nextId, { s with nextId := s.nextId + 1 })
/-- A free word (log entry 4), and the state that will draw the next one. -/
def State.freeWord (s : State) : Word × State := (Config.freeWord s.freeCtr, { s with freeCtr := s.freeCtr + 1 })

/-! ### Numbers of agents (R9, R21) -/

/-- The core of a slot. -/
def coreOfSlot (sl : Nat) : Nat := sl / 8
/-- The tile of a slot. -/
def tileOfSlot (sl : Nat) : Nat := sl / 32
/-- The node of a slot. -/
def nodeOfSlot (sl : Nat) : Nat := sl / 512
/-- The tile of a core. -/
def tileOfCore (c : Nat) : Nat := c / 4
/-- The node of a core. -/
def nodeOfCore (c : Nat) : Nat := c / 64
/-- The node of a tile. -/
def nodeOfTile (t : Nat) : Nat := t / 16
/-- The die of a node. -/
def dieOfNode (n : Nat) : Nat := n / 1024
/-- The eight slots of a core, lowest first. -/
def slotsOfCore (c : Nat) : List Nat := (List.range 8).map (fun i => c * 8 + i)
/-- The 64 cores of a node, lowest first. -/
def coresOfNode (n : Nat) : List Nat := (List.range 64).map (fun i => n * 64 + i)
/-- The four cores of a tile. -/
def coresOfTile (t : Nat) : List Nat := (List.range 4).map (fun i => t * 4 + i)
/-- The 512 slots of a node. -/
def slotsOfNode (n : Nat) : List Nat := (List.range 512).map (fun i => n * 512 + i)
/-- The 16 tiles of a node. -/
def tilesOfNode (n : Nat) : List Nat := (List.range 16).map (fun i => n * 16 + i)
/-- How many nodes the module has. -/
def nodeCount : Nat := 10240

/-! ### On-chip addresses (R32) -/

/-- Module address of byte 0 of a core's local store. -/
def storeBase (c : Nat) : Nat := 0x20000000000 + c * 32768
/-- Module address of byte 0 of a tile's B-SRAM. -/
def bsramBase (t : Nat) : Nat := 0x28000000000 + t * 131072
/-- Module address of byte 0 of a code bank. -/
def codeBase (t bank : Nat) : Nat :=
  0x2C000000000 + nodeOfTile t * 2097152 + (t % 16) * 32768 + bank * 16384
/-- First byte after physical HBM (R33). -/
def hbmTop : Nat := 0x0F000000000
/-- A byte index lies in a local store. -/
def isStore (loc : Nat) : Bool := decide (0x20000000000 ≤ loc) && decide (loc < 0x28000000000)
/-- A byte index lies in B-SRAM. -/
def isBsram (loc : Nat) : Bool := decide (0x28000000000 ≤ loc) && decide (loc < 0x2C000000000)
/-- A byte index lies in HBM. -/
def isHbm (loc : Nat) : Bool := decide (loc < hbmTop)

/-! ### Words -/

/-- Bits [hi:lo] of a number. -/
def bits (v hi lo : Nat) : Nat := (v / 2 ^ lo) % 2 ^ (hi + 1 - lo)
/-- A word from a number, mod 2^64. -/
def wd (n : Nat) : Word := BitVec.ofNat 64 n
/-- 1 or 0. -/
def b2w (b : Bool) : Word := if b then 1#64 else 0#64
/-- 1 or 0 as a number. -/
def b2n (b : Bool) : Nat := if b then 1 else 0
/-- All ones. -/
def onesW : Word := BitVec.allOnes 64
/-- The signed value of the low `w` bits of a number. -/
def sextNat (n w : Nat) : Int := if n % 2 ^ w < 2 ^ (w - 1) then ((n % 2 ^ w : Nat) : Int) else ((n % 2 ^ w : Nat) : Int) - (2 ^ w : Nat)
/-- A word from an integer, mod 2^64. -/
def wi (i : Int) : Word := BitVec.ofInt 64 i
/-- The mask of one register code of R71's order: 0 to 31 g, 32 to 47 v. -/
def regBit (r : Nat) : BitVec 48 := 1#48 <<< r
/-- Whether a register code is in a mask. -/
def inMask (m : BitVec 48) (r : Nat) : Bool := m.getLsbD r
/-- The code of a general register. -/
def gcode (r : Reg) : Nat := r.toNat
/-- The code of a vector register. -/
def vcode (r : VReg) : Nat := 32 + r.toNat
/-- Register r + k, mod 32 (R96). -/
def regNext (r : Reg) (k : Nat) : Reg := r + BitVec.ofNat 5 k

/-- The 48-bit mask of a destination. -/
def Dest.mask : Dest → BitVec 48
  | .none => 0#48
  | .g r => regBit (gcode r)
  | .v r => regBit (vcode r)
  | .gg r => regBit (gcode r) ||| regBit (gcode (regNext r 1))

/-! ### Lists -/

/-- Replaces element `i`, if there is one. -/
def setAt {α : Type} : List α → Nat → α → List α
  | [], _, _ => []
  | _ :: t, 0, x => x :: t
  | h :: t, i + 1, x => h :: setAt t i x

/-- The element `i`, or `d`. -/
def nth {α : Type} (d : α) : List α → Nat → α
  | [], _ => d
  | h :: _, 0 => h
  | _ :: t, i + 1 => nth d t i

/-- Removes the first element that meets the test. -/
def eraseFirst {α : Type} (p : α → Bool) : List α → List α
  | [] => []
  | h :: t => if p h then t else h :: eraseFirst p t

/-- Changes every element that meets the test. -/
def mapIf {α : Type} (p : α → Bool) (f : α → α) (l : List α) : List α := l.map (fun x => if p x then f x else x)

/-- The element of least key; the first of equals. -/
def leastBy {α : Type} (key : α → Nat) : List α → Option α
  | [] => none
  | h :: t =>
    match leastBy key t with
    | none => some h
    | some m => if key m < key h then some m else some h

/-- Sum of a list of numbers. -/
def sumNat : List Nat → Nat
  | [] => 0
  | h :: t => h + sumNat t

/-- A set of numbers kept as a rising list: insertion. -/
def insertNat : List Nat → Nat → List Nat
  | [], n => [n]
  | h :: t, n => if n < h then n :: h :: t else if n = h then h :: t else h :: insertNat t n

/-- Concatenates `count` copies of a step on a state. -/
def iter {α : Type} (f : α → α) : Nat → α → α
  | 0, x => x
  | n + 1, x => iter f n (f x)

/-- One step of CRC-16/CCITT (R362). -/
def crcBit (c : BitVec 16) : BitVec 16 := if c.getLsbD 15 then (c <<< 1) ^^^ 0x1021#16 else c <<< 1
/-- CRC-16/CCITT over bytes. -/
def crc16 (l : List (BitVec 8)) : BitVec 16 :=
  l.foldl (fun c b => iter crcBit 8 (c ^^^ BitVec.ofNat 16 (b.toNat * 256))) 0xFFFF#16

/-! ### Threads and handles (R34, R108, R109) -/

/-- The slot holds the thread, and the thread has not ended. -/
def Slot.holds (x : Slot) (th : Thread) : Bool :=
  decide (x.th = th) && (decide (x.st = .running) || (decide (x.st = .parked) && decide (x.reason ≠ .idle)))
    && x.ending.isNone

/-- The VDN under which a context's pod table names this module, or 0x3FF (R109); the lowest, where several do. -/
def ownVdn (s : State) (ctx : Nat) : Nat :=
  match s.context ctx, s.pod.pos with
  | some c, some p =>
    match List.find? (fun (e : Nat × Word) => e.2.getLsbD 63 && decide (e.2.toNat % 1024 = p)) c.podTab with
    | some e => e.1
    | none => 0x3FF
  | _, _ => 0x3FF

/-- A thread's handle word (R34). -/
def handleWord (s : State) (ctx : Nat) (th : Thread) : Word :=
  wd (ownVdn s ctx * 2 ^ 54 + th.birth * 2 ^ 31 + th.gen.toNat * 2 ^ 19)

/-- The thread that a landing address names (R108). -/
def addrThread (a : Word) : Thread := { birth := bits a.toNat 53 31, gen := BitVec.ofNat 12 (bits a.toNat 30 19) }

/-- Physical position (x, y) of a logical node (R387, R400): the enabled nodes in row-major order without the
defective and excluded positions. -/
def nodeXY (s : State) (n : Nat) : Nat × Nat :=
  let ds := s.defects.filter (fun d => decide (d.1 = dieOfNode n))
  let pos := ds.foldl (fun p d => if d.2.2 * 33 + d.2.1 ≤ p then p + 1 else p) (n % 1024)
  (pos % 33, pos / 33)

/-- Physical node (x, y) of die `d` in the module's mesh of 165 × 64 positions, as the number X + 165 × Y (R20). -/
def meshPos (d x y : Nat) : Nat := 33 * (d % 5) + x + 165 * (32 * (d / 5) + y)
/-- Module position of a logical node (R20). -/
def nodePos (s : State) (n : Nat) : Nat := meshPos (dieOfNode n) (nodeXY s n).1 (nodeXY s n).2
/-- The next position from `p` on the way to `q`: first along x, then along y (R194). -/
def hopTo (p q : Nat) : Nat :=
  if p % 165 < q % 165 then p + 1
  else if q % 165 < p % 165 then p - 1
  else if p / 165 < q / 165 then p + 165
  else if q / 165 < p / 165 then p - 165 else p

/-! ### Outcomes -/

/-- What a meaning answers. -/
abbrev Out := Host.Outcome State Fault Refusal

/-- A meaning that goes on. -/
abbrev go (s : State) : Out := .next s

end Sys2Proof.Machine
end

