-- ==== Sys2Proof/Machine/Flags.lean ====
section
/-! DEFINITION. The machine keeps no arithmetic flags (R39). What an operation reports beside its result is a trap's
info word: the layouts of R50, R64, R68, R162, R192, R252, R275, R321, R383 and R390, and the cause codes of R382. -/

namespace Sys2Proof.Machine

/-- Cause codes (R382). -/
def causeILL : BitVec 8 := 0x01#8
def causeFETCH : BitVec 8 := 0x02#8
def causeACCESS : BitVec 8 := 0x03#8
def causeFMT : BitVec 8 := 0x04#8
def causeALIGN : BitVec 8 := 0x05#8
def causePOISON : BitVec 8 := 0x06#8
def causeSYNCLIM : BitVec 8 := 0x07#8
def causeLANDREF : BitVec 8 := 0x08#8
def causePLMISS : BitVec 8 := 0x09#8
def causePLSTATE : BitVec 8 := 0x0A#8
def causeDOMAIN : BitVec 8 := 0x0B#8
def causeTABLE : BitVec 8 := 0x0C#8
def causeATOMUNS : BitVec 8 := 0x0D#8
def causePEERLOST : BitVec 8 := 0x0E#8
def causeINDET : BitVec 8 := 0x0F#8
def causeENGFAULT : BitVec 8 := 0x10#8
def causeBKPT : BitVec 8 := 0x12#8
def causeSWTRAP : BitVec 8 := 0x13#8
def causeDEVERR : BitVec 8 := 0x15#8

/-- FINFO of ILL (R64): the reason in [35:32] and the word in [31:0]. -/
def infoIll (reason : Nat) (w : BitVec 32) : Word := wd (reason * 2 ^ 32 + w.toNat)

/-- FINFO of FMT (R50). -/
def infoFmt (reason aux code : Nat) : Word := wd (reason * 2 ^ 12 + aux * 2 ^ 8 + code)

/-- FINFO of an access (R162) without DEFER, MORE and REASON: PCA, XOP, SIZE, SY, MAJ. -/
def infoAcc (pca xop size sy maj : Nat) : Word :=
  wd ((pca % 65536) * 2 ^ 32 + xop * 2 ^ 25 + size * 2 ^ 22 + sy * 2 ^ 20 + maj * 2 ^ 14)

/-- Puts a reason into an info word. -/
def withReason (i : Word) (r : Nat) : Word := i ||| wd r

/-- The DEFER bit (R162). -/
def deferBit : Word := 1#64 <<< 63
/-- The MORE bit (R162). -/
def moreBit : Word := 1#64 <<< 62

/-- FINFO of LANDREF (R192). -/
def infoLand (nfail seq tag code reason : Nat) : Word :=
  wd (nfail * 2 ^ 48 + seq * 2 ^ 42 + tag * 2 ^ 40 + code * 2 ^ 32 + reason)

/-- FINFO of DOMAIN and of TABLE in the mean unit (R252). -/
def infoMean (lane pair reason : Nat) : Word := wd (lane * 2 ^ 16 + pair * 2 ^ 12 + reason)

/-- FINFO of ENGFAULT (R275). -/
def infoEng (eng reason : Nat) : Word := wd (eng * 2 ^ 8 + reason)

/-- FINFO of PLMISS and PLSTATE (R321). -/
def infoPlt (pca xop st reason : Nat) : Word := wd ((pca % 65536) * 2 ^ 32 + xop * 2 ^ 25 + st * 2 ^ 8 + reason)

/-- FINFO of DEVERR (R390). -/
def infoDev (reg reason : Nat) : Word := wd (reg * 2 ^ 8 + reason)

/-- The register code of R108 for a register code of R71's order. -/
def landCode (r : Nat) : Nat := if r < 32 then r else 64 + 4 * (r - 32)

end Sys2Proof.Machine
end

