-- ==== Sys2Proof/Machine/Num.lean ====
section
/-! DEFINITION. Floating point exactly, then one rounding (R38 to R40, R43 to R46, R54 to R56), and the faithful
functions of R223 and R224. A finite value is `(-1)^neg * m * 2^e`; every result is formed exactly, as such a value or
as a quotient of naturals, and rounded once. -/

namespace Sys2Proof.Machine

/-- A binary format: exponent bits and fraction bits (R38). -/
structure Fmt where
  eb : Nat
  fb : Nat
  deriving DecidableEq, Repr

/-- FP32 (R38). -/
def fp32 : Fmt := { eb := 8, fb := 23 }
/-- FP16 (R38). -/
def fp16 : Fmt := { eb := 5, fb := 10 }
/-- BF16 (R38). -/
def bf16 : Fmt := { eb := 8, fb := 7 }

/-- The exponent bias. -/
def Fmt.bias (f : Fmt) : Nat := 2 ^ (f.eb - 1) - 1
/-- Pattern of +∞. -/
def Fmt.infPat (f : Fmt) : Nat := (2 ^ f.eb - 1) * 2 ^ f.fb
/-- The canonical NaN (R38). -/
def Fmt.nanPat (f : Fmt) : Nat := f.infPat + 2 ^ (f.fb - 1)
/-- The sign bit. -/
def Fmt.signPat (f : Fmt) : Nat := 2 ^ (f.eb + f.fb)

/-- A floating-point value. -/
inductive Fp where
  | nan
  | inf (neg : Bool)
  /-- `(-1)^neg * m * 2^e` -/
  | fin (neg : Bool) (m : Nat) (e : Int)
  deriving DecidableEq, Repr

/-- The value of a pattern (R38). -/
def Fp.decode (f : Fmt) (p : Nat) : Fp :=
  let neg := decide ((p / f.signPat) % 2 = 1)
  let ex := (p / 2 ^ f.fb) % 2 ^ f.eb
  let fr := p % 2 ^ f.fb
  if ex = 2 ^ f.eb - 1 then (if fr = 0 then .inf neg else .nan)
  else if ex = 0 then .fin neg fr (1 - (f.bias : Int) - f.fb)
  else .fin neg (2 ^ f.fb + fr) ((ex : Int) - f.bias - f.fb)

/-- Sign bit of a pattern. -/
def signOf (f : Fmt) (neg : Bool) : Nat := if neg then f.signPat else 0

/-- `num / den` scaled by 2^k, as a quotient of naturals. -/
def scaleRat (num den : Nat) (k : Int) : Nat × Nat :=
  if 0 ≤ k then (num * 2 ^ k.toNat, den) else (num, den * 2 ^ (-k).toNat)

/-- The exponent of `num / den`: the greatest k with 2^k ≤ num / den. Both are nonzero. -/
def expOf (num den : Nat) : Int :=
  let k : Int := (Nat.log2 num : Int) - (Nat.log2 den : Int)
  let q := scaleRat num den (-k)
  if q.1 < q.2 then k - 1 else k

/-- The magnitude pattern of a nonzero quotient: truncated, and whether the discarded part is below, at or above half
of the last place (0 exact, 1 below half, 2 half, 3 above). -/
def truncRat (f : Fmt) (num den : Nat) : Nat × Nat :=
  let e := max (expOf num den) (1 - (f.bias : Int))
  let q := scaleRat num den ((f.fb : Int) - e)
  let n := q.1 / q.2
  let r := q.1 % q.2
  let pat := ((e + f.bias - 1).toNat) * 2 ^ f.fb + n
  (pat, if r = 0 then 0 else if 2 * r < q.2 then 1 else if 2 * r = q.2 then 2 else 3)

/-- Rounds `(-1)^neg * num / den` to the format, to nearest with ties to even (R39); overflow gives ∞. -/
def roundRat (f : Fmt) (neg : Bool) (num den : Nat) : Nat :=
  if num = 0 ∨ den = 0 then signOf f neg
  else
    let t := truncRat f num den
    let up := decide (t.2 = 3) || (decide (t.2 = 2) && decide (t.1 % 2 = 1))
    let p := if up then t.1 + 1 else t.1
    signOf f neg + min p f.infPat

/-- Rounds a value to the format (R39): every NaN becomes the canonical NaN. -/
def Fp.encode (f : Fmt) : Fp → Nat
  | .nan => f.nanPat
  | .inf neg => signOf f neg + f.infPat
  | .fin neg m e => let q := scaleRat m 1 e; roundRat f neg q.1 q.2

/-- The integer `m * 2^(e - lo)` with its sign, for `lo ≤ e`. -/
def Fp.scaled (lo : Int) : Fp → Int
  | .fin neg m e => let v : Int := (m * 2 ^ (e - lo).toNat : Nat); if neg then -v else v
  | _ => 0

/-- A finite exponent, for aligning. -/
def Fp.expo : Fp → Int
  | .fin _ _ e => e
  | _ => 0

/-- A value is NaN. -/
def Fp.isNan : Fp → Bool
  | .nan => true
  | _ => false
/-- A value is an infinity of the sign. -/
def Fp.isInf (neg : Bool) : Fp → Bool
  | .inf n => decide (n = neg)
  | _ => false
/-- A value is a zero of the sign. -/
def Fp.isZero (neg : Bool) : Fp → Bool
  | .fin n m _ => decide (n = neg) && decide (m = 0)
  | _ => false

/-- The exact sum of terms (R39, R54, R226): NaN where any is or where infinities of both signs meet; an exact zero is
-0 only where every term is -0. -/
def Fp.sum (ts : List Fp) : Fp :=
  if ts.any Fp.isNan || (ts.any (Fp.isInf true) && ts.any (Fp.isInf false)) then .nan
  else if ts.any (Fp.isInf true) then .inf true
  else if ts.any (Fp.isInf false) then .inf false
  else
    let lo := ts.foldl (fun l t => min l t.expo) (0 : Int)
    let v := ts.foldl (fun (a : Int) t => a + t.scaled lo) 0
    if v = 0 then .fin (ts.all (Fp.isZero true) && !ts.isEmpty) 0 0
    else .fin (decide (v < 0)) v.natAbs lo

/-- The exact product (R39). -/
def Fp.mul : Fp → Fp → Fp
  | .nan, _ => .nan
  | _, .nan => .nan
  | .inf a, .inf b => .inf (a != b)
  | .inf a, .fin b m _ => if m = 0 then .nan else .inf (a != b)
  | .fin b m _, .inf a => if m = 0 then .nan else .inf (a != b)
  | .fin a m e, .fin b n g => .fin (a != b) (m * n) (e + g)

/-- The opposite. -/
def Fp.neg : Fp → Fp
  | .nan => .nan
  | .inf a => .inf (!a)
  | .fin a m e => .fin (!a) m e

/-- Division rounded once (R143): x/0 is ∞, 0/0 and ∞/∞ are NaN. -/
def Fp.divRound (f : Fmt) : Fp → Fp → Nat
  | .nan, _ => f.nanPat
  | _, .nan => f.nanPat
  | .inf _, .inf _ => f.nanPat
  | .inf a, .fin b _ _ => signOf f (a != b) + f.infPat
  | .fin a _ _, .inf b => signOf f (a != b)
  | .fin a m e, .fin b n g =>
    if n = 0 then (if m = 0 then f.nanPat else signOf f (a != b) + f.infPat)
    else let q := scaleRat m n (e - g); roundRat f (a != b) q.1 q.2

/-- Newton's steps toward the integer square root, from above. -/
def isqrtFrom (n : Nat) : Nat → Nat → Nat
  | 0, x => x
  | k + 1, x => let y := (x + n / x) / 2; if y < x then isqrtFrom n k y else x

/-- The integer square root. -/
def isqrt (n : Nat) : Nat := if n = 0 then 0 else isqrtFrom n (Nat.log2 n + 2) (2 ^ (Nat.log2 n / 2 + 1))

/-- Square root rounded once (R143): -0 gives -0, a negative value gives NaN. -/
def Fp.sqrtRound (f : Fmt) : Fp → Nat
  | .nan => f.nanPat
  | .inf neg => if neg then f.nanPat else f.infPat
  | .fin neg m e =>
    if m = 0 then signOf f neg
    else if neg then f.nanPat
    else
      let odd := decide (e % 2 ≠ 0)
      let m' := if odd then 2 * m else m
      let e' := if odd then e - 1 else e
      let n := m' * 2 ^ 120
      let r := isqrt n
      let q := if r * r = n then scaleRat r 1 (e' / 2 - 60) else scaleRat (2 * r + 1) 2 (e' / 2 - 60)
      roundRat f false q.1 q.2

/-- Order of two non-NaN values: the difference's sign. -/
def Fp.cmp (a b : Fp) : Ordering :=
  match a, b with
  | .inf x, .inf y => if x = y then .eq else if x then .lt else .gt
  | .inf x, _ => if x then .lt else .gt
  | _, .inf y => if y then .gt else .lt
  | _, _ =>
    let lo := min a.expo b.expo
    compare (a.scaled lo) (b.scaled lo)

/-- Least integer rounding of a quotient: nearest, ties to even. -/
def rneNat (num den : Nat) : Nat :=
  let n := num / den
  let r := num % den
  if den < 2 * r then n + 1 else if 2 * r = den then n + n % 2 else n

/-- Saturation of an integer to `w` bits, signed (R40). -/
def satS (v : Int) (w : Nat) : Int := max (-(2 ^ (w - 1) : Nat) : Int) (min v ((2 ^ (w - 1) : Nat) - 1 : Int))
/-- Saturation to `w` bits, unsigned. -/
def satU (v : Int) (w : Nat) : Int := max 0 (min v ((2 ^ w : Nat) - 1 : Int))

/-- The exact integer nearest to a finite value, or truncated. -/
def Fp.toInt (trunc : Bool) : Fp → Int
  | .fin neg m e =>
    let q := scaleRat m 1 e
    let n : Int := if trunc then (q.1 / q.2 : Nat) else rneNat q.1 q.2
    if neg then -n else n
  | _ => 0

/-- FP to integer with saturation between `lo` and `hi` (R40). -/
def Fp.toIntSat (trunc : Bool) (lo hi : Int) : Fp → Int
  | .nan => 0
  | .inf neg => if neg then lo else hi
  | .fin neg m e => max lo (min hi (Fp.toInt trunc (.fin neg m e)))

/-- An integer as an exact value. -/
def Fp.ofInt (i : Int) : Fp := .fin (decide (i < 0)) i.natAbs 0

/-- An FP32 pattern's value. -/
def f32 (p : Nat) : Fp := Fp.decode fp32 p
/-- Rounds to FP32. -/
def r32 (x : Fp) : Nat := x.encode fp32

/-- FPMIN and FPMAX on values with their patterns (R144): a NaN operand gives NaN; -0 is below +0. -/
def fpMinMax (f : Fmt) (mx : Bool) (p q : Nat) : Nat :=
  let a := Fp.decode f p
  let b := Fp.decode f q
  if a.isNan || b.isNan then f.nanPat
  else
    match a.cmp b with
    | .lt => if mx then q else p
    | .gt => if mx then p else q
    | .eq => if mx then (if decide (p / f.signPat % 2 = 1) then q else p) else (if decide (p / f.signPat % 2 = 1) then p else q)

/-! ### The faithful functions (R223, R224) -/

/-- Lower neighbour in FP32 of a positive value that lies in `(num, num + 1) / den`. -/
def lowPos (num den : Nat) : Nat := if num = 0 then 0 else (truncRat fp32 num den).1

/-- The chosen neighbour of a positive value: the truncated pattern or the next. -/
def pickPos (upper : Bool) (low : Nat) : Nat := if upper then low + 1 else low
/-- The chosen neighbour of a negative value whose magnitude truncates to `low`. -/
def pickNeg (upper : Bool) (low : Nat) : Nat := fp32.signPat + (if upper then low else low + 1)

/-- Place of an FP32 pattern in the order of the values. -/
def fpPlace (p : Nat) : Nat := if 2 ^ 31 ≤ p then 2 ^ 32 - p else 2 ^ 31 + p

/-- Fixed-point scale of the function kernels. -/
def fxOne : Nat := 2 ^ 256

/-- Product of 2^(2^-i) over the set bits of a fraction `f / 2^n`, most significant first, in fixed point; `root` is
2^(2^-i) for the bit examined. -/
def exp2Frac (f : Nat) : Nat → Nat → Nat → Nat
  | 0, _, acc => acc
  | n + 1, root, acc =>
    let acc' := if (f / 2 ^ n) % 2 = 1 then acc * root / fxOne else acc
    exp2Frac f n (isqrt (root * fxOne)) acc'

/-- 2^x (R223). -/
def exp2Pat (p : Nat) : Nat :=
  match f32 p with
  | .nan => fp32.nanPat
  | .inf neg => if neg then 0 else fp32.infPat
  | .fin neg m e =>
    let q := scaleRat m 1 e
    let whole : Int := if neg then -(q.1 / q.2 : Nat) else (q.1 / q.2 : Nat)
    let exact := decide (q.1 % q.2 = 0)
    let i : Int := if exact then whole else if neg then whole - 1 else whole
    if 128 ≤ i then fp32.infPat
    else if i < -150 ∨ (exact ∧ i ≤ -150) then 0
    else if exact then (let s := scaleRat 1 1 i; roundRat fp32 false s.1 s.2)
    else
      let n := (-e).toNat
      let frac := if neg then 2 ^ n - m % 2 ^ n else m % 2 ^ n
      let y := exp2Frac frac n (isqrt (2 * fxOne * fxOne)) fxOne
      let s := scaleRat y fxOne i
      let low := lowPos s.1 s.2
      pickPos (decide (Config.exp2Cut (BitVec.ofNat 32 low) ≤ fpPlace p)) low

/-- The first `n` binary digits of log2 of a mantissa in [1, 2), in fixed point. -/
def log2Frac : Nat → Nat → Nat → Nat
  | 0, _, acc => acc
  | n + 1, x, acc =>
    let y := x * x / fxOne
    if 2 * fxOne ≤ y then log2Frac n (y / 2) (2 * acc + 1) else log2Frac n y (2 * acc)

/-- log2 x (R223). -/
def log2Pat (p : Nat) : Nat :=
  match f32 p with
  | .nan => fp32.nanPat
  | .inf neg => if neg then fp32.nanPat else fp32.infPat
  | .fin neg m e =>
    if m = 0 then fp32.signPat + fp32.infPat
    else if neg then fp32.nanPat
    else
      let k := Nat.log2 m
      let ex : Int := e + k
      if m = 2 ^ k then r32 (Fp.ofInt ex)
      else
        let d := log2Frac 96 (m * fxOne / 2 ^ k) 0
        let v : Int := ex * (2 ^ 96 : Nat) + d
        let up := fun (low : Nat) => decide (Config.log2Cut (BitVec.ofNat 32 low) ≤ fpPlace p)
        if 0 ≤ v then
          let low := lowPos v.toNat (2 ^ 96)
          pickPos (up low) low
        else
          let low := lowPos ((-v).toNat - 1) (2 ^ 96)
          pickNeg (up (fp32.signPat + low + 1)) low

/-- 1/√x (R224). -/
def rsqrtPat (p : Nat) : Nat :=
  match f32 p with
  | .nan => fp32.nanPat
  | .inf neg => if neg then fp32.nanPat else 0
  | .fin neg m e =>
    if m = 0 then signOf fp32 neg + fp32.infPat
    else if neg then fp32.nanPat
    else
      let q := scaleRat 1 m (-e)
      let r := isqrt (q.1 * 2 ^ 400 / q.2)
      if r * r * q.2 = q.1 * 2 ^ 400 then roundRat fp32 false r (2 ^ 200)
      else
        let low := lowPos r (2 ^ 200)
        pickPos (decide (fpPlace p ≤ Config.rsqrtCut (BitVec.ofNat 32 low))) low

/-- 1/x, rounded once (R224). -/
def rcpPat (p : Nat) : Nat := Fp.divRound fp32 (.fin false 1 0) (f32 p)

/-! ### Bit-plane elements (R43 to R46) -/

/-- q_k of a stored q8, at depth `k` of `sdep` planes (R43). -/
def qkOf (q8 : Int) (k sdep : Nat) (rounding : Bool) : Int :=
  if !rounding || decide (k = sdep) then q8 / (2 ^ (8 - k) : Nat)
  else min ((q8 + (2 ^ (7 - k) : Nat)) / (2 ^ (8 - k) : Nat)) ((2 ^ (k - 1) : Nat) - 1 : Int)

/-- The value of an element (R44). -/
def elemValue (q : Int) (k e : Nat) : Fp :=
  if e = 0xFF then .nan
  else if e = 0xFE then .inf (decide (q < 0))
  else .fin (decide (q < 0)) q.natAbs ((e : Int) - 126 - k)

/-- The q8 that stores a value in a block of scale E and depth S (R46). -/
def q8Of (x : Fp) (e sdep : Nat) : Int :=
  let q : Int :=
    if 0xFE ≤ e then
      (match x with
       | .inf true => -(2 ^ (sdep - 1) : Nat)
       | .fin true m _ => if m = 0 then 0 else -(2 ^ (sdep - 1) : Nat)
       | _ => 0)
    else
      match x with
      | .nan => 0
      | .inf neg => if neg then -(2 ^ (sdep - 1) : Nat) else (2 ^ (sdep - 1) : Nat) - 1
      | .fin neg m g => satS (Fp.toInt false (.fin neg m (g + 126 + sdep - e))) sdep
  q * (2 ^ (8 - sdep) : Nat)

/-- Class of a pair of elements in an aligned group (R53, R54): the term it adds, infinite and NaN classes included. -/
def pairTerm (qa qb : Int) (ka kb ea eb : Nat) : Fp := Fp.mul (elemValue qa ka ea) (elemValue qb kb eb)

/-- The value of a group as an FP32 pattern (R54). -/
def groupValue (ps : List (Int × Int)) (ka kb ea eb : Nat) : Nat :=
  if ea ≤ 0xFD ∧ eb ≤ 0xFD then
    let sum := ps.foldl (fun (a : Int) p => a + p.1 * p.2) 0
    r32 (.fin (decide (sum < 0)) sum.natAbs ((ea : Int) + eb - 252 - ka - kb))
  else
    let ts := ps.map (fun p => pairTerm p.1 p.2 ka kb ea eb)
    if ts.any Fp.isNan || (ts.any (Fp.isInf true) && ts.any (Fp.isInf false)) then fp32.nanPat
    else if ts.any (Fp.isInf true) then signOf fp32 true + fp32.infPat
    else if ts.any (Fp.isInf false) then fp32.infPat
    else 0

/-- The integer sum of a group (R56). -/
def groupSum (ps : List (Int × Int)) : Int := ps.foldl (fun (a : Int) p => a + p.1 * p.2) 0

end Sys2Proof.Machine
end

