-- ==== Sys2Proof/Machine/Record.lean ====
section
/-! DEFINITION. The arithmetic of the mean unit (R237, R240, R244 to R250, R253, R254) over partial records of 128 bits
and table images of 1,024 bytes; and of atomics (R171, R173 to R175). -/

namespace Sys2Proof.Machine

/-- A partial record, field by field (R237). -/
structure Rec where
  sigt : Nat
  pair : Nat
  empty : Bool
  skip : Bool
  nans : Bool
  n : Nat
  sum : Nat
  m : Nat
  deriving DecidableEq, Repr

/-- Reads a record; bits [103:99] and those above 127 are ignored. -/
def Rec.ofNat (v : Nat) : Rec where
  sigt := bits v 127 108
  pair := bits v 107 104
  empty := decide (bits v 98 98 = 1)
  skip := decide (bits v 97 97 = 1)
  nans := decide (bits v 96 96 = 1)
  n := bits v 95 64
  sum := bits v 63 32
  m := bits v 31 0

/-- Writes a record; bits [103:99] are zero. -/
def Rec.toNat (r : Rec) : Nat :=
  r.sigt * 2 ^ 108 + r.pair * 2 ^ 104 + b2n r.empty * 2 ^ 98 + b2n r.skip * 2 ^ 97 + b2n r.nans * 2 ^ 96
    + r.n * 2 ^ 64 + r.sum * 2 ^ 32 + r.m

/-- σ's FP32 pattern. -/
def Rec.sigma (r : Rec) : Nat := r.sigt * 2 ^ 12

/-- σ is NaN or infinite. -/
def badSigma (p : Nat) : Bool := match f32 p with | .fin _ _ _ => false | _ => true

/-- σ is zero; the pattern of -0 counts as zero. -/
def zeroSigma (p : Nat) : Bool := match f32 p with | .fin _ m _ => decide (m = 0) | _ => false

/-- FP32 subtraction on patterns, rounded once. -/
def fsub (a b : Nat) : Nat := r32 (Fp.sum [f32 a, (f32 b).neg])
/-- FP32 addition. -/
def fadd (a b : Nat) : Nat := r32 (Fp.sum [f32 a, f32 b])
/-- FP32 multiplication. -/
def fmul (a b : Nat) : Nat := r32 ((f32 a).mul (f32 b))
/-- FP32 division. -/
def fdiv (a b : Nat) : Nat := Fp.divRound fp32 (f32 a) (f32 b)

/-- Count addition, saturating at 32 bits (R237). -/
def satN32 (n : Nat) : Nat := min n 0xFFFFFFFF

/-- Fold of a term for σ ≠ 0 (R244). -/
def Rec.fold (r : Rec) (u : Nat) : Rec :=
  if r.empty then { r with m := u, sum := 0x3F800000, empty := false }
  else
    let mn := fpMinMax fp32 true r.m u
    let s := r32 (Fp.sum [(f32 r.sum).mul (f32 (exp2Pat (fsub r.m mn))), f32 (exp2Pat (fsub u mn))])
    { r with sum := s, m := mn }

/-- Fold of a term for σ = 0 (R245). -/
def Rec.fold0 (r : Rec) (l : Nat) : Rec :=
  let r := if r.empty then { r with m := 0, sum := 0, empty := false } else r
  { r with sum := fadd r.sum l }

/-- Merge of two records (R246); none where table pair or σ tag differ. -/
def Rec.merge (p q : Rec) : Option Rec :=
  if p.pair ≠ q.pair ∨ p.sigt ≠ q.sigt then none
  else
    let nans := p.nans || q.nans
    let skip := p.skip || q.skip
    if p.empty && q.empty then some { p with nans := nans, skip := skip }
    else if p.empty then some { q with nans := nans, skip := skip }
    else if q.empty then some { p with nans := nans, skip := skip }
    else
      let m := fpMinMax fp32 true p.m q.m
      let s := r32 (Fp.sum [(f32 p.sum).mul (f32 (exp2Pat (fsub p.m m))), (f32 q.sum).mul (f32 (exp2Pat (fsub q.m m)))])
      some { p with empty := false, nans := nans, skip := skip, n := satN32 (p.n + q.n), sum := s, m := m }

/-! ### Table pairs (R240, R253, R254) -/

/-- FP32 field at byte offset `o` of an image of 128 words. -/
def imgF32 (img : List Word) (o : Nat) : Nat := (nth 0#64 img (o / 8)).toNat / 2 ^ (8 * (o % 8)) % 2 ^ 32

/-- An FP32 pattern is finite. -/
def finitePat (p : Nat) : Bool := match f32 p with | .fin _ _ _ => true | _ => false

/-- A finite FP32 value in units of 2^-149. -/
def units (p : Nat) : Int := (f32 p).scaled (-149)

/-- Rounds an integer quotient of units to FP32; a zero is +0. -/
def roundUnits (num : Int) (den : Nat) : Nat := roundRat fp32 (decide (num < 0)) num.natAbs (den * 2 ^ 149)

/-- Clamp of a non-NaN argument to [lo, hi]. -/
def clampPat (x lo hi : Nat) : Nat :=
  if (f32 x).cmp (f32 lo) = .lt then lo else if (f32 x).cmp (f32 hi) = .gt then hi else x

/-- Evaluates the table at byte offset `h` of an image at a finite argument in its range (R253). -/
def tableEval (img : List Word) (h x : Nat) : Nat :=
  let lo := units (imgF32 img h)
  let hi := units (imgF32 img (h + 4))
  let d := (hi - lo).toNat
  let a := (units x - lo).toNat
  let j := min (64 * a / d) 63
  let y0 := units (imgF32 img (h + 16 + 4 * j))
  let y1 := units (imgF32 img (h + 16 + 4 * (j + 1)))
  roundUnits (y0 * d + (64 * (a : Int) - (j : Int) * d) * (y1 - y0)) d

/-- L of a pair at a value in its domain (R240). -/
def pairL (img : List Word) (p x : Nat) : Nat := if p = 0 then log2Pat x else if p = 1 then x else tableEval img 0 x

/-- L⁻¹ of a pair (R240): NaN gives NaN; a loaded pair clamps first. -/
def pairInv (img : List Word) (p y : Nat) : Nat :=
  if (f32 y).isNan then fp32.nanPat
  else if p = 0 then exp2Pat y
  else if p = 1 then y
  else tableEval img 512 (clampPat y (imgF32 img 512) (imgF32 img 516))

/-- A value is in the domain of a pair (R240). -/
def inDomain (img : List Word) (p x : Nat) : Bool :=
  if p = 0 then (match f32 x with | .fin neg m _ => !neg && decide (m ≠ 0) | _ => false)
  else if p = 1 then finitePat x
  else finitePat x && decide ((f32 x).cmp (f32 (imgF32 img 0)) ≠ .lt) && decide ((f32 x).cmp (f32 (imgF32 img 4)) ≠ .gt)

/-- CLAMP bound for a non-NaN value outside the domain (R240). -/
def clampBound (img : List Word) (p x : Nat) : Nat :=
  if p = 0 then (if x = 0x7F800000 then 0x7F7FFFFF else 1)
  else if p = 1 then (if x = 0x7F800000 then 0x7F7FFFFF else 0xFF7FFFFF)
  else clampPat x (imgF32 img 0) (imgF32 img 4)

/-- Checks of one half of an image: range, then nodes. -/
def halfRange (img : List Word) (h : Nat) : Bool :=
  let lo := imgF32 img h
  let hi := imgF32 img (h + 4)
  finitePat lo && finitePat hi && decide ((f32 lo).cmp (f32 hi) = .lt)

/-- Nodes finite and strictly increasing. -/
def halfNodes (img : List Word) (h : Nat) : Bool :=
  (List.range 65).all (fun j => finitePat (imgF32 img (h + 16 + 4 * j))) &&
  (List.range 64).all (fun j =>
    decide ((f32 (imgF32 img (h + 16 + 4 * j))).cmp (f32 (imgF32 img (h + 20 + 4 * j))) = .lt))

/-- Distance from |v| to the next larger FP32 magnitude, in units of 2^-149. -/
def ulpUnits (v : Nat) : Int :=
  let a := v % 2 ^ 31
  if a / 2 ^ 23 = 0 then 1 else (2 ^ (a / 2 ^ 23 - 1) : Nat)

/-- The tables at `h` and `k` undo each other within one unit in the last place at the nodes of `h` (R254 reason 6). -/
def halfInverts (img : List Word) (h k : Nat) : Bool :=
  let lo := units (imgF32 img h)
  let hi := units (imgF32 img (h + 4))
  (List.range 65).all (fun j =>
    let t := roundUnits (64 * lo + (j : Int) * (hi - lo)) 64
    let y := imgF32 img (h + 16 + 4 * j)
    let v := tableEval img k (clampPat y (imgF32 img k) (imgF32 img (k + 4)))
    decide ((units v - units t).natAbs ≤ (ulpUnits t).natAbs))

/-- The first failing check of a table image, or 0 (R254). -/
def imageCheck (img : List Word) : Nat :=
  if !halfRange img 0 then 2
  else if !halfNodes img 0 then 3
  else if !halfRange img 512 then 4
  else if !halfNodes img 512 then 5
  else if !(halfInverts img 0 512 && halfInverts img 512 0) then 6
  else 0

/-! ### TMACC and TMFIN (R244, R249) -/

/-- What becomes of a selected lane. -/
inductive Fate where
  | nan
  | skip
  | fold (t : Nat)
  /-- trap DOMAIN with the reason -/
  | trap (reason : Nat)
  deriving DecidableEq, Repr

/-- Classification of one term (R244). -/
def classify (img : List Word) (sig p pol x : Nat) : Fate :=
  if (f32 x).isNan then .nan
  else
    let inside := inDomain img p x
    if !inside && decide (pol = 0) then .trap 1
    else if !inside && decide (pol = 1) then .skip
    else
      let x := if inside then x else clampBound img p x
      if zeroSigma sig then .fold (pairL img p x)
      else
        let t := fmul sig (pairL img p x)
        if finitePat t then .fold t
        else if pol = 0 then .trap 2
        else if pol = 1 then .skip
        else .fold (t / 2 ^ 31 * 2 ^ 31 + 0x7F7FFFFF)

/-- Applies the fates in order. The count goes on from the record's n as it stands, in a hand-built record with EMPTY 1 and
n ≠ 0 too: the model's choice, since the table of R237 says that n is then ignored and R244 adds to it (log entry 107). -/
def applyFates (sig : Nat) : List Fate → Rec → Rec
  | [], r => r
  | .nan :: t, r => applyFates sig t { r with nans := true }
  | .skip :: t, r => applyFates sig t { r with skip := true }
  | .trap _ :: t, r => applyFates sig t r
  | .fold u :: t, r =>
    let r := if zeroSigma sig then r.fold0 u else r.fold u
    applyFates sig t { r with n := satN32 (r.n + 1) }

/-- The mean of a record (R249). -/
def Rec.finish (img : List Word) (r : Rec) : Nat :=
  if r.nans || r.empty then fp32.nanPat
  else
    let q := Fp.divRound fp32 (f32 r.sum) (Fp.ofInt r.n)
    if zeroSigma r.sigma then pairInv img r.pair q
    else pairInv img r.pair (fdiv (fadd r.m (log2Pat q)) r.sigma)

/-! ### Atomics (R171, R173 to R175) -/

/-- An atomic on one 64-bit word: the word after, and the result; `hi` says that AFADD acts on bits [63:32]. -/
def amoWord (op : Nat) (m b b2 d : Word) (hi : Bool) : Word × Word :=
  if op = 0x01 then (m + b, m)
  else if op = 0x02 then (m &&& b, m)
  else if op = 0x03 then (m ||| b, m)
  else if op = 0x04 then (m ^^^ b, m)
  else if op = 0x05 then (if b.slt m then b else m, m)
  else if op = 0x06 then (if m.slt b then b else m, m)
  else if op = 0x07 then (if b.ult m then b else m, m)
  else if op = 0x08 then (if m.ult b then b else m, m)
  else if op = 0x09 then (b, m)
  else if op = 0x0A then (if m = d then b else m, m)
  else if op = 0x0B then
    let f := if hi then m.toNat / 2 ^ 32 else m.toNat % 2 ^ 32
    let y := fadd f (b.toNat % 2 ^ 32)
    (if hi then wd (y * 2 ^ 32 + m.toNat % 2 ^ 32) else wd (m.toNat / 2 ^ 32 * 2 ^ 32 + y), wd f)
  else if op = 0x0C then
    if m.toNat + b.toNat ≤ b2.toNat % 2 ^ 32 then (m + b, wd (m.toNat % 2 ^ 63))
    else (m, wd (2 ^ 63 + m.toNat % 2 ^ 63))
  else (m, m)

end Sys2Proof.Machine
end

