-- ==== Sys2Proof/Machine/Paths.lean ====
section
/-! DEFINITION. The address and table checks of R181 with R32, R33, R179, R180, R182 and R279, and the target that owns
an address (R151, R177, R196). -/

namespace Sys2Proof.Machine

/-- Where an admitted address lies: a byte index of State.mem, or another module. -/
inductive Place where
  | mem (loc : Nat)
  | remote (pos : Nat)
  deriving DecidableEq, Repr

/-- What an access asks of its address. -/
structure Need where
  r : Bool
  w : Bool
  a : Bool
  /-- a sync mode, WSET or JOIN: node memory only (R163 reason 10) -/
  sync : Bool
  /-- made by a transfer hart (R33) -/
  hart : Bool
  deriving DecidableEq, Repr

/-- A load (R180). -/
def Need.load : Need := { r := true, w := false, a := false, sync := false, hart := false }
/-- A store (R180). -/
def Need.store : Need := { r := false, w := true, a := false, sync := false, hart := false }
/-- An atomic (R180). -/
def Need.atomic : Need := { r := true, w := true, a := true, sync := false, hart := false }
/-- Read and write, for a plate's backing (R323). -/
def Need.both : Need := { r := true, w := true, a := false, sync := false, hart := false }

/-- Fields of a window-table entry (R179). -/
def winPbase (w : BitVec 128) : Nat := bits w.toNat 127 104
def winLen (w : BitVec 128) : Nat := bits w.toNat 103 80
def winVbase (w : BitVec 128) : Nat := bits w.toNat 79 56
def winInb (w : BitVec 128) : Bool := w.getLsbD 7
def winV (w : BitVec 128) : Bool := w.getLsbD 3

/-- The window covers a window-relative address (R180). -/
def winCovers (va : Nat) (w : BitVec 128) : Bool :=
  winV w && decide (winVbase w * 65536 ≤ va) && decide (va < (winVbase w + winLen w) * 65536)

/-- The window grants what an access needs (R180). -/
def winGrants (n : Need) (w : BitVec 128) : Bool :=
  (!n.r || w.getLsbD 0) && (!n.w || w.getLsbD 1) && (!n.a || w.getLsbD 2)

/-- The physical address (R180). -/
def winPhys (va : Nat) (w : BitVec 128) : Nat := winPbase w * 65536 + va - winVbase w * 65536

/-- A node of the allotment of a context (R179). -/
def Ctx.allots (c : Ctx) (node : Nat) : Bool := decide (node < nodeCount) && c.allot.getLsbD node

/-- Check 2 of R181 on a 42-bit module address: class, space, die and code-bank checks; the failing reason or 0. -/
def spaceCheck (hart : Bool) (m : Nat) : Nat :=
  let cls := bits m 41 40
  if cls = 0 then 0
  else if cls = 1 then 1
  else if cls = 3 then 2
  else if bits m 39 38 = 1 then 1
  else if bits m 37 35 ≠ 0 ∨ 9 < bits m 34 31 then 3
  else if bits m 39 38 = 3 ∧ (!hart ∨ bits m 20 19 ≠ 0) then 4
  else 0

/-- Check 4 of R181 on a module address: states and units the space lacks; the failing reason or 0. Retired buses are
those of the tile, known for the module's own tiles only. -/
def unitCheck (s : State) (n : Need) (own : Bool) (m : Nat) : Nat :=
  let onchip := decide (bits m 41 40 = 2)
  let store := onchip && decide (bits m 39 38 = 0)
  let bsram := onchip && decide (bits m 39 38 = 2)
  if n.sync && !store then 10
  else if n.a && onchip && !store then 10
  else if own && bsram then
    let rb := (s.tile (bits m 34 17 % 2 ^ 18)).rbus
    if 2 ≤ rb then 11 else if rb = 1 ∧ 65536 ≤ bits m 16 0 then 11 else 0
  else 0

/-- Check 3 of R181 on a local module address with the context's tables: the byte index, or the failing reason. -/
def localCheck (c : Option Ctx) (n : Need) (m : Nat) : Except Nat Nat :=
  if bits m 41 40 = 0 then
    let va := bits m 39 0
    match c with
    | none => .error 6
    | some c =>
      match c.windows.find? (winCovers va) with
      | none => .error 6
      | some w => if winGrants n w then .ok (winPhys va w) else .error 7
  else
    match c with
    | none => .error 5
    | some c => if c.allots (bits m 34 21) then .ok m else .error 5

/-- The module that a VDN names: none for this module, or another's position (R181, R182). -/
def vdnModule (s : State) (c : Option Ctx) (vdn : Nat) : Except Nat (Option Nat) :=
  if vdn = 0x3FF then .ok none
  else
    match c with
    | none => .error 8
    | some c =>
      let e := Tab.get 0#64 c.podTab vdn
      if e.getLsbD 63 then
        let p := e.toNat % 1024
        if s.pod.pos = some p then .ok none else .ok (some p)
      else .error 8

/-- All checks of R181 that the issuer makes on a 52-bit address, in order. -/
def checkAddr (s : State) (ctx : Nat) (n : Need) (ea : Nat) : Except Nat Place :=
  let c := s.context ctx
  match vdnModule s c (bits ea 51 42) with
  | .error r => .error r
  | .ok none =>
    let m := bits ea 41 0
    let k := spaceCheck n.hart m
    if k ≠ 0 then .error k
    else
      match localCheck c n m with
      | .error r => .error r
      | .ok loc => let k := unitCheck s n true m; if k ≠ 0 then .error k else .ok (.mem loc)
  | .ok (some p) =>
    let m := bits ea 41 0
    let k := spaceCheck n.hart m
    if k ≠ 0 then .error k
    else let k := unitCheck s n false m; if k ≠ 0 then .error k else .ok (.remote p)

/-- The first failing address of a range of words, with its reason; `count` addresses `step` apart. -/
def checkRange (s : State) (ctx : Nat) (n : Need) (ea step : Nat) : Nat → Option (Nat × Nat)
  | 0 => none
  | k + 1 =>
    match checkAddr s ctx n (ea % 2 ^ 52) with
    | .error r => some (ea % 2 ^ 52, r)
    | .ok _ => checkRange s ctx n (ea + step) step k

/-- What the target module decides for an inbound access: the byte index, or refusal with reason 9 (R182). -/
def inboundCheck (s : State) (pctx : Nat) (n : Need) (m : Nat) : Option (Nat × Nat) :=
  match s.ctxs.find? (fun e => decide (e.2.pctx = pctx)) with
  | none => none
  | some (num, c) =>
    if spaceCheck n.hart m ≠ 0 ∨ unitCheck s n true m ≠ 0 then none
    else if bits m 41 40 = 0 then
      match c.windows.find? (winCovers (bits m 39 0)) with
      | none => none
      | some w => if winInb w && winGrants n w then some (num, winPhys (bits m 39 0) w) else none
    else if c.allots (bits m 34 21) then some (num, m) else none

/-! ### Targets -/

/-- The banks of the words of `n` bytes at an offset of a local store (R151). -/
def banksOf (loc n : Nat) : BitVec 4 :=
  if n ≤ 8 then 1#4 <<< (loc / 8 % 4)
  else if n ≤ 16 then (1#4 <<< (loc / 8 % 4)) ||| (1#4 <<< ((loc / 8 + 1) % 4))
  else BitVec.allOnes 4

/-- The unit that owns `n` bytes at a byte index (R151, R177, R196). -/
def targetOf (loc n : Nat) : Target :=
  if isStore loc then .store ((loc - 0x20000000000) / 32768) (banksOf loc n)
  else if isBsram loc then .slice ((loc - 0x28000000000) / 131072) (bits loc 16 14)
  else if 0x2C000000000 ≤ loc then .code (bits loc 34 21 * 16 + bits loc 18 15)
  else .hbm (loc / 256 % 12 * 32 + loc / 256 / 12 % 32)

/-- Two targets share a bank (R200, R201). -/
def Target.meets : Target → Target → Bool
  | .store c b, .store d k => decide (c = d) && decide (b &&& k ≠ 0#4)
  | a, b => decide (a = b)

/-- The node that owns a byte index of on-chip memory; `d` for HBM. -/
def ownerNode (d loc : Nat) : Nat :=
  if isStore loc then (loc - 0x20000000000) / 2097152
  else if isBsram loc then (loc - 0x28000000000) / 2097152
  else if 0x2C000000000 ≤ loc then bits loc 34 21
  else d

end Sys2Proof.Machine
end

