-- ==== Sys2Proof/Machine/Memory.lean ====
section
/-! DEFINITION. One perform at a memory unit: word states, ECC and data (R155 to R157, R159, R167, R169 to R176, R231,
R278, R297). Byte indices are those of State.mem. -/

namespace Sys2Proof.Machine

/-- State codes (R155). -/
def stEmpty : BitVec 2 := 0b00#2
def stFull : BitVec 2 := 0b01#2
def stPoison : BitVec 2 := 0b10#2

/-- The state of a word as an access treats it (R155, R156): local-store words have one; HBM and B-SRAM words are FULL,
or POISON where ECC finds them uncorrectable. -/
def State.wordState (s : State) (loc : Nat) : BitVec 2 :=
  if isStore loc then Tab.get stFull s.wst (loc / 8)
  else if s.bad.contains (loc / 8) then stPoison else stFull

/-- Writes a local-store word's state. -/
def State.setWordState (s : State) (loc : Nat) (v : BitVec 2) : State :=
  if isStore loc then { s with wst := Tab.write stFull s.wst (loc / 8) v } else s

/-- A state that an access treats as POISON: 0b10, and the reserved 0b11 (R155). -/
def poisoned (v : BitVec 2) : Bool := v.getLsbD 1

/-- The reason of a POISON fault at a word (R163). -/
def poisonReason (s : State) (loc : Nat) : Nat :=
  if isStore loc then (if s.wordState loc = 0b11#2 then 2 else 1) else if isBsram loc then 4 else 3

/-- ECC at a read of a word (R156): an uncorrectable local-store word takes state POISON; a correctable word is
corrected, written back and counted at node `n`. -/
def State.ecc (s : State) (n loc : Nat) : State :=
  let s := if isStore loc && s.bad.contains (loc / 8) then s.setWordState loc stPoison else s
  if s.corr.contains (loc / 8) then
    { s with corr := s.corr.filter (fun w => decide (w ≠ loc / 8)) }.updNode n (fun x => { x with corrected := x.corrected + 1 })
  else s

/-- The value of `n` bytes. -/
def State.load (s : State) (loc n : Nat) : Nat := Memory.readNat s.mem loc n
/-- Stores `n` bytes of data alone. -/
def State.store (s : State) (loc n v : Nat) : State := { s with mem := Memory.writeNat s.mem loc n v }
/-- A 64-bit store rewrites the word: its ECC errors are gone (R156). -/
def State.cleanWord (s : State) (loc : Nat) : State :=
  { s with bad := s.bad.filter (fun w => decide (w ≠ loc / 8)), corr := s.corr.filter (fun w => decide (w ≠ loc / 8)) }

/-- Marks a word as R297 does: a local-store word takes state POISON, another is written with a pattern that every later
read finds uncorrectable; `n` bytes at `loc` are written 0. -/
def State.poisonWord (s : State) (loc n : Nat) : State :=
  let s := s.store loc n 0
  let s := if n = 8 then s.cleanWord loc else s
  if isStore loc then s.setWordState loc stPoison
  else { s with bad := insertNat s.bad (loc / 8) }

/-- A landing, which has no bytes in memory. -/
def MemOp.isLanding : MemOp → Bool
  | .landing _ _ _ => true
  | _ => false

/-- The words, by byte index, that a request touches. -/
def wordsOf (op : MemOp) (loc : Nat) : List Nat :=
  match op with
  | .loadV => (List.range 4).map (fun i => loc + 8 * i)
  | .storeV _ => (List.range 4).map (fun i => loc + 8 * i)
  | .amo op _ _ _ => if op = 0x0D#6 then [loc, loc + 8] else [loc / 8 * 8]
  | _ => [loc / 8 * 8]

/-- How many bytes a request touches, from its byte index. -/
def MemOp.size : MemOp → Nat
  | .load n _ => n
  | .store n _ _ => n
  | .loadV => 32
  | .storeV _ => 32
  | .amo op _ _ _ => if op = 0x0D#6 then 16 else if op = 0x0B#6 then 4 else 8
  | .peek n => n
  | .hput n _ _ => n
  | .mark n => n
  | _ => 8

/-- Bytes that a request reads or writes, for the overlap rules (R160, R199, R201). -/
def overlaps (o1 : MemOp) (l1 : Nat) (o2 : MemOp) (l2 : Nat) : Bool :=
  decide (l1 < l2 + o2.size) && decide (l2 < l1 + o1.size)

/-- The access reads a word, so that ECC sees it: all but a write of 64 bits and WSET. -/
def MemOp.reads : MemOp → Bool
  | .store n _ _ => decide (n < 8)
  | .storeV _ => false
  | .wset _ => false
  | .hput n _ _ => decide (n < 8)
  | .mark n => decide (n < 8)
  | .fillw _ _ => false
  | _ => true

/-- The access is blocked by a word in this state (R157, column 'Waits while'). -/
def MemOp.blockedBy (op : MemOp) (st : BitVec 2) : Bool :=
  match op with
  | .load _ sync => decide (sync ≠ 0#2) && decide (st = stEmpty)
  | .store _ sync _ => decide (sync = 1#2) && decide (st = stFull)
  | .amo _ _ _ _ => decide (st = stEmpty)
  | .join => decide (st = stFull)
  | _ => false

/-- The access faults on a word that is POISON (R157). -/
def MemOp.faultsOnPoison : MemOp → Bool
  | .load _ _ => true
  | .store n sync _ => decide (n < 8) || decide (sync = 1#2)
  | .loadV => true
  | .amo _ _ _ _ => true
  | .join => true
  | .hput n _ _ => decide (n < 8)
  | _ => false

/-- What a perform answers: the state, the value returned, and a fault's cause, reason and byte index. -/
structure Done where
  st : State
  val : Vec
  fault : Option (BitVec 8 × Nat × Nat)

/-- A word blocks the access now. -/
def blockedNow (s : State) (op : MemOp) (loc : Nat) : Bool := (wordsOf op loc).any (fun l => op.blockedBy (s.wordState l))

/-- The first POISON word that makes the access fault. -/
def poisonAt (s : State) (op : MemOp) (loc : Nat) : Option Nat :=
  if op.faultsOnPoison then (wordsOf op loc).find? (fun l => poisoned (s.wordState l)) else none

/-- ECC over the words an access reads. -/
def eccAll (s : State) (n : Nat) (op : MemOp) (loc : Nat) : State :=
  if op.reads then (wordsOf op loc).foldl (fun s l => s.ecc n l) s else s

/-- The record at `loc` is merged with the record `v`; a merge out of the format faults TABLE (R174). -/
def mergeAt (s : State) (loc v : Nat) : Done :=
  match (Rec.ofNat (s.load loc 16)).merge (Rec.ofNat v) with
  | none => { st := s, val := 0#256, fault := some (causeTABLE, 1, loc) }
  | some r => { st := s.store loc 16 r.toNat, val := BitVec.ofNat 256 r.n, fault := none }

/-- An atomic on the word that holds `loc` (R171 to R173, R175). -/
def amoAt (s : State) (op : BitVec 6) (loc : Nat) (b b2 d : Word) : Done :=
  let w := loc / 8 * 8
  let x := amoWord op.toNat (wd (s.load w 8)) b b2 d (decide (loc % 8 = 4))
  { st := s.store w 8 x.1.toNat, val := BitVec.ofNat 256 x.2.toNat, fault := none }

/-- The count in a word takes a value; at 0 the word is filled (R98). -/
def countTo (s : State) (w : Nat) (m : Word) : State :=
  if m = 0#64 then (s.store w 8 m.toNat).setWordState w stFull else s.store w 8 m.toNat

/-- A JOIN counts a word down (R98). -/
def joinAt (s : State) (w : Nat) : State := countTo s w (wd (s.load w 8) - 1#64)

/-- A word that a vector store has rewritten: sound, and FULL where it was POISON (R157, R231). -/
def rewritten (s : State) (l : Nat) : State :=
  if poisoned ((s.cleanWord l).wordState l) then (s.cleanWord l).setWordState l stFull else s.cleanWord l

/-- A vector store to the words `ls` (R231). -/
def storeVec (s : State) (ls : List Nat) (loc : Nat) (v : Vec) : State := ls.foldl rewritten (s.store loc 32 v.toNat)

/-- A scalar store of `k` bytes, with an effect on the word's state as its sync mode or width has it (R157, R159). -/
def storeScalar (s : State) (loc k : Nat) (fill : Bool) (v : Word) : State :=
  let w := loc / 8 * 8
  let s := s.store loc k v.toNat
  let s := if k = 8 then s.cleanWord w else s
  if fill ∨ (k = 8 ∧ poisoned (s.wordState w)) then s.setWordState w stFull else s

/-- The state of a word as 2 bits above the bytes read. -/
def peekAt (s : State) (loc n : Nat) : Vec := BitVec.ofNat 256 (s.load loc n + (s.wordState (loc / 8 * 8)).toNat * 2 ^ 64)

/-- What an access does to words that raise no POISON fault (R157, R159, R169 to R176, R231, R296, R297, R305). -/
def performSound (s : State) (op : MemOp) (loc : Nat) : Done :=
  let w := loc / 8 * 8
  match op with
  | .load k sync =>
    let v := s.load loc k
    let s := if sync = 1#2 then s.setWordState w stFull else if sync = 2#2 then s.setWordState w stEmpty else s
    { st := s, val := BitVec.ofNat 256 v, fault := none }
  | .store k sync v => { st := storeScalar s loc k (decide (sync ≠ 0#2)) v, val := 0#256, fault := none }
  | .loadV => { st := s, val := BitVec.ofNat 256 (s.load loc 32), fault := none }
  | .storeV v => { st := storeVec s (wordsOf op loc) loc v, val := 0#256, fault := none }
  | .wstate => { st := s, val := BitVec.ofNat 256 (if poisoned (s.wordState w) then 2 else (s.wordState w).toNat), fault := none }
  | .wset v => { st := s.setWordState w (if v = 0b11#2 then stPoison else v), val := 0#256, fault := none }
  | .join => { st := joinAt s w, val := 0#256, fault := none }
  | .peek n => { st := s, val := peekAt s loc n, fault := none }
  | .hput n sf v => { st := storeScalar s loc n sf v, val := 0#256, fault := none }
  | .mark n => { st := s.poisonWord loc n, val := 0#256, fault := none }
  | .fillw v st => { st := ((s.store loc 8 v.toNat).cleanWord loc).setWordState loc st, val := 0#256, fault := none }
  | .amo op b b2 d => if op = 0x0D#6 then mergeAt s loc (b.toNat + b2.toNat * 2 ^ 64) else amoAt s op loc b b2 d
  | _ => { st := s, val := 0#256, fault := none }

/-- Performs an access that is not blocked, after ECC, at node `n`. -/
def performOp (s0 : State) (n : Nat) (op : MemOp) (loc : Nat) : Done :=
  let s := eccAll s0 n op loc
  match poisonAt s op loc with
  | some l => { st := s, val := 0#256, fault := some (causePOISON, poisonReason s l, l) }
  | none => performSound s op loc

/-- A write of the epilogue engine (R278): the word takes state FULL; a narrow write to a POISON word is refused. -/
def epiWrite (s : State) (n loc k v : Nat) : State × Bool :=
  let w := loc / 8 * 8
  let s := if k < 8 then s.ecc n w else s
  if k < 8 ∧ poisoned (s.wordState w) then (s, false)
  else
    let s := s.store loc k v
    let s := if k = 8 then s.cleanWord w else s
    (s.setWordState w stFull, true)

end Sys2Proof.Machine
end

