-- ==== Sys2Proof/Machine/Operands.lean ====
section
/-! DEFINITION. What the issue checks of R75 need of every instruction word: the registers it reads and writes (R72,
R123, R214), whether it is an access (R83, R320), and the wait that its own entry names (fourth check of R75). -/

namespace Sys2Proof.Machine

/-- The access class of a word (R83, R320). -/
inductive Access where | none | plain | relaxed | plt
  deriving DecidableEq, Repr

/-- The wait an entry names (R75, check 4). -/
inductive Wait where
  | none
  /-- FENCE of scope 0 core, 1 node, 2 device, 3 pod (R189); PSEAL and PEVICT wait as FENCE.DEV (R326, R327) -/
  | fence (scope : Nat)
  /-- BCLOSE of a tag (R190) -/
  | bclose (tag : Nat)
  /-- EXIT (R101) -/
  | exit
  /-- an item of a tag (R187) -/
  | item (tag : Nat)
  /-- an item of the tag in BATCH -/
  | batchItem
  /-- WAITANY and WAITALL with the mask in a register (R309) -/
  | tagAny (a : Reg)
  | tagAll (a : Reg)
  /-- EWAIT on an engine (R273) -/
  | engine (e : Nat)
  /-- an ECMD: the latch must be empty (R71) -/
  | command
  /-- an ECMD of engine 0 or 1: also fewer than two incomplete commands (R258) -/
  | command01
  /-- TMLOAD: one at a time in a tile (R255) -/
  | table
  deriving DecidableEq, Repr

/-- What the issue checks need of a word. Register codes are 0 to 31 for g, 32 to 47 for v. -/
structure Uses where
  reads : List Nat := []
  writes : List Nat := []
  access : Access := .none
  wait : Wait := .none
  deriving DecidableEq, Repr

/-- The code of a v register in a 5-bit field, whose top bit is zero (R58). -/
def wcode (r : Reg) : Nat := 32 + r.toNat % 16

/-- Plain or relaxed by the rx field (R160). -/
def accOf (r : BitVec 1) : Access := if r = 1#1 then .relaxed else .plain

/-- A relaxed store is an item of the tag in BATCH (R160). -/
def storeWait (r : BitVec 1) : Wait := if r = 1#1 then .batchItem else .none

/-- The uses of every word; an event has none. -/
def usesOf : Instr → Uses
  | .add d a b => { reads := [gcode a, gcode b], writes := [gcode d] }
  | .sub d a b => { reads := [gcode a, gcode b], writes := [gcode d] }
  | .mul d a b => { reads := [gcode a, gcode b], writes := [gcode d] }
  | .mulh d a b => { reads := [gcode a, gcode b], writes := [gcode d] }
  | .mulhn d a b => { reads := [gcode a, gcode b], writes := [gcode d] }
  | .div d a b => { reads := [gcode a, gcode b], writes := [gcode d] }
  | .divn d a b => { reads := [gcode a, gcode b], writes := [gcode d] }
  | .rem d a b => { reads := [gcode a, gcode b], writes := [gcode d] }
  | .remn d a b => { reads := [gcode a, gcode b], writes := [gcode d] }
  | .neg d a => { reads := [gcode a], writes := [gcode d] }
  | .and d a b => { reads := [gcode a, gcode b], writes := [gcode d] }
  | .or d a b => { reads := [gcode a, gcode b], writes := [gcode d] }
  | .xor d a b => { reads := [gcode a, gcode b], writes := [gcode d] }
  | .andn d a b => { reads := [gcode a, gcode b], writes := [gcode d] }
  | .orn d a b => { reads := [gcode a, gcode b], writes := [gcode d] }
  | .shl d a b => { reads := [gcode a, gcode b], writes := [gcode d] }
  | .shr d a b => { reads := [gcode a, gcode b], writes := [gcode d] }
  | .shra d a b => { reads := [gcode a, gcode b], writes := [gcode d] }
  | .rotr d a b => { reads := [gcode a, gcode b], writes := [gcode d] }
  | .cmpeq d a b => { reads := [gcode a, gcode b], writes := [gcode d] }
  | .cmpne d a b => { reads := [gcode a, gcode b], writes := [gcode d] }
  | .cmplt d a b => { reads := [gcode a, gcode b], writes := [gcode d] }
  | .cmpge d a b => { reads := [gcode a, gcode b], writes := [gcode d] }
  | .cmpltn d a b => { reads := [gcode a, gcode b], writes := [gcode d] }
  | .cmpgen d a b => { reads := [gcode a, gcode b], writes := [gcode d] }
  | .min d a b => { reads := [gcode a, gcode b], writes := [gcode d] }
  | .max d a b => { reads := [gcode a, gcode b], writes := [gcode d] }
  | .minn d a b => { reads := [gcode a, gcode b], writes := [gcode d] }
  | .maxn d a b => { reads := [gcode a, gcode b], writes := [gcode d] }
  | .sel d a b => { reads := [gcode d, gcode a, gcode b], writes := [gcode d] }
  | .clz d a => { reads := [gcode a], writes := [gcode d] }
  | .ctz d a => { reads := [gcode a], writes := [gcode d] }
  | .popc d a => { reads := [gcode a], writes := [gcode d] }
  | .sextb d a => { reads := [gcode a], writes := [gcode d] }
  | .sexth d a => { reads := [gcode a], writes := [gcode d] }
  | .sextw d a => { reads := [gcode a], writes := [gcode d] }
  | .zextb d a => { reads := [gcode a], writes := [gcode d] }
  | .zexth d a => { reads := [gcode a], writes := [gcode d] }
  | .zextw d a => { reads := [gcode a], writes := [gcode d] }
  | .addi d a _ => { reads := [gcode a], writes := [gcode d] }
  | .andi d a _ => { reads := [gcode a], writes := [gcode d] }
  | .ori d a _ => { reads := [gcode a], writes := [gcode d] }
  | .xori d a _ => { reads := [gcode a], writes := [gcode d] }
  | .shli d a _ => { reads := [gcode a], writes := [gcode d] }
  | .shri d a _ => { reads := [gcode a], writes := [gcode d] }
  | .shrai d a _ => { reads := [gcode a], writes := [gcode d] }
  | .rotri d a _ => { reads := [gcode a], writes := [gcode d] }
  | .cmpeqi d a _ => { reads := [gcode a], writes := [gcode d] }
  | .cmpnei d a _ => { reads := [gcode a], writes := [gcode d] }
  | .cmplti d a _ => { reads := [gcode a], writes := [gcode d] }
  | .cmpgei d a _ => { reads := [gcode a], writes := [gcode d] }
  | .cmpltni d a _ => { reads := [gcode a], writes := [gcode d] }
  | .cmpgeni d a _ => { reads := [gcode a], writes := [gcode d] }
  | .ldi d _ => { writes := [gcode d] }
  | .ldih d a _ => { reads := [gcode a], writes := [gcode d] }
  | .addp d a b => { reads := [gcode a, gcode b], writes := [gcode d] }
  | .subp d a b => { reads := [gcode a, gcode b], writes := [gcode d] }
  | .idxp d a b => { reads := [gcode a, gcode b], writes := [gcode d] }
  | .mkp d a b => { reads := [gcode a, gcode b], writes := [gcode d] }
  | .getf d a => { reads := [gcode a], writes := [gcode d] }
  | .adrp d a => { reads := [gcode a], writes := [gcode d] }
  | .addpi d a _ => { reads := [gcode a], writes := [gcode d] }
  | .fpadd d a b => { reads := [gcode a, gcode b], writes := [gcode d] }
  | .fpsub d a b => { reads := [gcode a, gcode b], writes := [gcode d] }
  | .fpmul d a b => { reads := [gcode a, gcode b], writes := [gcode d] }
  | .fpdiv d a b => { reads := [gcode a, gcode b], writes := [gcode d] }
  | .fpfma d a b => { reads := [gcode d, gcode a, gcode b], writes := [gcode d] }
  | .fpsqrt d a => { reads := [gcode a], writes := [gcode d] }
  | .fpmin d a b => { reads := [gcode a, gcode b], writes := [gcode d] }
  | .fpmax d a b => { reads := [gcode a, gcode b], writes := [gcode d] }
  | .fpabs d a => { reads := [gcode a], writes := [gcode d] }
  | .fpneg d a => { reads := [gcode a], writes := [gcode d] }
  | .fpcmpeq d a b => { reads := [gcode a, gcode b], writes := [gcode d] }
  | .fpcmplt d a b => { reads := [gcode a, gcode b], writes := [gcode d] }
  | .fpcmple d a b => { reads := [gcode a, gcode b], writes := [gcode d] }
  | .fptoi d a => { reads := [gcode a], writes := [gcode d] }
  | .fptoiz d a => { reads := [gcode a], writes := [gcode d] }
  | .fpton d a => { reads := [gcode a], writes := [gcode d] }
  | .itofp d a => { reads := [gcode a], writes := [gcode d] }
  | .ntofp d a => { reads := [gcode a], writes := [gcode d] }
  | .fptoh d a => { reads := [gcode a], writes := [gcode d] }
  | .htofp d a => { reads := [gcode a], writes := [gcode d] }
  | .fptob d a => { reads := [gcode a], writes := [gcode d] }
  | .btofp d a => { reads := [gcode a], writes := [gcode d] }
  | .beq a b _ => { reads := [gcode a, gcode b] }
  | .bne a b _ => { reads := [gcode a, gcode b] }
  | .blt a b _ => { reads := [gcode a, gcode b] }
  | .bge a b _ => { reads := [gcode a, gcode b] }
  | .bltn a b _ => { reads := [gcode a, gcode b] }
  | .bgen a b _ => { reads := [gcode a, gcode b] }
  | .j _ => {  }
  | .jal _ => { writes := [31] }
  | .jr a => { reads := [gcode a] }
  | .jalr d a => { reads := [gcode a], writes := [gcode d] }
  | .ldb d a _ r _ _ => { reads := [gcode a], writes := [gcode d], access := accOf r }
  | .ldh d a _ r _ _ => { reads := [gcode a], writes := [gcode d], access := accOf r }
  | .ldw d a _ r _ _ => { reads := [gcode a], writes := [gcode d], access := accOf r }
  | .ldd d a _ r _ _ => { reads := [gcode a], writes := [gcode d], access := accOf r }
  | .ldnb d a _ r _ _ => { reads := [gcode a], writes := [gcode d], access := accOf r }
  | .ldnh d a _ r _ _ => { reads := [gcode a], writes := [gcode d], access := accOf r }
  | .ldnw d a _ r _ _ => { reads := [gcode a], writes := [gcode d], access := accOf r }
  | .stb d a _ r _ _ => { reads := [gcode d, gcode a], access := accOf r, wait := storeWait r }
  | .sth d a _ r _ _ => { reads := [gcode d, gcode a], access := accOf r, wait := storeWait r }
  | .stw d a _ r _ _ => { reads := [gcode d, gcode a], access := accOf r, wait := storeWait r }
  | .std d a _ r _ _ => { reads := [gcode d, gcode a], access := accOf r, wait := storeWait r }
  | .ldv d a _ r _ => { reads := [gcode a], writes := [wcode d], access := accOf r }
  | .stv d a _ r _ => { reads := [wcode d, gcode a], access := accOf r, wait := storeWait r }
  | .ldbp d a _ r _ => { reads := [gcode a], writes := [wcode d], access := accOf r }
  | .stbp d a _ r _ => { reads := [wcode d, gcode a], access := accOf r, wait := storeWait r }
  | .aadd d a b _ => { reads := [gcode a, gcode b], writes := [gcode d], access := .plain }
  | .aand d a b _ => { reads := [gcode a, gcode b], writes := [gcode d], access := .plain }
  | .aor d a b _ => { reads := [gcode a, gcode b], writes := [gcode d], access := .plain }
  | .axor d a b _ => { reads := [gcode a, gcode b], writes := [gcode d], access := .plain }
  | .amin d a b _ => { reads := [gcode a, gcode b], writes := [gcode d], access := .plain }
  | .amax d a b _ => { reads := [gcode a, gcode b], writes := [gcode d], access := .plain }
  | .aminn d a b _ => { reads := [gcode a, gcode b], writes := [gcode d], access := .plain }
  | .amaxn d a b _ => { reads := [gcode a, gcode b], writes := [gcode d], access := .plain }
  | .aswap d a b _ => { reads := [gcode a, gcode b], writes := [gcode d], access := .plain }
  | .acas d a b _ => { reads := [gcode a, gcode b, gcode d], writes := [gcode d], access := .plain }
  | .afadd d a b _ => { reads := [gcode a, gcode b], writes := [gcode d], access := .plain }
  | .abump d a b _ => { reads := [gcode a, gcode b, gcode (regNext b 1)], writes := [gcode d], access := .plain }
  | .atmerge d a b _ => { reads := [gcode a, gcode b, gcode (regNext b 1)], writes := [gcode d], access := .plain }
  | .aaddRx a b => { reads := [gcode a, gcode b], access := .relaxed, wait := .batchItem }
  | .aandRx a b => { reads := [gcode a, gcode b], access := .relaxed, wait := .batchItem }
  | .aorRx a b => { reads := [gcode a, gcode b], access := .relaxed, wait := .batchItem }
  | .axorRx a b => { reads := [gcode a, gcode b], access := .relaxed, wait := .batchItem }
  | .aminRx a b => { reads := [gcode a, gcode b], access := .relaxed, wait := .batchItem }
  | .amaxRx a b => { reads := [gcode a, gcode b], access := .relaxed, wait := .batchItem }
  | .aminnRx a b => { reads := [gcode a, gcode b], access := .relaxed, wait := .batchItem }
  | .amaxnRx a b => { reads := [gcode a, gcode b], access := .relaxed, wait := .batchItem }
  | .afaddRx a b => { reads := [gcode a, gcode b], access := .relaxed, wait := .batchItem }
  | .atmergeRx a b => { reads := [gcode a, gcode b, gcode (regNext b 1)], access := .relaxed, wait := .batchItem }
  | .wstate d a _ _ => { reads := [gcode a], writes := [gcode d], access := .plain }
  | .wset d a _ _ => { reads := [gcode d, gcode a], access := .plain }
  | .fenceCore => { wait := .fence 0 }
  | .fenceNode => { wait := .fence 1 }
  | .fenceDev => { wait := .fence 2 }
  | .fencePod => { wait := .fence 3 }
  | .bclose d t => { writes := [gcode d], wait := .bclose (t.toNat) }
  | .btest d _ => { writes := [gcode d, gcode (regNext d 1)] }
  | .waitany d a => { reads := [gcode a], writes := [gcode d], wait := .tagAny a }
  | .waitall a => { reads := [gcode a], wait := .tagAll a }
  | .ffready d a => { reads := [gcode a], writes := [gcode d] }
  | .tagclr a => { reads := [gcode a] }
  | .fork d a b => { reads := [gcode a, gcode b, gcode (regNext b 1), gcode (regNext b 2), gcode (regNext b 3)], writes := [gcode d] }
  | .spawnat d a b _ => { reads := [gcode a, gcode b, gcode (regNext b 1), gcode (regNext b 2), gcode (regNext b 3)], writes := [gcode d] }
  | .join a _ => { reads := [gcode a], access := .plain }
  | .exit a => { reads := [gcode a], wait := .exit }
  | .yield => {  }
  | .nextw d => { writes := [gcode d] }
  | .sendr a b => { reads := [gcode a, gcode b], access := .relaxed, wait := .batchItem }
  | .sendrRl a b => { reads := [gcode a, gcode b], access := .relaxed, wait := .batchItem }
  | .sendrB a b t => { reads := [gcode a, gcode b], access := .relaxed, wait := .item (t.toNat) }
  | .sendrRlB a b t => { reads := [gcode a, gcode b], access := .relaxed, wait := .item (t.toNat) }
  | .takeG d a => { reads := [gcode a], writes := [gcode a, gcode d] }
  | .takeV d a => { reads := [wcode a], writes := [wcode a, wcode d] }
  | .emptyG a => { writes := [gcode a] }
  | .emptyV a => { writes := [wcode a] }
  | .ptestG d _ => { writes := [gcode d] }
  | .ptestV d _ => { writes := [gcode d] }
  | .self d => { writes := [gcode d] }
  | .hreg d a b => { reads := [gcode a, gcode b], writes := [gcode d] }
  | .plook d a _ => { reads := [gcode a], writes := [gcode d], access := .plt }
  | .pmake d a b _ => { reads := [gcode a, gcode b, gcode (regNext b 1)], writes := [gcode d, gcode (regNext d 1)], access := .plt }
  | .patt d a _ => { reads := [gcode a], writes := [gcode d, gcode (regNext d 1)], access := .plt }
  | .pattT d a _ => { reads := [gcode a], writes := [gcode d, gcode (regNext d 1)], access := .plt }
  | .pdet a _ => { reads := [gcode a], access := .plt }
  | .pseal a _ => { reads := [gcode a], access := .plt, wait := .fence 2 }
  | .pevict a _ => { reads := [gcode a], access := .plt, wait := .fence 2 }
  | .pfree a _ => { reads := [gcode a], access := .plt }
  | .mmaz _ => { wait := .command01 }
  | .mma a b _ _ => { reads := [gcode a, gcode b], wait := .command01 }
  | .rfree _ => { wait := .command01 }
  | .epi a b _ => { reads := [gcode a, gcode b], wait := .command01 }
  | .copy a b _ => { reads := [gcode a, gcode b], wait := .command }
  | .gather a b _ => { reads := [gcode a, gcode b], wait := .command }
  | .scatter a b _ => { reads := [gcode a, gcode b], wait := .command }
  | .bins a b _ => { reads := [gcode a, gcode b], wait := .command }
  | .mcast a b _ => { reads := [gcode a, gcode b], wait := .command }
  | .freeb a _ => { reads := [gcode a], wait := .command }
  | .fillw a b _ => { reads := [gcode a, gcode b], wait := .command }
  | .eset _ a _ => { reads := [gcode a] }
  | .eget _ d _ => { writes := [gcode d] }
  | .epop _ d => { writes := [gcode d] }
  | .ewait e d => { writes := [gcode d], wait := .engine (e.toNat) }
  | .etest _ d => { writes := [gcode d] }
  | .vadd d a b => { reads := [vcode a, vcode b], writes := [vcode d] }
  | .vsub d a b => { reads := [vcode a, vcode b], writes := [vcode d] }
  | .vmul d a b => { reads := [vcode a, vcode b], writes := [vcode d] }
  | .vmad d a b c => { reads := [vcode a, vcode b, vcode c], writes := [vcode d] }
  | .vmin d a b => { reads := [vcode a, vcode b], writes := [vcode d] }
  | .vmax d a b => { reads := [vcode a, vcode b], writes := [vcode d] }
  | .vabs d a => { reads := [vcode a], writes := [vcode d] }
  | .vneg d a => { reads := [vcode a], writes := [vcode d] }
  | .vadds d a b => { reads := [vcode a, vcode b], writes := [vcode d] }
  | .vsubs d a b => { reads := [vcode a, vcode b], writes := [vcode d] }
  | .vmuls d a b => { reads := [vcode a, vcode b], writes := [vcode d] }
  | .vand d a b => { reads := [vcode a, vcode b], writes := [vcode d] }
  | .vor d a b => { reads := [vcode a, vcode b], writes := [vcode d] }
  | .vxor d a b => { reads := [vcode a, vcode b], writes := [vcode d] }
  | .vandn d a b => { reads := [vcode a, vcode b], writes := [vcode d] }
  | .vshl d a b => { reads := [vcode a, vcode b], writes := [vcode d] }
  | .vshr d a b => { reads := [vcode a, vcode b], writes := [vcode d] }
  | .vshra d a b => { reads := [vcode a, vcode b], writes := [vcode d] }
  | .vcmpeq d a b => { reads := [vcode a, vcode b], writes := [vcode d] }
  | .vcmpne d a b => { reads := [vcode a, vcode b], writes := [vcode d] }
  | .vcmplt d a b => { reads := [vcode a, vcode b], writes := [vcode d] }
  | .vcmple d a b => { reads := [vcode a, vcode b], writes := [vcode d] }
  | .vsel d a b c => { reads := [vcode a, vcode b, vcode c], writes := [vcode d] }
  | .vperm d a b c => { reads := [vcode a, vcode b, vcode c], writes := [vcode d] }
  | .vcvt d a _ _ => { reads := [vcode a, vcode d], writes := [vcode d] }
  | .vqscl d a b => { reads := [vcode a, vcode b], writes := [vcode d] }
  | .vqnt d a b _ => { reads := [vcode a, vcode b], writes := [vcode d] }
  | .vexp2 d a _ => { reads := [vcode a], writes := [vcode d] }
  | .vlog2 d a _ => { reads := [vcode a], writes := [vcode d] }
  | .vrcp d a _ => { reads := [vcode a], writes := [vcode d] }
  | .vrsq d a _ => { reads := [vcode a], writes := [vcode d] }
  | .vdot d a b => { reads := [vcode d, vcode a, vcode b], writes := [vcode d] }
  | .vdots d a b => { reads := [vcode d, vcode a, vcode b], writes := [vcode d] }
  | .vrsum d a => { reads := [vcode a], writes := [vcode d] }
  | .vrmin d a => { reads := [vcode a], writes := [vcode d] }
  | .vrmax d a => { reads := [vcode a], writes := [vcode d] }
  | .vsplat d a => { reads := [gcode a], writes := [wcode d] }
  | .vext d a b => { reads := [wcode a, gcode b], writes := [gcode d] }
  | .vins d a b => { reads := [wcode d, gcode a, gcode b], writes := [wcode d] }
  | .tminit d => { writes := [vcode d] }
  | .tmacc d a b _ => { reads := [vcode d, vcode a, vcode b], writes := [vcode d] }
  | .tmmrg d a b _ => { reads := [vcode a, vcode b], writes := [vcode d] }
  | .tmfin d a _ => { reads := [vcode a], writes := [vcode d] }
  | .tmload a _ _ => { reads := [vcode a], access := .plain, wait := .table }
  | .nop => {  }
  | .trap a _ => { reads := [gcode a] }
  | .rte => {  }
  | .srd d _ => { writes := [gcode d] }
  | .swr a _ => { reads := [gcode a] }
  | .bkpt _ => {  }
  | .parkResume _ | .drainTimeout _ | .portAccept _ | .routeDeliver _ | .bankPerform _ | .waitListRetry _ | .reply _
  | .targetFaultTrap _ | .fenceMarkerReturn _ _ | .summaryRequest _ _ _ | .summaryReply _ _ _ | .landingArrive _
  | .landingTimeout _ _ | .routeHint _ | .routeInvalidate _ | .logAppend _ | .taskTake _ | .stealProbe _
  | .stealRecordArrive _ | .stealRetry _ | .spawnArrive _ | .nodePartComplete _ _ | .doneMessage _ _
  | .engineDispatch _ | .burinTake _ | .mmaComplete _ | .mmaGranuleStop _ | .epiTake _ | .epiComplete _
  | .hartTake _ _ | .commandComplete _ _ | .freebArrive _ | .functionResult _ | .meanResult _ | .tableSwitch _
  | .evictComplete _ _ | .plateTableStep _ | .preemptMark _ _ | .save _ | .saveComplete _ | .restore _ _
  | .restoreCodeLoad _ _ | .preemptWithdraw _ | .snoopEvent _ _ | .launch _ | .placementRetry | .codeMulticast _ _
  | .codeAck _ _ | .wait _ | .waitRemap _ | .waitTimeout _ | .signal _ | .plateop _ | .nopPacket _ | .packetReread _
  | .download _ | .ctxset | .ctxend | .qreg | .qrestart | .qclass | .memwin | .podkey | .registerWrite _ _
  | .hostMemAccess _ _ | .stateWindowRead _ | .bar2Write _ _ | .powerUpReset | .bucketPeriod _
  | .thermalThrottle _ _ | .droopThrottle _ | .droopThrottleEnd _ | .thermalShutdown _ | .rotorMeeting _ _
  | .relayOffer _ _ | .frameReceive _ _ _ | .podPacketArrive _ _ | .podReceipt _ _ | .podPacketExpire _
  | .waitingNotice _ | .remoteReplyTimeout _ | .summaryPeerTimeout _ | .summaryResend _ _ _ | .peerLostDeclare _
  | .lossNotice _ | .podJoin _ _ _ _ | .keyRotate _ _ | .keyTimeout _ _ | .wastedTurn _ | .probeEmptyReply _
  | .thiefAnswer _ | .failedPresenceWindow _ _ | .installMessage _ _ | .unknownCommandCode _ | .relayDropRefusal _ => {}

end Sys2Proof.Machine
end

