-- ==== Sys2Proof/Machine/Ops.lean ====
section
/-! DEFINITION. The shared operations of the machine: registers and windows (R71 to R74, R106), the issue of an
instruction (R75), taking a trap (R378) and returning from one (R384), the end of a thread (R101, R381), batches and
fences (R185 to R191), refills (R116), births of threads (R88, R91). -/

namespace Sys2Proof.Machine

/-! ### Counters and registers of a slot -/

/-- Numbers of the counters 0x050 to 0x05F (R84). -/
def cntReg : Fin 16 := 0
def cntWord : Fin 16 := 1
def cntAcc : Fin 16 := 2
def cntLook : Fin 16 := 3
def cntTag : Fin 16 := 4
def cntEng : Fin 16 := 5
def cntIdle : Fin 16 := 6
def cntIssued : Fin 16 := 7
def cntLaviol : Fin 16 := 8
def cntWasted : Fin 16 := 9
def cntForks : Fin 16 := 10
def cntInline : Fin 16 := 11
def cntStolen : Fin 16 := 12
def cntNexts : Fin 16 := 13
def cntSaves : Fin 16 := 14
def cntExits : Fin 16 := 15

/-- A counter rises by 1, mod 2^64 (R84). -/
def Slot.count (x : Slot) (k : Fin 16) : Slot := { x with cnt := x.cnt.set k (x.cnt.get k + 1#64) }

/-- The counter of a park reason (R84). -/
def Reason.counter : Reason → Fin 16
  | .none => cntReg
  | .reg => cntReg
  | .word => cntWord
  | .access => cntAcc
  | .look => cntLook
  | .tag => cntTag
  | .engine => cntEng
  | .idle => cntIdle

/-- G[r]. -/
def Slot.rg (x : Slot) (r : Reg) : Word := x.g.get r.toFin
/-- V[r]. -/
def Slot.rv (x : Slot) (r : VReg) : Vec := x.v.get r.toFin
/-- V of a 5-bit field whose top bit is zero (R58). -/
def Slot.rw (x : Slot) (r : Reg) : Vec := x.rv (r.setWidth 4)

/-- A register code's presence is set, its pending mark and its ECC errors cleared (R72, R106, R382). -/
def Slot.present (x : Slot) (code : Nat) : Slot :=
  { x with pres := x.pres ||| regBit code, pend := x.pend &&& ~~~regBit code,
           rerr := x.rerr &&& ~~~regBit code, rcorr := x.rcorr &&& ~~~regBit code }

/-- Writes G[r] and sets its presence bit (R106). -/
def Slot.setG (x : Slot) (r : Reg) (v : Word) : Slot := { x with g := x.g.set r.toFin v }.present (gcode r)
/-- Writes V[r] and sets its presence bit (R106). -/
def Slot.setV (x : Slot) (r : VReg) (v : Vec) : Slot := { x with v := x.v.set r.toFin v }.present (vcode r)
/-- Writes V of a 5-bit field. -/
def Slot.setW (x : Slot) (r : Reg) (v : Vec) : Slot := x.setV (r.setWidth 4) v

/-- Writes one 64-bit lane of a v register (R108). -/
def setLane (v : Vec) (lane : Nat) (w : Word) : Vec :=
  (v &&& ~~~(BitVec.ofNat 256 (2 ^ 64 - 1) <<< (64 * lane))) ||| (BitVec.ofNat 256 w.toNat <<< (64 * lane))

/-- Marks the registers of a mask pending and empty (R71). -/
def Slot.pending (x : Slot) (m : BitVec 48) : Slot := { x with pres := x.pres &&& ~~~m, pend := x.pend ||| m }

/-- Sets the registers of a mask full with the value they hold (R161). -/
def Slot.refull (x : Slot) (m : BitVec 48) : Slot := { x with pres := x.pres ||| m, pend := x.pend &&& ~~~m }

/-- Opens a window (R71). -/
def Slot.openWin (x : Slot) (id count : Nat) (m : BitVec 48) : Slot :=
  { x with wins := x.wins ++ [{ id := id, count := count, dests := m }] }
/-- The completion event of a window (R71). -/
def Slot.closeWin (x : Slot) (id : Nat) : Slot := { x with wins := x.wins.filter (fun w => decide (w.id ≠ id)) }
/-- A later instruction issues: every window's count falls by 1 (R71). -/
def Slot.lowerWins (x : Slot) : Slot := { x with wins := x.wins.map (fun w => { w with count := w.count - 1 }) }

/-- An instruction issues (R71, R75, R84): windows fall, ISSUED rises, a park ends, the PC goes on. -/
def Slot.retire (x : Slot) (pc : Nat) : Slot :=
  { x.lowerWins.count cntIssued with st := .running, reason := .none, inPark := false, replay := none, pc := pc }

/-- The special FCAUSE.INH bit (R389). -/
def Slot.inh (x : Slot) : Bool := x.fcause.getLsbD 63

/-! ### Turns of a cycle (R81) -/

/-- The core offers the turn of this cycle to slot `sl`, once (R81). -/
def offered (s : State) (sl : Nat) : Bool :=
  decide (s.cycle % 8 = sl % 8) && decide ((s.slot sl).turnAt ≠ s.cycle + 1)

/-- The slot holds no thread that could issue (R79, R209). -/
def noThread (x : Slot) : Bool :=
  (match x.st with | .running => false | .parked => decide (x.reason = .idle) | _ => true) || x.ending.isSome

/-- The slot may still issue in this cycle: what arrives for it, or for its core, in the cycle comes after (R90, R107,
R307; log entry 92). -/
def issueDue (s : State) (sl : Nat) : Bool := offered s sl && !noThread (s.slot sl)

/-- The slot of a core whose turn this cycle is (R81). -/
def turnSlot (s : State) (c : Nat) : Nat := c * 8 + s.cycle % 8

/-- A core's own issue stage may still act in this cycle. -/
def stageDue (s : State) (c : Nat) : Bool := issueDue s (turnSlot s c)

/-- The deque of a core can take an entry or give one up in this cycle: its own issue stage has gone first, and the deque
has made no other (R90). -/
def dequeReady (s : State) (c : Nat) : Bool := !stageDue s c && decide ((s.core c).dequeAt ≠ s.cycle + 1)

/-! ### Requests -/

/-- Changes the request with a number. -/
def State.updReq (s : State) (id : Nat) (f : Req → Req) : State :=
  { s with reqs := mapIf (fun r => decide (r.id = id)) f s.reqs }
/-- Removes a request. -/
def State.dropReq (s : State) (id : Nat) : State := { s with reqs := s.reqs.filter (fun r => decide (r.id ≠ id)) }
/-- The request with a number. -/
def State.req? (s : State) (id : Nat) : Option Req := s.reqs.find? (fun r => decide (r.id = id))
/-- Moves a request to a stage, last in its order. -/
def State.stageReq (s : State) (id : Nat) (st : Stage) : State :=
  { s with reqs := mapIf (fun r => decide (r.id = id)) (fun r => { r with stage := st, stamp := s.nextId }) s.reqs,
           nextId := s.nextId + 1 }

/-- The request waits in a wait list (R164). -/
def Stage.isWaiting : Stage → Bool
  | .waiting _ => true
  | _ => false
/-- The request is performed. -/
def Stage.isReplied : Stage → Bool
  | .replied _ _ => true
  | _ => false

/-- The request is with another module. -/
def Stage.isSent : Stage → Bool
  | .sent _ => true
  | _ => false
/-- A slot's own. -/
def Owner.is (o : Owner) (sl : Nat) : Bool := match o with | .slot k _ => decide (k = sl) | _ => false

/-- The request stands in a wait list, here or, as its notices say, in another module (R164, R346). -/
def Req.waits (r : Req) : Bool := r.stage.isWaiting || (r.stage.isSent && r.listed)
/-- An access of the slot stands in a wait list (R75). -/
def accWaiting (s : State) (id : Nat) : Bool := s.reqs.any (fun r => decide (r.acc = id) && r.waits)

/-- The access counts under R83; a SPAWNAT does not. -/
def Acc.counts (a : Acc) : Bool := decide (a.fill ≠ .status)

/-! ### Engine commands in flight -/

/-- The engine of a command (R269, R288). -/
def CmdKind.engine : CmdKind → Nat
  | .mmaz => 0
  | .mma => 0
  | .rfree => 0
  | .epi => 1
  | _ => 2

/-- The command of a hart's job. -/
def HartWork.cmd? : HartWork → Option Cmd
  | .cmd c => some c
  | .evict _ _ => none

/-- Every incomplete program command of the module. -/
def allCmds (s : State) : List Cmd :=
  s.slots.flatMap (fun e => e.2.latch.toList ++ e.2.stopped)
  ++ s.cores.flatMap (fun e => e.2.q0 ++ e.2.q1 ++ e.2.q2)
  ++ s.tiles.flatMap (fun e => (e.2.burin.map (fun j => j.cmd)).toList ++ (e.2.epi.map (fun j => j.cmd)).toList)
  ++ s.nodes.flatMap (fun e => e.2.harts.filterMap (fun h => h.2.work.cmd?))

/-- Incomplete commands of a slot on an engine, those of a thread that has ended in it included (R257, R258, R273). -/
def incomplete (s : State) (sl : Nat) (e : Nat) : Nat :=
  ((allCmds s).filter (fun c => decide (c.sl = sl) && decide (c.kind.engine = e))).length

/-- A ring place is freed when no slot owns its tile and no command refers to it (R260). -/
def sweepRing (s : State) (t : Nat) : State :=
  let refs := (allCmds s).filterMap (fun c => if c.kind.engine = 2 then none else some c.rt)
  let owned := s.slots.flatMap (fun e => e.2.owned)
  let x := s.tile t
  s.setTile t { x with ring := x.ring.map (fun p =>
    match p with
    | none => none
    | some r => if refs.contains r.rt || owned.contains r.rt then some r else none) }

/-! ### Batches (R185 to R191) -/

/-- Items of a tag. -/
def Slot.tagItems (x : Slot) (t : Nat) : List Item := x.items.filter (fun i => decide (i.tag = t))
/-- The slot has learned every outcome of a tag. -/
def Slot.tagKnown (x : Slot) (t : Nat) : Bool := (x.tagItems t).all (fun i => i.known)
/-- Bitmap of a tag's known failures. -/
def Slot.failMap (x : Slot) (t : Nat) : Word :=
  (x.tagItems t).foldl (fun m i => if i.known && decide (i.code ≠ 0#8) then m ||| (1#64 <<< i.seq) else m) 0#64
/-- The lowest failed item of a tag. -/
def Slot.lowFail (x : Slot) (t : Nat) : Option Item :=
  leastBy (fun i => i.seq) ((x.tagItems t).filter (fun i => i.known && decide (i.code ≠ 0#8)))
/-- How many items of a tag failed. -/
def Slot.failCount (x : Slot) (t : Nat) : Nat := ((x.tagItems t).filter (fun i => i.known && decide (i.code ≠ 0#8))).length

/-- Closes a tag (R190): records its lowest failure while BSTAT.CODE is 0, and forgets its items. -/
def Slot.closeTag (x : Slot) (t : Nat) : Slot :=
  let b := match x.lowFail t with
    | some i => if x.bstat.toNat % 256 = 0 then BitVec.ofNat 16 (i.seq * 1024 + t * 256 + i.code.toNat) else x.bstat
    | none => x.bstat
  { x with bstat := b, items := x.items.filter (fun i => decide (i.tag ≠ t)),
           asked := x.asked.filter (fun a => decide (a.tag ≠ t)) }

/-- FINFO of LANDREF for a tag about to be closed (R192). -/
def Slot.landInfo (x : Slot) (t reason : Nat) : Word :=
  match x.lowFail t with
  | some i => infoLand (x.failCount t) i.seq t i.code.toNat reason
  | none => infoLand 0 0 t 0 reason

/-- The ask covers the item. -/
def Ask.covers (a : Ask) (i : Item) : Bool := decide (a.tag = i.tag) && decide (i.peer = some a.peer) && decide (i.seq < a.upto)

/-- Asks every peer of a tag not asked since its last item (R190). -/
def Slot.askTag (x : Slot) (t : Nat) : Slot :=
  (x.tagItems t).foldl (fun y i =>
    match i.peer with
    | none => y
    | some p =>
      if i.known || y.asked.any (fun a => a.covers i) then y
      else { y with asked := y.asked ++ [{ tag := t, peer := p, upto := (x.tagItems t).length, st := .sent }] }) x

/-- An item, or one of its words, lies within a fence's scope (R189, R235). -/
def Item.inScope (i : Item) (sl scope : Nat) : Bool :=
  if scope = 0 then i.cores.contains (coreOfSlot sl)
  else if scope = 1 then i.nodes.contains (nodeOfSlot sl)
  else if scope = 2 then i.loc else true

/-- A request's target lies within a fence's scope (R189). -/
def Req.inScope (r : Req) (sl scope : Nat) : Bool :=
  match r.tgt with
  | .store c _ => if scope = 0 then decide (c = coreOfSlot sl) else if scope = 1 then decide (nodeOfCore c = nodeOfSlot sl) else true
  | .slice t _ => if scope = 0 then false else if scope = 1 then decide (nodeOfTile t = nodeOfSlot sl) else true
  | .remote _ => decide (scope = 3)
  | _ => decide (2 ≤ scope)

/-- A word of a local item within a fence's scope is unperformed (R189, R203, R235); a landing's scope is that of its item. -/
def scopeOpen (s : State) (sl scope : Nat) (i : Item) : Bool :=
  s.reqs.any (fun r => r.own.is sl && decide (r.item = some (i.tag, i.seq)) && !r.stage.isReplied
    && (r.op.isLanding || r.inScope sl scope))

/-- The fault reply of a relaxed item is on its way. -/
def faultDue (s : State) (sl : Nat) (tag seq : Nat) : Bool :=
  s.reqs.any (fun r => (match r.own with | .slot k _ => decide (k = sl) | _ => false)
    && decide (r.item = some (tag, seq)) && r.stage.isReplied)

/-- A fence of a scope is complete (R189, R203): relaxed loads have filled, plain accesses in scope are performed, every item
in scope has settled as the slot has learned; FENCE.POD knows every outcome. -/
def fenceReady (s : State) (sl scope : Nat) : Bool :=
  let x := s.slot sl
  !(x.accs.any (fun a => a.relaxed && decide (a.dest ≠ .none)))
  && !(x.accs.any (fun a => !a.relaxed && a.counts && s.reqs.any (fun r =>
    decide (r.acc = a.id) && !r.stage.isReplied && r.inScope sl scope)))
  && x.items.all (fun i => !i.inScope sl scope || i.known || (i.loc && decide (i.marker = 2) && decide (scope ≤ i.scope)))
  && (decide (scope ≠ 3) || x.items.all (fun i => i.known))

/-- A fence sends its markers and, for other modules or scope POD, its summary requests (R189). -/
def Slot.sendMarkers (x : Slot) (sl scope : Nat) : Slot :=
  let y := { x with items := x.items.map (fun i =>
    if i.inScope sl scope && i.loc && (decide (i.marker = 0) || decide (i.scope < scope)) && !i.known then
      { i with marker := 1, scope := scope } else i) }
  if scope = 3 then (List.range 4).foldl (fun z t => z.askTag t) y else y

/-! ### The issue checks (R75) -/

/-- The first register that stops a word: read and pending or empty, or written and pending (R72, R123). -/
def regBlock (x : Slot) (u : Uses) : Option Nat :=
  match u.reads.find? (fun r => inMask x.pend r || !inMask x.pres r) with
  | some r => some r
  | none => u.writes.find? (fun r => inMask x.pend r)

/-- Check 3 of R75 fails (R83, R320). -/
def accessBlock (x : Slot) (a : Access) : Bool :=
  match a with
  | .none => false
  | .plain => x.accs.any Acc.counts
  | .plt => x.accs.any Acc.counts
  | .relaxed => x.accs.any (fun c => c.counts && !c.relaxed) || decide (4 ≤ (x.accs.filter (fun c => c.relaxed)).length)

/-- A failing tag that a fence or close would trap for. -/
def trapTag (x : Slot) : Option Nat :=
  (List.range 4).find? (fun t => decide (x.failMap t ≠ 0#64) && x.btrap.getLsbD t)

/-- The wait of an entry is not over (check 4 of R75); the park reason. An EXIT also waits for the replies of the slot's plain
accesses, so that no target fault and no table switch is lost with the thread (R161, R254; log entry 21). -/
def waitBlock (s : State) (sl : Nat) (w : Wait) : Option Reason :=
  let x := s.slot sl
  match w with
  | .none => none
  | .fence k => if fenceReady s sl k then none else some .access
  | .bclose t => if x.tagKnown t then none else some .access
  | .exit =>
    if !fenceReady s sl 3 || x.accs.any (fun a => !a.relaxed && a.counts) then some .access
    else if x.dfr.isSome || (trapTag x).isSome then none
    else if x.pend ≠ 0#48 then some .reg
    else if x.latch.isSome then some .engine else none
  | .item t => if decide (64 ≤ (x.tagItems t).length) && !x.tagKnown t then some .access else none
  | .batchItem =>
    let t := x.batch.toNat % 4
    if decide (64 ≤ (x.tagItems t).length) && !x.tagKnown t then some .access else none
  | .tagAny a => if x.rg a ≠ 0#64 ∧ (s.core (coreOfSlot sl)).tags &&& x.rg a = 0#64 then some .tag else none
  | .tagAll a => if (s.core (coreOfSlot sl)).tags &&& x.rg a = x.rg a then none else some .tag
  | .engine e => if incomplete s sl e = 0 then none else some .engine
  | .command => if x.latch.isSome then some .engine else none
  | .command01 =>
    if x.latch.isSome || decide (2 ≤ incomplete s sl 0 + incomplete s sl 1) then some .engine else none
  | .table => if (s.tile (tileOfSlot sl)).tload.isSome then some .engine else none

/-- The first check of R75 that fails for a word, as the park's reason. Where several windows stand at count 0, one of an access
in a wait list and one not, the reason is WORD: R75 does not say, and this is the model's choice (log entry 112). -/
def stallOf (s : State) (sl : Nat) (i : Instr) : Option Reason :=
  let x := s.slot sl
  let u := usesOf i
  if x.wins.any (fun w => decide (w.count = 0)) then
    some (if x.wins.any (fun w => decide (w.count = 0) && accWaiting s w.id) then .word else .look)
  else if (regBlock x u).isSome then some .reg
  else if accessBlock x u.access then some (if x.accs.any (fun a => accWaiting s a.id) then .word else .access)
  else waitBlock s sl u.wait

/-- What a parked wait has sent: markers and summary requests (R187, R189, R190). -/
def Slot.sendFor (x : Slot) (sl : Nat) (w : Wait) : Slot :=
  match w with
  | .fence k => x.sendMarkers sl k
  | .exit => x.sendMarkers sl 3
  | .bclose t => x.askTag t
  | .item t => if 64 ≤ (x.tagItems t).length then x.askTag t else x
  | .batchItem => if 64 ≤ (x.tagItems (x.batch.toNat % 4)).length then x.askTag (x.batch.toNat % 4) else x
  | _ => x

/-- Parks the slot (R3, R75): the counter of the reason rises once in a park; the turn is wasted. -/
def Slot.park (x : Slot) (r : Reason) : Slot :=
  let y := if x.inPark then x else x.count r.counter
  { y.count cntWasted with st := .parked, reason := r, inPark := true }

/-- A register that a word reads or writes is pending in an open window (R72, R73): the first such. -/
def lookPending (x : Slot) (u : Uses) : Option Nat :=
  (u.reads ++ u.writes).find? (fun r => inMask x.pend r && x.wins.any (fun w => inMask w.dests r))

/-- A REG park on the pending register of an open window is a violation (R73). -/
def Slot.violation (x : Slot) (r : Option Nat) : Slot :=
  match r with
  | some r => if x.replay.isNone then { x.count cntLaviol with replay := some r } else x
  | none => x

/-- The slot parks on a word whose check failed. -/
def parkOn (s : State) (i : Instr) (r : Reason) : State :=
  s.updSlot s.cur (fun x =>
    let x := if r = .reg then x.violation (lookPending x (usesOf i)) else x
    let x := if r = .access then x.sendFor s.cur (usesOf i).wait else x
    x.park r)

/-! ### Done status, landings that end, tags -/

/-- Combines two status words (R102). -/
def combineStatus (a b : Word) : Word :=
  wd (max (bits a.toNat 63 56) (bits b.toNat 63 56) * 2 ^ 56
    + min (bits a.toNat 55 32 + bits b.toNat 55 32) 0xFFFFFF * 2 ^ 32
    + ((a ||| b).toNat / 65536 % 65536) * 65536
    + min (a.toNat % 65536 + b.toNat % 65536) 0xFFFF)

/-- Changes a launch. -/
def State.updLaunch (s : State) (k : Nat) (f : Launch → Launch) : State :=
  match s.launch? k with
  | none => s
  | some l => { s with launches := Tab.put s.launches k (f l) }

/-- Changes a launch's part on a node. -/
def State.updPart (s : State) (k node : Nat) (f : Part → Part) : State :=
  s.updLaunch k (fun l => { l with parts := mapIf (fun p => decide (p.node = node)) f l.parts })

/-- A launch's part on a node. -/
def State.part? (s : State) (k node : Nat) : Option Part :=
  match s.launch? k with
  | none => none
  | some l => l.parts.find? (fun p => decide (p.node = node))

/-- Combines a contribution into the node status of a launch (R102). -/
def State.addStatus (s : State) (k node : Nat) (w : Word) : State :=
  s.updPart k node (fun p => { p with word := combineStatus p.word w })

/-- One perform of an item has settled with a code; the first failure stands. -/
def Item.settle (code : BitVec 8) (i : Item) : Item :=
  { i with left := i.left - 1, code := if i.code = 0#8 then code else i.code }

/-- Settles an item of a slot. -/
def Slot.settle (x : Slot) (tag seq : Nat) (code : BitVec 8) : Slot :=
  { x with items := mapIf (fun i => decide (i.tag = tag) && decide (i.seq = seq)) (Item.settle code) x.items }

/-- An item of another module; its number names one item of its batch (log entry 71). -/
def PeerItem.is (pos sl tag seq batch : Nat) (i : PeerItem) : Bool :=
  decide (i.pos = pos) && decide (i.sl = sl) && decide (i.tag = tag) && decide (i.seq = seq) && decide (i.batch = batch)

/-- An item's settlement at its sender (R185): one of its performs settles with a code. -/
def State.settleItem (s : State) (own : Owner) (item : Option (Nat × Nat)) (code : BitVec 8) : State :=
  match own, item with
  | .slot sl th, some (tag, seq) =>
    if decide ((s.slot sl).th = th) && (s.slot sl).ending.isNone then s.updSlot sl (fun x => x.settle tag seq code)
    else s
  | .remote pos rid _ batch, some (tag, seq) =>
    let items := mapIf (PeerItem.is pos rid tag seq batch)
      (fun i => { i with left := i.left - 1, code := if i.code = 0#8 then code else i.code }) s.pod.items
    { s with pod := { s.pod with items := items } }
  | _, _ => s

/-- A landing settles and is gone (R112, R118). -/
def State.settleLanding (s : State) (id : Nat) (code : BitVec 8) : State :=
  match s.req? id with
  | none => s
  | some r => (s.settleItem r.own r.item code).dropReq id

/-- Refusal codes of landings (R112). -/
def landExited : BitVec 8 := 1#8
def landFull : BitVec 8 := 2#8
def landTimeout : BitVec 8 := 3#8
def landBadreg : BitVec 8 := 4#8
def landPeerlost : BitVec 8 := 5#8

/-- A landing buffer entry is for register code `r` (R116). -/
def Held.forReg (e : Held) (r : Nat) : Bool :=
  if r < 32 then decide (e.code.toNat = r) else decide (e.code.toNat / 4 = 16 + (r - 32))

/-- Writes a landed value into its register or lane and sets the presence bit (R106, R108). -/
def Slot.land (x : Slot) (code : BitVec 7) (v : Word) : Slot :=
  if code.toNat < 32 then x.setG (code.setWidth 5) v
  else
    let r : VReg := BitVec.ofNat 4 (code.toNat / 4 % 16)
    x.setV r (setLane (x.rv r) (code.toNat % 4) v)

/-- Refill of a register from the core's landing buffer (R116), if it is empty and not pending. -/
def refill (s : State) (sl r : Nat) : State :=
  let x := s.slot sl
  let c := coreOfSlot sl
  if inMask x.pres r || inMask x.pend r then s
  else
    match ((s.core c).lbuf.find? (fun e => decide (e.th = x.th) && e.forReg r)) with
    | none => s
    | some e =>
      let s := s.updCore c (fun k => { k with lbuf := k.lbuf.filter (fun h => decide (h.id ≠ e.id)) })
      let s := s.setSlot sl (x.land e.code e.val)
      s.settleLanding e.id 0#8

/-- Every landing buffer entry of a thread is refused with LAND_EXITED (R116). -/
def refuseHeld (s : State) (th : Thread) : State :=
  let ids := s.cores.flatMap (fun e => (e.2.lbuf.filter (fun h => decide (h.th = th))).map (fun h => h.id))
  let s := { s with cores := s.cores.map (fun e =>
    (e.1, { e.2 with lbuf := e.2.lbuf.filter (fun h => decide (h.th ≠ th)) })) }
  ids.foldl (fun s id => s.settleLanding id landExited) s

/-! ### The end of a thread (R101, R209, R381) -/

/-- PDET at the table (R325): PINS falls; an OPEN plate without pins is FILLING again. -/
def detachPlate (s : State) (ref : Word) : State :=
  let n := bits ref.toNat 57 44
  let e := bits ref.toNat 5 0
  let p := s.plate n e
  let pins := if p.pins = 0#16 then 0#16 else p.pins - 1#16
  s.setPlate n e { p with pins := pins, st := if p.st = .open_ ∧ pins = 0#16 then .filling else p.st }

/-- A table load, which is performed at its switch (R254). -/
def Acc.isTable (a : Acc) : Bool := match a.fill with | .table _ _ _ => true | _ => false

/-- The accesses of an ending thread are performed, those that the port has accepted included, and no PLT instruction is in
flight (R209, R320). -/
def quiet (s : State) (sl : Nat) : Bool :=
  (s.slot sl).accs.all (fun a => !a.plt && !a.isTable)
  && s.reqs.all (fun r => decide (r.own ≠ .slot sl (s.slot sl).th) || r.stage.isReplied)

/-- A port that waits for items in other modules asks those modules for summaries (log entry 11). -/
def Slot.askModules (x : Slot) (t : Nat) : Slot :=
  if x.items.any (fun i => decide (i.tag = t) && !i.loc) then x.askTag t else x

/-- A tile must keep a launch's code (R370): its part on the node is not complete, a slot of the tile holds it, a task of
it waits there, or a restore there waits for it. -/
def codeNeeded (s : State) (t k : Nat) : Bool :=
  (match s.part? k (nodeOfTile t) with | some p => !p.complete | none => false)
  || (coresOfTile t).any (fun c =>
      (s.core c).deque.any (fun r => decide (r.launch = k))
      || (slotsOfCore c).any (fun i => decide ((s.slot i).launch = k) && decide ((s.slot i).st ≠ .free)
          && decide ((s.slot i).st ≠ .disabled)))
  || s.cores.any (fun e => e.2.away.any (fun a => decide (a.launch = k)
      && (match a.code with | some (c, _) => decide (tileOfCore c = t) | none => false)))

/-- Frees the code banks of a tile that no launch needs (R370). -/
def freeBanks (s : State) (t : Nat) : State :=
  let keep := fun (h : Option Holder) => match h with | some b => if codeNeeded s t b.launch then h else none | none => none
  let x := s.tile t
  let y := { x with hold0 := keep x.hold0, hold1 := keep x.hold1 }
  if y.hold0 = x.hold0 ∧ y.hold1 = x.hold1 then s else s.setTile t y

/-- The thread of a slot has ended: contribution, attach records, landings, ring tiles, and the slot IDLE or FREE
(R101, R102, R320, R381, R432). -/
def finishEnd (s : State) (sl : Nat) (w : Word) : State :=
  let x := s.slot sl
  let node := nodeOfSlot sl
  let birth := nodeOfSlot x.th.birth
  let s := x.attach.foldl detachPlate s
  let s := refuseHeld s x.th
  let s := if birth = node then s.addStatus x.launch birth w
    else { s with contribs := s.contribs ++ [(x.launch, birth, x.th, w)] }
  let s := s.updCore (coreOfSlot x.th.birth) (fun c => { c with away := c.away.filter (fun a => decide (a.th ≠ x.th)) })
  let live := match s.part? x.launch node with | some p => !p.complete | none => false
  let s := { s with reqs := s.reqs.filter (fun r =>
    !(decide (r.own = Owner.slot sl x.th) && (r.stage.isReplied || (r.stage.isSent && r.item.isSome)))) }
  let s := s.updSlot sl (fun x =>
    let y := { x with wins := [], accs := [], items := [], asked := [], dfr := none, tfault := none, ending := none,
                      owned := [], attach := [], replay := none, pre := none, drain := false, inPark := false }
    let y := y.count cntExits
    if live then { y.count cntIdle with st := .parked, reason := .idle } else { y with st := .free, reason := .none })
  freeBanks (sweepRing s (tileOfSlot sl)) (tileOfSlot sl)

/-- An unhandled trap ends the thread (R381): it waits for its accesses (R209), and landings for it are refused at once.
While it waits the slot is PARKED with reason ACCESS, without a count in ACCESS: the spec gives the wait no state and no
counter, and this is the model's choice (log entry 90). -/
def endUnhandled (s : State) (sl : Nat) (c : BitVec 8) : State :=
  if quiet s sl then finishEnd s sl (wd (c.toNat * 2 ^ 56 + 2 ^ 32))
  else
    (refuseHeld s (s.slot sl).th).updSlot sl (fun x =>
      (List.range 4).foldl (fun y t => y.askModules t)
        { x with st := .parked, reason := .access, ending := some c, wins := [] })

/-! ### Traps (R378, R384) -/

/-- The trap's four values are recorded (R378). -/
def Slot.recordTrap (x : Slot) (c : BitVec 8) (a f : Word) (e : Nat) : Slot :=
  { x with epc := wd (e % 32768), fcause := (x.fcause &&& (1#64 <<< 63)) ||| BitVec.ofNat 64 c.toNat, faddr := a, finfo := f }

/-- TVEC names a handler (R378). -/
def Slot.hasHandler (x : Slot) : Bool :=
  decide (x.tvec ≠ 0#64) && decide (x.tvec.toNat % 4 = 0) && decide (x.tvec.toNat < 4 * x.n)

/-- Takes a trap with cause `c`, address word `a`, info word `f` and resume offset `e` (R378): the handler is entered
with INH set and every window closed, or the thread ends as unhandled. -/
def takeTrap (s : State) (sl : Nat) (c : BitVec 8) (a f : Word) (e : Nat) : State :=
  let x := s.slot sl
  let y := { x.recordTrap c a f e with inPark := false, replay := none, tfault := none }
  if x.inh || !x.hasHandler then endUnhandled (s.setSlot sl y) sl c
  else s.setSlot sl { y with fcause := y.fcause ||| (1#64 <<< 63), wins := [], pc := x.tvec.toNat,
                             st := .running, reason := .none }

/-- Places a fault in the deferred-fault record; a later one only sets MORE (R161). -/
def Slot.defer (x : Slot) (f : FaultInfo) : Slot :=
  match x.dfr with
  | none => { x with dfr := some f }
  | some d => { x with dfr := some { d with finfo := d.finfo ||| moreBit } }

/-- Takes the trap of the deferred-fault record with resume offset `e`, and clears the record (R189, R384). -/
def takeDeferred (s : State) (sl e : Nat) : State :=
  match (s.slot sl).dfr with
  | none => s
  | some d => takeTrap (s.updSlot sl (fun x => { x with dfr := none })) sl d.cause d.faddr (d.finfo ||| deferBit) e

/-- A trap found at the issue of the slot's word: the resume offset is the word's own (R378). -/
def trapHere (s : State) (c : BitVec 8) (a f : Word) : State := takeTrap s s.cur c a f (s.slot s.cur).pc

/-- Return from a handler (R384). -/
def returnFromTrap (s : State) : State :=
  let sl := s.cur
  let x := s.slot sl
  let t := x.epc.toNat
  let s := s.setSlot sl { x with fcause := x.fcause &&& ~~~(1#64 <<< 63) }
  if t % 4 ≠ 0 then takeTrap s sl causeFETCH (wd t) 1#64 x.pc
  else if 4 * x.n ≤ t then takeTrap s sl causeFETCH (wd t) 2#64 x.pc
  else if x.dfr.isSome then takeDeferred s sl t
  else s.updSlot sl (fun y => { y.retire t with wins := [] })

/-! ### Issue -/

/-- The first register read with an uncorrectable error (R382), in the order in which `usesOf` lists them: R390 names one
register, and where several are uncorrectable the spec does not say which (log entry 91). -/
def badRead (x : Slot) (u : Uses) : Option Nat := u.reads.find? (fun r => inMask x.rerr r)

/-- How many registers a mask holds. -/
def maskCount (m : BitVec 48) : Nat := ((List.range 48).filter (inMask m)).length

/-- Correctable errors of the registers read are corrected, and each is counted (R382). -/
def correctReads (s : State) (sl : Nat) (u : Uses) : State :=
  let x := s.slot sl
  let m := u.reads.foldl (fun m r => m ||| regBit r) 0#48
  if x.rcorr &&& m = 0#48 then s
  else
    (s.setSlot sl { x with rcorr := x.rcorr &&& ~~~m }).updNode (nodeOfSlot sl) (fun n =>
      { n with corrected := n.corrected + maskCount (x.rcorr &&& m) })

/-- Issues word `i` in the slot whose turn it is (R75): it parks for the first check that fails, traps DEVERR for an
uncorrectable operand register, and otherwise takes its entry's effect `body`. That DEVERR comes before the entry's own
traps, FMT for a reserved EFMT or a bad format byte among them, is the model's choice: R378 leaves the order to the entry's
check order, which does not list DEVERR (log entry 91). -/
def issue (i : Instr) (s : State) (body : State → Out) : Out :=
  match stallOf s s.cur i with
  | some r => go (parkOn s i r)
  | none =>
    match badRead (s.slot s.cur) (usesOf i) with
    | some r => go (trapHere s causeDEVERR 0#64 (infoDev (landCode r) 2))
    | none => body (correctReads s s.cur (usesOf i))

/-- The word retires and changes its slot by `f` (R82). -/
def finish (s : State) (f : Slot → Slot) : Out := go (s.updSlot s.cur (fun x => f (x.retire (x.pc + 4))))

/-- A fixed-class word that writes G[d] (R82, R123). -/
def writeG (s : State) (d : Reg) (v : Word) : Out := finish s (fun x => x.setG d v)
/-- A fixed-class word that writes V[d]. -/
def writeV (s : State) (d : VReg) (v : Vec) : Out := finish s (fun x => x.setV d v)

/-! ### Births of threads (R88, R89, R91) -/

/-- The g registers from a list of values, zero above. -/
def gOf (l : List Word) : Vector Word 32 := Vector.ofFn (fun i => nth 0#64 l i.val)

/-- The code bank of a tile that a launch holds. -/
def bankOf (s : State) (t k : Nat) : Nat :=
  match (s.tile t).hold0 with
  | some h => if h.launch = k then 0 else 1
  | none => 1

/-- A thread is born in a slot (R88, R89, R91): registers, special registers at their launch values, generation + 1; it runs
from the slot's next turn on, in a later cycle (log entry 92). `keep` keeps the counters of a bound slot (R84). -/
def birth (s : State) (sl k pc : Nat) (g : List Word) (keep : Bool) : State :=
  let x := s.slot sl
  let n := match s.launch? k with | some l => l.pkt.n | none => 0
  let tv := match s.launch? k with | some l => 4 * l.pkt.tvec | none => 0
  let c := match s.launch? k with | some l => l.ctx | none => 0
  let class_ := match s.launch? k with | some l => l.cls | none => 0
  let gen := x.gen + 1#12
  s.setSlot sl { Slot.reset with
    st := .running, turnAt := s.cycle + 1, pc := pc, g := gOf g, gen := gen, th := { birth := sl, gen := gen },
    ctx := c, launch := k, bank := bankOf s (tileOfSlot sl) k, n := n, tvec := wd tv,
    cnt := if keep then x.cnt else Slot.reset.cnt, latch := x.latch, stopped := x.stopped, changes := x.changes, cls := class_ }

/-- CHANGES rises at each change of a slot's registers, presence bits, PC or state (R404): compares with the slots
before the step. -/
def noteChanges (before after : State) : State :=
  { after with slots := after.slots.map (fun e =>
    let x := before.slot e.1
    let y := e.2
    if decide (x.g = y.g) && decide (x.v = y.v) && decide (x.pres = y.pres) && decide (x.pc = y.pc)
        && decide (x.st = y.st) && decide (x.reason = y.reason) then e
    else (e.1, { y with changes := x.changes + 1#16 })) }

end Sys2Proof.Machine
end

