-- ==== Sys2Proof/Machine/Requests.lean ====
section
/-! DEFINITION. Accesses from issue to reply: outbound queue, network port, paths, bank queues, wait lists, replies
(R83, R159 to R166, R172, R185, R193, R198 to R204, R231 to R235). -/

namespace Sys2Proof.Machine

/-! ### Issue of an access -/

/-- One perform of an access about to issue. -/
structure Piece where
  op : MemOp
  ea : Word
  place : Place

/-- An access about to issue. -/
structure NewAcc where
  relaxed : Bool
  plt : Bool := false
  rl : Bool := false
  dest : Dest
  fill : Fill
  /-- lookahead count; none for a form without a completion event (R70) -/
  la : Option Nat
  /-- tag of which it is a batch item (R185), and the item's particulars where the place does not give them -/
  tag : Option Nat := none
  item : Option Item := none
  info : Word
  tgt : Option Target := none
  pieces : List Piece

/-- The peer of an item, and what its target is for a fence (R185, R189). -/
def itemOf (node tag seq batch : Nat) (p : Place) (ps : List Place) : Item :=
  let locs := (p :: ps).filterMap (fun q => match q with | .mem loc => some loc | .remote _ => none)
  let onchip := locs.filter (fun l => isStore l || isBsram l)
  let base : Item :=
    { tag := tag, seq := seq, batch := batch, peer := none, left := ps.length + 1, code := 0#8, known := false, marker := 0, hint := false,
      viaHome := none, cores := (locs.filter isStore).map (fun l => (l - 0x20000000000) / 32768),
      nodes := onchip.map (ownerNode node), loc := true }
  match p with
  | .remote pos => { base with peer := some (.module pos), loc := false }
  | .mem loc => { base with peer := some (.node (ownerNode node loc)) }

/-- The path's source (R28, R200): the core for a bank of its own node, else the node. -/
def pathSrc (core : Nat) (t : Target) : Nat :=
  let n := match t with
    | .store c _ => nodeOfCore c
    | .slice t _ => nodeOfTile t
    | .plates n => n
    | .deque c => nodeOfCore c
    | .landing c => nodeOfCore c
    | _ => nodeCount
  if n = nodeOfCore core then nodeCount + core else nodeOfCore core

/-- The target of a piece. -/
def pieceTarget (p : Piece) : Target :=
  match p.place with
  | .mem loc => targetOf loc p.op.size
  | .remote pos => .remote pos

/-- The byte index of a piece; a remote access keeps its module address. -/
def pieceLoc (p : Piece) : Nat :=
  match p.place with
  | .mem loc => loc
  | .remote _ => bits p.ea.toNat 41 0

/-- Adds an item to a slot. -/
def Slot.addItem (x : Slot) (i : Item) : Slot := { x with items := x.items ++ [i] }

/-- The tag's sequence number for a new item; a full tag whose outcomes are known has been closed (R187). -/
def Slot.nextSeq (x : Slot) (t : Nat) : Nat := (x.tagItems t).length

/-- Number of the batch that a tag's items belong to, 0 where it has none that left the slot (log entry 71). -/
def Slot.batchNo (x : Slot) (t : Nat) : Nat := (((x.tagItems t).map (fun i => i.batch)).find? (fun b => decide (b ≠ 0))).getD 0

/-- The 65th item of a tag whose outcomes are known closes it (R187): trap LANDREF with reason 3 if any failed. -/
def closeFull (s : State) (t : Nat) (k : State → Out) : Out :=
  let x := s.slot s.cur
  if (x.tagItems t).length < 64 then k s
  else
    let m := x.failMap t
    if m = 0#64 then k (s.updSlot s.cur (fun y => y.closeTag t))
    else go (trapHere (s.updSlot s.cur (fun y => y.closeTag t)) causeLANDREF m (x.landInfo t 3))

/-- An access issues (R71, R83, R198): it retires, its destination becomes pending, its window opens, and its performs
enter the outbound queue in order. -/
def issueAcc (s : State) (a : NewAcc) : State :=
  let sl := s.cur
  let x := s.slot sl
  let id := s.nextId
  let core := coreOfSlot sl
  let seq := match a.tag with | some t => x.nextSeq t | none => 0
  let batch := match a.tag with | some t => if x.batchNo t = 0 then id + 1 else x.batchNo t | none => 0
  let mk (e : Piece × Nat) : Req :=
    let t := match a.tgt with | some t => t | none => pieceTarget e.1
    { id := id + 1 + e.2, stamp := id + 1 + e.2, own := .slot sl x.th, ctx := x.ctx, src := pathSrc core t,
      op := e.1.op, ea := e.1.ea, loc := pieceLoc e.1, tgt := t, relaxed := a.relaxed, rl := a.rl,
      item := a.tag.map (fun t => (t, seq)), acc := id, part := e.2, info := a.info,
      limit := x.waitlim.toNat % 65536, misses := 0, stage := .outbound }
  let acc : Acc :=
    { id := id, relaxed := a.relaxed, plt := a.plt, dest := a.dest, oldPres := x.pres &&& a.dest.mask, pca := x.pc,
      issued := (x.count cntIssued).cnt.get cntIssued, fill := a.fill, left := a.pieces.length, data := [], fault := none }
  let y := (x.retire (x.pc + 4)).pending a.dest.mask
  let y := match a.la with | some c => y.openWin id c a.dest.mask | none => y
  let y := { y with accs := y.accs ++ [acc] }
  let y := match a.tag, a.pieces with
    | some t, p :: ps =>
      y.addItem (match a.item with
        | some i => { i with tag := t, seq := seq, batch := batch, left := a.pieces.length }
        | none => itemOf (nodeOfSlot sl) t seq batch p.place (ps.map (fun q => q.place)))
    | _, _ => y
  { s.setSlot sl y with reqs := s.reqs ++ a.pieces.zipIdx.map mk, nextId := id + 1 + a.pieces.length }

/-- The virtual channel of a request (R194). -/
def MemOp.vc : MemOp → Nat
  | .landing _ _ _ => 2
  | .spawn _ => 3
  | _ => 0

/-! ### Packets to other modules (R342) -/

/-- Bits [127:16] of a packet header (R342). -/
def headerTop (h : PodHeader) : BitVec 112 :=
  h.src ++ h.dst ++ h.epoch ++ h.pctx ++ h.vc ++ h.cls ++ h.seq ++ h.len ++ h.rsv
/-- The header's CRC: over the 14 bytes of bits [127:16], the highest first (R342). -/
def headerCrc (h : PodHeader) : BitVec 16 :=
  crc16 ((List.range 14).map (fun i => (headerTop h).extractLsb' (8 * (13 - i)) 8))
/-- The 128 bits of the header. -/
def headerWord (h : PodHeader) : BitVec 128 := headerTop h ++ h.hcrc
/-- The header with its CRC. -/
def withCrc (h : PodHeader) : PodHeader := { h with hcrc := headerCrc h }

/-- A packet to another module waits at the ports; none goes to a lost one (R350). `pctx` and `cls` are none for a packet that
belongs to no launch of this module (log entry 41). -/
def sendPod (s : State) (dst : Nat) (pctx : Option Nat) (vc : Nat) (cls : Option Nat) (b : PodBody) (req : Option Nat) : State :=
  if s.pod.lost.contains dst then s else
  let h : PodHeader := { src := BitVec.ofNat 10 (s.pod.pos.getD 0), dst := BitVec.ofNat 10 dst,
                         epoch := (Tab.get { epoch := 0#8, cap := 0#64 } s.pod.joins (s.pod.pos.getD 0)).epoch,
                         pctx := match pctx with | some c => BitVec.ofNat 16 c | none => Config.packetContext s.nextId,
                         vc := BitVec.ofNat 2 vc,
                         cls := match cls with | some c => BitVec.ofNat 2 c | none => Config.packetClass s.nextId,
                         seq := Tab.get 0#32 s.pod.nextSeq dst, len := BitVec.ofNat 9 (Config.packetLen s.nextId % 257),
                         hcrc := 0#16 }
  let o : Packet := { id := s.nextId, hdr := withCrc h, body := b, req := req, firstSent := none, relayed := false }
  let pod := { s.pod with
                 out := s.pod.out ++ [o],
                 nextSeq := Tab.put s.pod.nextSeq dst (Tab.get 0#32 s.pod.nextSeq dst + 1#32) }
  { s with pod := pod, nextId := s.nextId + 1 }

/-- The context's pod context number. -/
def pctxOf (s : State) (ctx : Nat) : Nat := match s.context ctx with | some c => c.pctx | none => 0

/-- An operation as a packet carries it; landings have a body of their own. -/
def MemOp.podOp : MemOp → PodOp
  | .load n sync => .load n sync
  | .store n sync v => .store n sync v
  | .loadV => .loadV
  | .storeV v => .storeV v
  | .wstate => .wstate
  | .wset v => .wset v
  | .join => .join
  | .amo op b b2 d => .amo op b b2 d
  | .peek n => .peek n
  | .hput n sf v => .hput n sf v
  | .mark n => .mark n
  | .fillw v st => .fillw v st
  | _ => .loadV

/-- The slot number and generation that an owner's packets carry. -/
def Owner.slotNo : Owner → Nat
  | .slot sl _ => sl
  | _ => 0
def Owner.genNo : Owner → Nat
  | .slot _ th => th.gen.toNat
  | _ => 0

/-- The packet of a request for another module (R204, R342); `parts` counts the performs of its item, `batch` is its batch. -/
def Req.packet (r : Req) (parts batch : Nat) : PodBody :=
  let i := r.item.getD (0, 0)
  match r.op with
  | .landing v d _ => .landing r.own.slotNo r.own.genNo i.1 i.2 batch r.ea v d
  | op => .access r.id (r.item.map (fun i => (r.own.slotNo, i.1, i.2, parts, batch))) r.limit op.podOp r.loc

/-- The performs of a request's item and its batch, as its slot knows them. -/
def partsOf (s : State) (r : Req) : Nat × Nat :=
  match r.own, r.item with
  | .slot sl _, some (t, q) =>
    (((s.slot sl).items.find? (fun i => decide (i.tag = t) && decide (i.seq = q))).map (fun i => (i.left, i.batch))).getD (1, 0)
  | _, _ => (1, 0)

/-- The class of the launch that a request is made for (R195, R373); none for a firmware write-back and for a thread that
has ended. -/
def Owner.cls (s : State) : Owner → Option Nat
  | .slot sl th => if (s.slot sl).th = th then some (s.slot sl).cls else none
  | .hart n h => (((Tab.look (s.node n).harts h).bind (fun j => j.work.cmd?)).bind (fun c => s.launch? c.launch)).map (fun l => l.cls)
  | .epi t => ((s.tile t).epi.bind (fun j => s.launch? j.cmd.launch)).map (fun l => l.cls)
  | _ => none

/-- A request for another module goes to the ports (R199, R342). -/
def sendRemote (s : State) (r : Req) (pos : Nat) : State :=
  sendPod (s.stageReq r.id (.sent s.cycle)) pos (some (pctxOf s r.ctx)) r.op.vc (r.own.cls s)
    (r.packet (partsOf s r).1 (partsOf s r).2) (some r.id)

/-! ### Network port (R193, R199) -/

/-- A bucket of a context at a node. -/
def State.bucket (s : State) (n c : Nat) : Bucket :=
  Tab.get { hbm := 0, fab := 0, hbmAct := false, fabAct := false } (s.node n).buckets c
/-- Writes a bucket. -/
def State.setBucket (s : State) (n c : Nat) (b : Bucket) : State :=
  s.updNode n (fun x => { x with buckets := Tab.put x.buckets c b })

/-- Tokens that bytes cost (R193). -/
def tokensFor (n : Nat) : Nat := max 1 ((n + 63) / 64)

/-- A request of a context waits for tokens: the context is active in this period (R193). -/
def tokenWait (s : State) (n c : Nat) (t : Target) : State :=
  let b := s.bucket n c
  match t with
  | .hbm _ => s.setBucket n c { b with hbmAct := true }
  | .remote _ => s.setBucket n c { b with fabAct := true }
  | _ => s

/-- Takes HBM tokens of a context at a node; none where they are short. -/
def spendHbm (s : State) (n c k : Nat) : Option State :=
  let b := s.bucket n c
  if k ≤ b.hbm then some (s.setBucket n c { b with hbm := b.hbm - k, hbmAct := true }) else none
/-- Takes fabric tokens. -/
def spendFab (s : State) (n c k : Nat) : Option State :=
  let b := s.bucket n c
  if k ≤ b.fab then some (s.setBucket n c { b with fab := b.fab - k, fabAct := true }) else none

/-- Charges a request to its target's bucket (R193). -/
def charge (s : State) (n c : Nat) (t : Target) (bytes : Nat) : Option State :=
  match t with
  | .hbm _ => spendHbm s n c (tokensFor bytes)
  | .remote _ => spendFab s n c (tokensFor bytes)
  | _ => some s

/-- An access of an engine or a hart goes on once it is charged (R193); without tokens it waits at the port. -/
def charged (s : State) (n c : Nat) (t : Target) (bytes : Nat) (k : State → State) : State :=
  match charge s n c t bytes with
  | some u => k u
  | none => tokenWait s n c t

/-- The request belongs to the slot. -/
def Req.ofSlot (r : Req) (sl : Nat) : Bool := match r.own with | .slot k _ => decide (k = sl) | _ => false

/-- The oldest outbound entry of a slot (R199). -/
def oldestOutbound (s : State) (sl : Nat) : Option Req :=
  leastBy (fun r => r.stamp) (s.reqs.filter (fun r => r.ofSlot sl && decide (r.stage = .outbound)))

/-- A SENDR with .RL still has an earlier access unperformed (R112, R199): an outstanding access, or an unsettled item
older than its own. -/
def rlHeld (s : State) (sl : Nat) (r : Req) : Bool :=
  r.rl && ((s.slot sl).accs.any (fun a => a.counts && decide (a.id < r.acc) && !(a.relaxed && decide (a.dest = .none)))
    || s.reqs.any (fun q => q.ofSlot sl && q.item.isSome && decide (q.id < r.id) && !q.stage.isReplied))

/-- A remote access overlaps an earlier unsettled relaxed access of the slot to that module (R199). -/
def remoteOverlap (s : State) (sl : Nat) (r : Req) : Bool :=
  (match r.tgt with | .remote _ => true | _ => false) &&
  s.reqs.any (fun q => q.ofSlot sl && q.relaxed && decide (q.tgt = r.tgt) && decide (q.id < r.id)
    && !q.stage.isReplied && decide (q.acc ≠ r.acc)
    && !q.op.isLanding && !r.op.isLanding && overlaps q.op q.loc r.op r.loc)

/-- Every perform of an access without destination has left the slot: it is outstanding no more (R83). -/
def releaseAcc (s : State) (sl acc : Nat) : State :=
  let out := s.reqs.any (fun r => decide (r.acc = acc) && decide (r.stage = .outbound))
  if out then s
  else s.updSlot sl (fun x => { x with accs := x.accs.filter (fun a => !(decide (a.id = acc) && a.relaxed && decide (a.dest = .none))) })

/-- The port's acceptance of the oldest outbound entry of a slot (R199); remote entries wait at their ports. -/
def acceptOldest (s : State) (sl : Nat) : State :=
  match oldestOutbound s sl with
  | none => s
  | some r =>
    if rlHeld s sl r || remoteOverlap s sl r then
      s.updSlot sl (fun x => (List.range 4).foldl (fun y t => y.askModules t) x)
    else
      match charge s (nodeOfSlot sl) r.ctx r.tgt r.op.size with
      | none => tokenWait s (nodeOfSlot sl) r.ctx r.tgt
      | some s =>
        let s := match r.tgt with | .remote pos => sendRemote s r pos | _ => s.stageReq r.id .route
        releaseAcc s sl r.acc

/-! ### Paths (R194, R200) -/

/-- Two requests travel one path. -/
def samePath (a b : Req) : Bool := decide (a.src = b.src) && a.tgt.meets b.tgt && decide (a.op.vc = b.op.vc)

/-- The request is at the front of its path. -/
def frontOfPath (s : State) (r : Req) : Bool :=
  s.reqs.all (fun q => !(decide (q.stage = .route) && samePath q r && decide (q.stamp < r.stamp)))

/-- The path source of a request of another module that enters the mesh at node `n` for context `c` (log entry 70):
its requests wait in a queue of their context there (R193). -/
def entryPath (n c : Nat) : Nat := nodeCount * (65 + c) + n

/-- The request of another module is the first of its context's queue at the port where it enters the mesh (R193). -/
def headOfPort (s : State) (r : Req) : Bool :=
  s.reqs.all (fun q => !(decide (q.stage = .port) && decide (q.src = r.src) && decide (q.stamp < r.stamp)))

/-- A request of another module, whatever its target, costs HBM tokens of the node where it enters the mesh (R193). A landing is
a request too (R204). -/
def payEntry (s : State) (r : Req) : State :=
  let n := r.src % nodeCount
  match spendHbm s n r.ctx (tokensFor r.op.size) with
  | some t => t.stageReq r.id .route
  | none => tokenWait s n r.ctx (.hbm 0)

/-- Moves the first request of a port's queue into its path (R193), or the front request of a path into its target's bank
queue (R200). -/
def deliverRoute (s : State) (id : Nat) : State :=
  match s.req? id with
  | none => s
  | some r =>
    if decide (r.stage = .port) && headOfPort s r then payEntry s r
    else if decide (r.stage = .route) && frontOfPath s r && decide (r.op.vc ≠ 2) then s.stageReq id .queued
    else s

/-! ### Performs and wait lists (R157, R164, R165, R201, R202) -/

/-- The fault of a request (R162); a plane piece of STBP names its word (R235). -/
def Req.faultInfo (r : Req) (cause : BitVec 8) (reason : Nat) : FaultInfo :=
  let a := r.ea.toNat % 2 ^ 52
  let a := if bits r.info.toNat 19 14 = 0x2A then a / 8 * 8 else a
  { cause := cause, faddr := wd a, finfo := withReason r.info reason }

/-- The fault of a perform, if it has one. -/
def Req.fault? (r : Req) (f : Option (BitVec 8 × Nat × Nat)) : Option FaultInfo :=
  match f with
  | none => none
  | some (c, reason, _) => some (r.faultInfo c reason)

/-- The code of a failed store or atomic item (R186). -/
def failCode (c : BitVec 8) : BitVec 8 := 0x80#8 + c

/-- Perform `part` of another module's item has faulted (R161, R185): of several, fault and code are those of the first in issue
order (R235). An inbound request keeps the sender's number for it in `part`, which rises in issue order. -/
def PeerItem.noteFault (part : Nat) (cause : BitVec 8) (reason : Nat) (i : PeerItem) : PeerItem :=
  if (match i.fault with | some g => decide (g.1 < part) | none => false) then i
  else { i with fault := some (part, reason), code := failCode cause }

/-- A perform of another module's item has faulted, for the item's summary. -/
def notePeerFault (s : State) (own : Owner) (item : Option (Nat × Nat)) (part : Nat) (cause : BitVec 8) (reason : Nat) : State :=
  match own, item with
  | .remote pos sl _ batch, some (tag, seq) =>
    let items := mapIf (PeerItem.is pos sl tag seq batch) (PeerItem.noteFault part cause reason) s.pod.items
    { s with pod := { s.pod with items := items } }
  | _, _ => s

/-- The fault of the lower-numbered perform (R235). -/
def firstFault (part : Nat) (f : Option FaultInfo) (g : Option (Nat × FaultInfo)) : Option (Nat × FaultInfo) :=
  match f, g with
  | none, o => o
  | some f, none => some (part, f)
  | some f, some (p, h) => if part < p then some (part, f) else some (p, h)

/-- The item keeps the fault of the first perform in issue order that has faulted, and its code (R186, R235). -/
def Item.keepFault (g : Option (Nat × FaultInfo)) (i : Item) : Item :=
  { i with fault := g, code := match g with | some (_, f) => failCode f.cause | none => i.code }

/-- A perform of a local item has settled (R185): once all have, the fault of the first in issue order is told (R161, R235). -/
def settlePart (s : State) (r : Req) (sl tag seq : Nat) (v : Vec) (f : Option FaultInfo) : State :=
  let mine := fun (i : Item) => decide (i.tag = tag) && decide (i.seq = seq)
  let s := s.settleItem r.own r.item (match f with | some f => failCode f.cause | none => 0#8)
  match (if r.own = .slot sl (s.slot sl).th then (s.slot sl).items.find? mine else none) with
  | none => s.dropReq r.id
  | some i =>
    let g := firstFault r.part f i.fault
    let s := s.updSlot sl (fun x => { x with items := mapIf mine (Item.keepFault g) x.items })
    if 0 < i.left then s.dropReq r.id
    else
      match g with
      | none => s.dropReq r.id
      | some (_, f) => s.stageReq r.id (.replied v (some f))

/-- A request is performed or refused at its target (R185, R202): a relaxed item settles there; every other access has
its reply sent; a relaxed item's fault is sent too (R161). -/
def finishReq (s : State) (r : Req) (v : Vec) (f : Option FaultInfo) : State :=
  match r.own with
  | .remote pos rid _ _ =>
    let s := s.dropReq r.id
    if r.item.isSome then
      let t := match f with | some f => notePeerFault s r.own r.item r.part f.cause (f.finfo.toNat % 256) | none => s
      t.settleItem r.own r.item (match f with | some f => failCode f.cause | none => 0#8)
    else sendPod s pos (some (pctxOf s r.ctx)) 1 none (.reply rid v (f.map (fun f => (f.cause.toNat, f.finfo.toNat % 256)))) none
  | .slot sl _ =>
    match r.item with
    | some (tag, seq) => settlePart s r sl tag seq v f
    | none => s.stageReq r.id (.replied v f)
  | _ => s.stageReq r.id (.replied v f)

/-- Word states of a request's words. -/
def statesOf (s : State) (op : MemOp) (loc : Nat) : List (BitVec 2) := (wordsOf op loc).map (fun l => s.wordState l)

/-- A request touches the word at a byte index. -/
def touches (r : Req) (w : Nat) : Bool := (wordsOf r.op r.loc).contains w

/-- Performs a request that is not blocked, and finishes it; whether a word state changed. -/
def performReq (s : State) (n : Nat) (r : Req) : State × Bool :=
  let before := statesOf s r.op r.loc
  let d := performOp s n r.op r.loc
  let changed := decide (statesOf d.st r.op r.loc ≠ before)
  (finishReq d.st r d.val (r.fault? d.fault), changed)

/-- The node whose counters see a request's corrections: the word's own node, and for an HBM word that of the requester, or
node 0 where the requester has none here. R156 says only 'the node's' counters (log entry 93). -/
def Req.node (r : Req) : Nat :=
  ownerNode (match r.own with | .slot sl _ => nodeOfSlot sl | .hart n _ => n | _ => 0) r.loc

/-- Same slot, overlapping bytes (R201). -/
def sameSlotOverlap (a b : Req) : Bool :=
  (match a.own, b.own with
   | .slot x _, .slot y _ => decide (x = y)
   | .hart n h, .hart m k => decide (n = m) && decide (h = k)
   | _, _ => false) && overlaps a.op a.loc b.op b.loc

/-- The requests of a core's wait list, in order. -/
def waitReqs (s : State) (c : Nat) : List Req := (s.core c).waitl.filterMap (fun id => s.req? id)

/-- On its way to its target, in its queue or wait list, or refused by a full list: not yet performed. -/
def Stage.unperformed : Stage → Bool
  | .route => true
  | .queued => true
  | .waiting _ => true
  | .retry _ => true
  | _ => false

/-- The core whose store a target is. -/
def Target.storeCore : Target → Option Nat
  | .store c _ => some c
  | _ => none

/-- An earlier overlapping access of the same slot to the core's store is unperformed, so that this one may not pass it
(R160, R201, R211). -/
def heldBehind (s : State) (c : Nat) (r : Req) : Bool :=
  s.reqs.any (fun q => decide (q.id < r.id) && q.stage.unperformed && decide (q.tgt.storeCore = some c) && sameSlotOverlap q r)

/-- Removes an entry of a wait list. -/
def leaveList (s : State) (c id : Nat) : State :=
  s.updCore c (fun k => { k with waitl := k.waitl.filter (fun i => decide (i ≠ id)) })

/-- A miss of an entry that still waits; SYNCLIM at its limit (R165). -/
def missEntry (s : State) (c id : Nat) : State :=
  match s.req? id with
  | none => s
  | some r =>
    let m := r.misses + 1
    if r.limit ≠ 0 ∧ r.limit ≤ m then finishReq (leaveList s c id) r 0#256 (some (r.faultInfo causeSYNCLIM 1))
    else s.updReq id (fun q => { q with misses := m })

/-- An entry that its bank can perform now: no word state blocks it, and no earlier access holds it back (R165, R201). -/
def performable (s : State) (c : Nat) (r : Req) : Bool :=
  !blockedNow (eccAll s r.node r.op r.loc) r.op r.loc && !heldBehind s c r

/-- The rest of a pass of a wake walk, from the first entry of the word on that can be performed. -/
def walkFrom (s : State) (c w : Nat) : List Nat → List Nat
  | [] => []
  | id :: rest =>
    match (waitReqs s c).find? (fun r => decide (r.id = id)) with
    | some r => if touches r w && performable s c r then id :: rest else walkFrom s c w rest
    | none => walkFrom s c w rest

/-- The walk at the next entry that it performs: in its present pass or, where that has performed one, in another; none
where the walk is over (R165). -/
def Walk.next (k : Walk) (s : State) (c : Nat) : Option Walk :=
  let go := fun (l : List Nat) (again : Bool) =>
    if l = [] then none else some { word := k.word, rest := l, again := again }
  match go (walkFrom s c k.word k.rest) k.again with
  | some n => some n
  | none => if k.again then go (walkFrom s c k.word (s.core c).waitl) false else none

/-- A walk goes on, or is over: each entry of the word that still waits has missed (R165). -/
def settleWalk (s : State) (c : Nat) (k : Walk) : State :=
  match k.next s c with
  | some n => s.updCore c (fun x => { x with walks := x.walks ++ [n] })
  | none => ((waitReqs s c).filter (fun r => touches r k.word)).foldl (fun s r => missEntry s c r.id) s

/-- Brings the walks of a core up to date: an entry may have been withdrawn at a save. -/
def settleWalks (s : State) (c : Nat) : State :=
  match (s.core c).walks with
  | [] => s
  | ks => ks.foldl (fun s k => settleWalk s c k) (s.updCore c (fun x => { x with walks := [] }))

/-- A word's state has changed: its wake walk begins (R165). -/
def startWalk (s : State) (c w : Nat) : State := settleWalk s c { word := w, rest := (s.core c).waitl, again := false }

/-- Wake walks over every word of a request whose state changed. -/
def wakeAll (s : State) (op : MemOp) (loc : Nat) (before : List (BitVec 2)) : State :=
  ((wordsOf op loc).zip before).foldl (fun s e =>
    if decide (s.wordState e.1 ≠ e.2) && isStore e.1 then startWalk s ((e.1 - 0x20000000000) / 32768) e.1 else s) s

/-- Performs at a unit, then begins the wake walks that a changed state starts. -/
def performAndWake (s : State) (n : Nat) (r : Req) : State :=
  let before := statesOf s r.op r.loc
  wakeAll (performReq s n r).1 r.op r.loc before

/-- The walk whose next entry is the request performs it, as one bank step (R201); a state change inside a walk starts no
further one (R165). -/
def walkStep (s : State) (r : Req) (c : Nat) : Option State :=
  match (s.core c).walks.find? (fun k => decide (k.rest.head? = some r.id)) with
  | none => none
  | some k =>
    let t := s.updCore c (fun x => { x with walks := eraseFirst (fun n => decide (n = k)) x.walks })
    some (settleWalk (performReq (leaveList t c r.id) r.node r).1 c { k with rest := k.rest.drop 1, again := true })

/-- A wake walk goes on in a bank of the target. -/
def walkOn (s : State) (c : Nat) (t : Target) : Bool :=
  (s.core c).walks.any (fun k => (Target.store c (banksOf k.word 8)).meets t)

/-- The banks of the target have performs to make before their queues go on: a wake walk (R165), or an entry whose
predecessor has left the list (R201). -/
def bankBusy (s : State) (c : Nat) (t : Target) : Bool :=
  walkOn s c t || (waitReqs s c).any (fun r => r.tgt.meets t && performable s c r)

/-- A bank performs an entry of its wait list: the next of a wake walk, or one whose predecessor has left (R165, R201). -/
def takeEntry (s : State) (c : Nat) (r : Req) : State :=
  match walkStep s r c with
  | some t => t
  | none => if !walkOn s c r.tgt && performable s c r then performAndWake (leaveList s c r.id) r.node r else s

/-- Puts an id directly behind the last entry of the list that meets the test, or at its end. -/
def insertBehind (p : Nat → Bool) (l : List Nat) (id : Nat) : List Nat :=
  match l.reverse.span (fun i => !p i) with
  | (after, []) => after.reverse ++ [id]
  | (after, at_) => at_.reverse ++ id :: after.reverse

/-- The request is the head of its bank queue (R201). -/
def headOfQueue (s : State) (r : Req) : Bool :=
  s.reqs.all (fun q => !(decide (q.stage = .queued) && q.tgt.meets r.tgt && decide (q.stamp < r.stamp)))

/-- A wait list has no room: the access is sent again after 64 cycles, which counts as a miss (R164). The misses of its
retries stay with it when it enters the list later: the model's choice, since R164 lets an entry's count start at 0 and also
counts each retry (log entry 94). -/
def retryLater (s : State) (r : Req) : State :=
  let m := r.misses + 1
  if r.limit ≠ 0 ∧ r.limit ≤ m then finishReq s r 0#256 (some (r.faultInfo causeSYNCLIM 1))
  else (s.updReq r.id (fun q => { q with misses := m })).stageReq r.id (.retry (s.cycle + 64))

/-- The memory unit takes the request at the head of its queue (R201): it performs it, or moves it to the wait list. -/
def takeRequest (s : State) (r : Req) : State :=
  match r.tgt with
  | .store c _ =>
    let behind := fun i => match s.req? i with | some q => sameSlotOverlap q r | none => false
    let held := heldBehind s c r
    let s1 := eccAll s r.node r.op r.loc
    if held || blockedNow s1 r.op r.loc then
      let s1 := if held then s else wakeAll s1 r.op r.loc (statesOf s r.op r.loc)
      if 64 ≤ (s1.core c).waitl.length then retryLater s1 r
      else
        let t := s1.updCore c (fun k => { k with waitl := if held then insertBehind behind k.waitl r.id else k.waitl ++ [r.id] })
        (t.updReq r.id (fun q => { q with noticeAt := s.cycle + 175000 })).stageReq r.id (.waiting c)
    else performAndWake s r.node r
  | .slice _ _ => performAndWake s r.node r
  | .code _ => performAndWake s r.node r
  | .hbm _ => performAndWake s r.node r
  | _ => s

/-- The bank's step for a request of its queue or of its wait list. -/
def bankTake (s : State) (r : Req) : State :=
  match r.tgt.storeCore with
  | none => if decide (r.stage = .queued) && headOfQueue s r then takeRequest s r else s
  | some c =>
    if r.stage = .waiting c then takeEntry s c r
    else if decide (r.stage = .queued) && headOfQueue s r && !bankBusy s c r.tgt then takeRequest s r else s

/-- An engine's access to `n` bytes at a byte index: it waits while the bank has performs of its wait list to make (R165,
R201). -/
def atBank (s : State) (loc n : Nat) (k : State → State) : State :=
  match (targetOf loc n).storeCore with
  | none => k s
  | some c =>
    let t := settleWalks s c
    if bankBusy t c (targetOf loc n) then t else k t

/-- BANK_PERFORM of a request. -/
def bankRequest (s : State) (id : Nat) : State :=
  let s := match (s.req? id).bind (fun r => r.tgt.storeCore) with | some c => settleWalks s c | none => s
  match s.req? id with
  | none => s
  | some r => bankTake s r

/-! ### Replies (R72, R161, R202) -/

/-- Writes the destinations of an access (R72). -/
def Slot.fillDest (x : Slot) (d : Dest) (v : Vec) : Slot :=
  match d with
  | .none => x
  | .g r => x.setG r (v.setWidth 64)
  | .v r => x.setV r v
  | .gg r => (x.setG r (v.setWidth 64)).setG (regNext r 1) ((v >>> 64).setWidth 64)

/-- Bits of plane `p` of the elements of a chunk, from the words read (R42, R233). -/
def planeBit (data : List (Nat × Vec)) (addrs : List Nat) (byteAddr bit : Nat) : Nat :=
  match (addrs.zipIdx).find? (fun e => decide (e.1 = byteAddr / 8 * 8)) with
  | none => 0
  | some e => (Tab.get 0#256 data e.2).toNat / 2 ^ (8 * (byteAddr % 8) + bit) % 2

/-- Lanes of a code (R51, R216), and lane width. -/
def lanesOf (efmt : Nat) : Nat :=
  if efmt = 0 ∨ efmt = 3 then 32 else if efmt = 1 then 42 else if efmt = 2 then 64
  else if efmt = 4 ∨ efmt = 6 ∨ efmt = 7 then 16 else 8
/-- Width of a lane (R37). -/
def laneWidth (efmt : Nat) : Nat :=
  if efmt = 0 ∨ efmt = 3 then 8 else if efmt = 1 then 6 else if efmt = 2 then 4
  else if efmt = 4 ∨ efmt = 6 ∨ efmt = 7 then 16 else 32

/-- Elements of a chunk (R232). -/
def chunkLen (efmt : Nat) : Nat := min 32 (lanesOf efmt)

/-- Plane count S, depth k and rounding of a bit-plane format byte (R47). -/
def fmtS (f : Nat) : Nat := bits f 6 4 + 1
def fmtK (f : Nat) : Nat := bits f 3 1 + 1
def fmtR (f : Nat) : Bool := decide (f % 2 = 1)

/-- The distinct word addresses that LDBP reads, in order (R233). -/
def ldbpWords (fmt l c efmt base : Nat) : List Nat :=
  let m := chunkLen efmt
  let planes := if fmtR fmt && decide (fmtK fmt < fmtS fmt) then fmtK fmt + 1 else fmtK fmt
  ((List.range planes).foldl (fun ws p =>
    let w := (base + 8 + p * 2 ^ (l - 3) + c * m / 8) / 8 * 8
    if ws.contains w then ws else ws ++ [w]) [base])

/-- The value of LDBP's destination (R233). -/
def ldbpValue (fmt l c efmt base : Nat) (data : List (Nat × Vec)) : Vec :=
  let m := chunkLen efmt
  let ws := ldbpWords fmt l c efmt base
  let e := (Tab.get 0#256 data 0).toNat % 256
  let planes := if fmtR fmt && decide (fmtK fmt < fmtS fmt) then fmtK fmt + 1 else fmtK fmt
  let w := laneWidth efmt
  let lane (i : Nat) : Nat :=
    let q8 : Int := (List.range planes).foldl (fun (a : Int) p =>
      let b := planeBit data ws (base + 8 + p * 2 ^ (l - 3) + (c * m + i) / 8) ((c * m + i) % 8)
      a + (if p = 0 then -((128 * b : Nat) : Int) else ((2 ^ (7 - p) * b : Nat) : Int))) 0
    let q := qkOf q8 (fmtK fmt) (fmtS fmt) (fmtR fmt)
    if efmt ≤ 5 then (BitVec.ofInt w q).toNat
    else
      let v := elemValue q (fmtK fmt) e
      if efmt = 6 then v.encode fp16 else if efmt = 7 then v.encode bf16 else v.encode fp32
  BitVec.ofNat 256 ((List.range m).foldl (fun a i => a + lane i * 2 ^ (w * i)) 0)

/-- The value that an access without fault writes (R158, R231, R233). -/
def Acc.value (a : Acc) : Vec :=
  let v := Tab.get 0#256 a.data 0
  match a.fill with
  | .sx n => (wi (sextNat v.toNat (8 * n))).setWidth 256
  | .zx n => BitVec.ofNat 256 (v.toNat % 2 ^ (8 * n))
  | .planes f l c e b => ldbpValue f.toNat l c e b a.data
  | _ => v

/-- Every reply of an access has arrived (R72, R161): its window closes; a plain access's fault restores the destination
and is kept for the next turn; a relaxed load's fault fills 0 and is deferred. -/
def completeAcc (s : State) (sl : Nat) (a : Acc) : State :=
  s.updSlot sl (fun x =>
    let x := { x.closeWin a.id with accs := x.accs.filter (fun b => decide (b.id ≠ a.id)) }
    match a.fault with
    | some (_, f) =>
      if a.relaxed then (x.fillDest a.dest 0#256).defer f
      else { x.refull a.dest.mask with tfault := some f }
    | none =>
      let x := x.fillDest a.dest a.value
      match a.fill with
      | .status => x.count (if a.value.toNat = 0 then cntForks else cntInline)
      | _ => x)

/-- One reply's data or fault joins its access (R235: the lowest-numbered fault stands). -/
def Acc.take (a : Acc) (part : Nat) (v : Vec) (f : Option FaultInfo) : Acc :=
  { a with left := a.left - 1, data := (part, v) :: a.data, fault := firstFault part f a.fault }

/-- The tile loader is free again (R255). -/
def freeLoader (s : State) (a : Acc) : State :=
  match a.fill with
  | .table t _ _ => s.updTile t (fun x => { x with tload := none })
  | _ => s

/-- The slot of a thread that is ending has an access's last reply: the reply is discarded (R209, R381). -/
def discardAcc (s : State) (sl : Nat) (a : Acc) : State :=
  s.updSlot sl (fun x => { x.closeWin a.id with accs := x.accs.filter (fun b => decide (b.id ≠ a.id)) })

/-- A reply reaches its slot (R202); a TMLOAD whose reads are all in waits for TABLE_SWITCH (R254), unless a read faulted;
a reply for a thread that has ended or is ending is discarded (R91, R209, R381), but a PLT instruction still writes its
destinations (R320). -/
def slotReply (s : State) (sl : Nat) (th : Thread) (r : Req) (v : Vec) (f : Option FaultInfo) : State :=
  let s := s.dropReq r.id
  let x := s.slot sl
  if x.th ≠ th then s
  else if r.item.isSome then
    match f with
    | some f => if x.ending.isSome then s else s.updSlot sl (fun y => y.defer f)
    | none => s
  else
    match x.accs.find? (fun a => decide (a.id = r.acc)) with
    | none => s
    | some a =>
      let b := a.take r.part v f
      if decide (0 < b.left) || (b.isTable && b.fault.isNone && decide (r.part < 32)) then
        s.updSlot sl (fun y => { y with accs := mapIf (fun c => decide (c.id = a.id)) (fun _ => b) y.accs })
      else
        let s := freeLoader s b
        if x.ending.isSome && !b.plt then discardAcc s sl b else completeAcc s sl b

/-! ### Peers of a lost module (R161, R350) -/

/-- The checks of a plain or relaxed data access at issue, in order: ACCESS, ALIGN, then PEERLOST 3 at the port (R159,
R181, R350). Answers the place, or the trap's cause, reason. -/
def accessCheck (s : State) (ctx : Nat) (n : Need) (ea size : Nat) : Except (BitVec 8 × Nat) Place :=
  match checkAddr s ctx n ea with
  | .error r => .error (causeACCESS, r)
  | .ok p =>
    if ea % size ≠ 0 then .error (causeALIGN, 1)
    else
      match p with
      | .remote pos => if s.pod.lost.contains pos then .error (causePEERLOST, 3) else .ok p
      | .mem _ => .ok p

end Sys2Proof.Machine
end

