-- ==== Sys2Proof/Machine/Format.lean ====
section
/-! DEFINITION. Format bytes (R47 to R50) and the EFMT check (R51, R52). -/

namespace Sys2Proof.Machine

/-- The format byte of a fat pointer (R32). -/
def ptrFmt (p : Word) : Nat := bits p.toNat 63 56
/-- L of a fat pointer (R32). -/
def ptrL (p : Word) : Nat := bits p.toNat 55 52
/-- The address of a fat pointer (R32). -/
def ptrAddr (p : Word) : Nat := p.toNat % 2 ^ 52

/-- The format is a bit-plane code (R47). -/
def isPlanes (f : Nat) : Bool := decide (128 ≤ f)

/-- The first failing check of R48, or 0. -/
def fmtReason (f l : Nat) : Nat :=
  if isPlanes f then
    if fmtS f = 1 ∨ fmtK f = 1 then 2 else if fmtS f < fmtK f then 3 else if l < 5 ∨ 10 < l then 4 else 0
  else if 0x0D ≤ f then 1 else if l ≠ 0 then 4 else 0

/-- Stride of a block (R41). -/
def blockStride (l sdep : Nat) : Nat := 8 + 8 * ((sdep * 2 ^ (l - 3) + 7) / 8)

/-- The unit of a format (R47). -/
def fmtUnit (f l : Nat) : Nat :=
  if isPlanes f then blockStride l (fmtS f)
  else if f = 2 ∨ f = 6 ∨ f = 8 ∨ f = 9 then 2
  else if f = 3 ∨ f = 7 ∨ f = 10 then 4
  else if f = 4 ∨ f = 11 ∨ f = 12 then 8 else 1

/-- A FMT trap about a pointer (R50). -/
def fmtTrap (s : State) (p : Word) (reason : Nat) : State :=
  trapHere s causeFMT p (infoFmt reason (ptrL p) (ptrFmt p))

/-- EFMT's code (R51). -/
def Slot.efmtCode (x : Slot) : Nat := x.efmt.toNat % 16

/-- A word of majors 0x29, 0x2A and 0x34 to 0x36 traps FMT with reason 5 while EFMT is reserved (R52). -/
def withEfmt (s : State) (k : Nat → Out) : Out :=
  let e := (s.slot s.cur).efmtCode
  if 9 ≤ e then go (trapHere s causeFMT 0#64 (infoFmt 5 0 e)) else k e

end Sys2Proof.Machine
end

