-- ==== Sys2Proof/Machine/Access.lean ====
section
/-! DEFINITION. Accesses at issue: scalar loads and stores (R158 to R160), vector memory words (R230 to R234), atomics
(R171 to R175), WSTATE and WSET (R168 to R170) and JOIN (R98). The checks are made in the entry's order; what follows
the issue stands in Requests.lean. -/

namespace Sys2Proof.Machine

/-- Base plus displacement, mod 2^52 (R159). -/
def effAddr (p : Word) (off : Int) : Nat := (((ptrAddr p : Int) + off) % (2 ^ 52 : Nat)).toNat

/-- An issue fault of an access (R161, R162). -/
def accTrap (s : State) (c : BitVec 8) (reason ea : Nat) (info : Word) : Out :=
  go (trapHere s c (wd ea) (withReason info reason))

/-- Checks an address and issues the access `mk` of the place it names (R159). -/
def accessAt (s : State) (n : Need) (ea size : Nat) (info : Word) (mk : Place → NewAcc) : Out :=
  match accessCheck s (s.slot s.cur).ctx n ea size with
  | .error (c, r) => accTrap s c r ea info
  | .ok p => go (issueAcc s (mk p))

/-- A relaxed store or atomic is an item of the tag in BATCH (R160, R176, R187); a plain one is none. -/
def withItem (s : State) (relaxed : Bool) (k : State → Option Nat → Out) : Out :=
  if relaxed then
    let t := (s.slot s.cur).batch.toNat % 4
    closeFull s t (fun u => k u (some t))
  else k s none

/-- The window count of an access: a relaxed access without destination has no completion event (R70). -/
def storeLa (relaxed : Bool) (l : BitVec 4) : Option Nat := if relaxed then none else some l.toNat

/-! ### Scalar loads and stores -/

/-- A scalar load of `2^k` bytes (R158, R159). -/
def loadOp (i : Instr) (maj k : Nat) (fill : Fill) (d a : Reg) (l : BitVec 4) (r : BitVec 1) (sy : BitVec 2)
    (o : BitVec 9) (s : State) : Out :=
  issue i s (fun t =>
    let x := t.slot t.cur
    let ea := effAddr (x.rg a) (o.toInt * 2 ^ k)
    let info := infoAcc x.pc 0 k sy.toNat maj
    accessAt t { Need.load with sync := decide (sy ≠ 0#2) } ea (2 ^ k) info (fun p =>
      { relaxed := decide (r = 1#1), dest := .g d, fill := fill, la := some l.toNat, info := info,
        pieces := [{ op := .load (2 ^ k) sy, ea := wd ea, place := p }] }))

/-- A scalar store of `2^k` bytes (R158, R159, R160). -/
def storeOp (i : Instr) (maj k : Nat) (d a : Reg) (l : BitVec 4) (r : BitVec 1) (sy : BitVec 2) (o : BitVec 9)
    (s : State) : Out :=
  issue i s (fun t =>
    withItem t (decide (r = 1#1)) (fun t tag =>
      let x := t.slot t.cur
      let ea := effAddr (x.rg a) (o.toInt * 2 ^ k)
      let info := infoAcc x.pc 0 k sy.toNat maj
      accessAt t { Need.store with sync := decide (sy ≠ 0#2) } ea (2 ^ k) info (fun p =>
        { relaxed := decide (r = 1#1), dest := .none, fill := .zx 8, la := storeLa (decide (r = 1#1)) l, tag := tag,
          info := info, pieces := [{ op := .store (2 ^ k) sy (x.rg d), ea := wd ea, place := p }] })))

/-- LDB (R158, R159). -/
def execLdb (d a : Reg) (l : BitVec 4) (r : BitVec 1) (sy : BitVec 2) (o : BitVec 9) (s : State) : Out :=
  loadOp (.ldb d a l r sy o) 0x1C 0 (.sx 1) d a l r sy o s
/-- LDH (R158, R159). -/
def execLdh (d a : Reg) (l : BitVec 4) (r : BitVec 1) (sy : BitVec 2) (o : BitVec 9) (s : State) : Out :=
  loadOp (.ldh d a l r sy o) 0x1D 1 (.sx 2) d a l r sy o s
/-- LDW (R158, R159). -/
def execLdw (d a : Reg) (l : BitVec 4) (r : BitVec 1) (sy : BitVec 2) (o : BitVec 9) (s : State) : Out :=
  loadOp (.ldw d a l r sy o) 0x1E 2 (.sx 4) d a l r sy o s
/-- LDD (R158, R159). -/
def execLdd (d a : Reg) (l : BitVec 4) (r : BitVec 1) (sy : BitVec 2) (o : BitVec 9) (s : State) : Out :=
  loadOp (.ldd d a l r sy o) 0x1F 3 (.zx 8) d a l r sy o s
/-- LDNB (R158, R159). -/
def execLdnb (d a : Reg) (l : BitVec 4) (r : BitVec 1) (sy : BitVec 2) (o : BitVec 9) (s : State) : Out :=
  loadOp (.ldnb d a l r sy o) 0x20 0 (.zx 1) d a l r sy o s
/-- LDNH (R158, R159). -/
def execLdnh (d a : Reg) (l : BitVec 4) (r : BitVec 1) (sy : BitVec 2) (o : BitVec 9) (s : State) : Out :=
  loadOp (.ldnh d a l r sy o) 0x21 1 (.zx 2) d a l r sy o s
/-- LDNW (R158, R159). -/
def execLdnw (d a : Reg) (l : BitVec 4) (r : BitVec 1) (sy : BitVec 2) (o : BitVec 9) (s : State) : Out :=
  loadOp (.ldnw d a l r sy o) 0x22 2 (.zx 4) d a l r sy o s
/-- STB (R158, R159). -/
def execStb (d a : Reg) (l : BitVec 4) (r : BitVec 1) (sy : BitVec 2) (o : BitVec 9) (s : State) : Out :=
  storeOp (.stb d a l r sy o) 0x23 0 d a l r sy o s
/-- STH (R158, R159). -/
def execSth (d a : Reg) (l : BitVec 4) (r : BitVec 1) (sy : BitVec 2) (o : BitVec 9) (s : State) : Out :=
  storeOp (.sth d a l r sy o) 0x24 1 d a l r sy o s
/-- STW (R158, R159). -/
def execStw (d a : Reg) (l : BitVec 4) (r : BitVec 1) (sy : BitVec 2) (o : BitVec 9) (s : State) : Out :=
  storeOp (.stw d a l r sy o) 0x25 2 d a l r sy o s
/-- STD (R158, R159). -/
def execStd (d a : Reg) (l : BitVec 4) (r : BitVec 1) (sy : BitVec 2) (o : BitVec 9) (s : State) : Out :=
  storeOp (.std d a l r sy o) 0x26 3 d a l r sy o s

/-! ### Vector memory words (R230 to R234) -/

/-- LDV (R231). -/
def execLdv (d a : Reg) (l : BitVec 4) (r : BitVec 1) (o : BitVec 9) (s : State) : Out :=
  issue (.ldv d a l r o) s (fun t =>
    let x := t.slot t.cur
    let ea := effAddr (x.rg a) (o.toInt * 32)
    let info := infoAcc x.pc 0 5 0 0x27
    accessAt t Need.load ea 32 info (fun p =>
      { relaxed := decide (r = 1#1), dest := .v (d.setWidth 4), fill := .vec, la := some l.toNat, info := info,
        pieces := [{ op := .loadV, ea := wd ea, place := p }] }))

/-- STV (R231). -/
def execStv (d a : Reg) (l : BitVec 4) (r : BitVec 1) (o : BitVec 9) (s : State) : Out :=
  issue (.stv d a l r o) s (fun t =>
    withItem t (decide (r = 1#1)) (fun t tag =>
      let x := t.slot t.cur
      let ea := effAddr (x.rg a) (o.toInt * 32)
      let info := infoAcc x.pc 0 5 0 0x28
      accessAt t Need.store ea 32 info (fun p =>
        { relaxed := decide (r = 1#1), dest := .none, fill := .vec, la := storeLa (decide (r = 1#1)) l, tag := tag,
          info := info, pieces := [{ op := .storeV (x.rw d), ea := wd ea, place := p }] })))

/-- The chunk number of a bit-plane word (R232). -/
def chunkOf (e l : Nat) (o : BitVec 9) : Nat := (o.toInt % ((2 ^ l / chunkLen e : Nat) : Int)).toNat

/-- Checks every word of a list (R181, R232): the places, or the first failing address and reason. -/
def checkWords (s : State) (ctx : Nat) (n : Need) : List Nat → Except (Nat × Nat) (List Place)
  | [] => .ok []
  | a :: rest =>
    match checkAddr s ctx n a with
    | .error r => .error (a, r)
    | .ok p =>
      match checkWords s ctx n rest with
      | .error e => .error e
      | .ok ps => .ok (p :: ps)

/-- A place lies in a module declared lost (R350). -/
def lostPlace (s : State) (p : Place) : Bool :=
  match p with
  | .remote pos => s.pod.lost.contains pos
  | .mem _ => false

/-- The checks of LDBP and STBP in R232's order (the FADDR of an ACCESS trap, which R162's ea does not define for them, is the
address of the first failing word of LDBP and of the first failing piece of STBP: log entry 106); then `k` with the places of the words. `narrow` is the lane check of
LDBP, `words` gives the addresses. -/
def planeChecks (s : State) (n : Need) (p : Word) (info : Word) (narrow : Nat → Nat → Bool)
    (words : Nat → List Nat) (k : Nat → List Place → Out) : Out :=
  withEfmt s (fun e =>
    let f := ptrFmt p
    let r := fmtReason f (ptrL p)
    if r ≠ 0 then go (fmtTrap s p r)
    else if !isPlanes f then go (fmtTrap s p 7)
    else if narrow e (fmtK f) then go (trapHere s causeFMT 0#64 (infoFmt 6 (fmtK f) e))
    else
      match checkWords s (s.slot s.cur).ctx n (words e) with
      | .error (a, r) => accTrap s causeACCESS r a info
      | .ok ps =>
        if ptrAddr p % 8 ≠ 0 then accTrap s causeALIGN 1 (ptrAddr p) info
        else if ps.any (lostPlace s) then accTrap s causePEERLOST 3 (ptrAddr p) info
        else k e ps)

/-- LDBP into an integer lane narrower than k (R232, check 4). -/
def narrowLane (e k : Nat) : Bool := decide (e ≤ 5) && decide (laneWidth e < k)

/-- LDBP (R233). -/
def execLdbp (d a : Reg) (l : BitVec 4) (r : BitVec 1) (o : BitVec 9) (s : State) : Out :=
  issue (.ldbp d a l r o) s (fun t =>
    let x := t.slot t.cur
    let p := x.rg a
    let b := ptrAddr p
    let info := infoAcc x.pc 0 3 0 0x29
    let words := fun e => (ldbpWords (ptrFmt p) (ptrL p) (chunkOf e (ptrL p) o) e b).map (fun w => w % 2 ^ 52)
    planeChecks t Need.load p info narrowLane words (fun e ps =>
      go (issueAcc t
        { relaxed := decide (r = 1#1), dest := .v (d.setWidth 4),
          fill := .planes (BitVec.ofNat 8 (ptrFmt p)) (ptrL p) (chunkOf e (ptrL p) o) e b, la := some l.toNat, info := info,
          pieces := ((words e).zip ps).map (fun w => { op := .load 8 0#2, ea := wd w.1, place := w.2 }) })))

/-- Lane `i` of a vector under a code, as its bits (R37, R212). -/
def laneBits (e : Nat) (v : Vec) (i : Nat) : Nat := v.toNat / 2 ^ (laneWidth e * i) % 2 ^ laneWidth e

/-- The exact value of a lane: integers as integers, FP lanes as R38 decodes them (R212). -/
def laneValue (e n : Nat) : Fp :=
  if e = 3 then Fp.ofInt n
  else if e ≤ 5 then Fp.ofInt (sextNat n (laneWidth e))
  else if e = 6 then Fp.decode fp16 n
  else if e = 7 then Fp.decode bf16 n
  else f32 n

/-- The q8 that STBP stores for a lane (R234), as 8 bits. -/
def stbpQ8 (e n : Nat) : Nat :=
  if e = 3 then n
  else if e = 2 then (sextNat n 4 * 16 % 256).toNat
  else if e = 1 then (sextNat n 6 * 4 % 256).toNat
  else if e ≤ 5 then (satS (sextNat n (laneWidth e)) 8 % 256).toNat
  else (Fp.toIntSat false (-128) 127 (laneValue e n) % 256).toNat

/-- The bytes of one plane of a chunk (R42, R234). -/
def planePiece (e : Nat) (v : Vec) (p : Nat) : Nat :=
  (List.range (chunkLen e)).foldl (fun a i => a + (stbpQ8 e (laneBits e v i) / 2 ^ (7 - p) % 2) * 2 ^ i) 0

/-- STBP (R234). -/
def execStbp (d a : Reg) (l : BitVec 4) (r : BitVec 1) (o : BitVec 9) (s : State) : Out :=
  issue (.stbp d a l r o) s (fun t =>
    withEfmt t (fun _ => withItem t (decide (r = 1#1)) (fun t tag =>
      let x := t.slot t.cur
      let p := x.rg a
      let b := ptrAddr p
      let info := infoAcc x.pc 0 3 0 0x2A
      let words := fun e => (List.range (fmtS (ptrFmt p))).map (fun q =>
        (b + 8 + q * 2 ^ (ptrL p - 3) + chunkOf e (ptrL p) o * chunkLen e / 8) % 2 ^ 52)
      planeChecks t Need.store p info (fun _ _ => false) words (fun e ps =>
        go (issueAcc t
          { relaxed := decide (r = 1#1), dest := .none, fill := .vec, la := storeLa (decide (r = 1#1)) l, tag := tag,
            info := info,
            pieces := ((words e).zip ps).zipIdx.map (fun w =>
              { op := .store (chunkLen e / 8) 0#2 (wd (planePiece e (x.rw d) w.2)), ea := wd w.1.1, place := w.1.2 }) })))))

/-! ### Atomics (R171 to R176) -/

/-- Bytes of an atomic (R171). -/
def amoSize (op : Nat) : Nat := if op = 0x0D then 16 else if op = 0x0B then 4 else 8
/-- log2 of them. -/
def amoLog (op : Nat) : Nat := if op = 0x0D then 4 else if op = 0x0B then 2 else 3

/-- The capability word of another module lacks an operation (R172, R336): capability bit op says it has it. -/
def lacksOp (s : State) (p : Place) (op : Nat) : Bool :=
  match p with
  | .mem _ => false
  | .remote pos =>
    match Tab.look s.pod.joins pos with
    | some j => !j.cap.getLsbD op
    | none => false

/-- An atomic (R172). -/
def amo (i : Instr) (op : Nat) (relaxed : Bool) (dest : Dest) (la : Option Nat) (a b : Reg) (d : Slot → Word)
    (s : State) : Out :=
  issue i s (fun t =>
    withItem t relaxed (fun t tag =>
      let x := t.slot t.cur
      let ea := ptrAddr (x.rg a)
      let info := infoAcc x.pc (op + 64 * b2n relaxed) (amoLog op) 0 0x2B
      match checkAddr t x.ctx Need.atomic ea with
      | .error r => accTrap t causeACCESS r ea info
      | .ok p =>
        if ea % amoSize op ≠ 0 then accTrap t causeALIGN 1 ea info
        else if lacksOp t p op then accTrap t causeATOMUNS 1 ea info
        else if lostPlace t p then accTrap t causePEERLOST 3 ea info
        else
          go (issueAcc t
            { relaxed := relaxed, dest := dest, fill := .zx 8, la := la, tag := tag, info := info,
              pieces := [{ op := .amo (BitVec.ofNat 6 op) (x.rg b) (x.rg (regNext b 1)) (d x), ea := wd ea, place := p }] })))

/-- AADD (R171). -/
def execAadd (d a b : Reg) (l : BitVec 4) (s : State) : Out :=
  amo (.aadd d a b l) 0x01 false (.g d) (some l.toNat) a b (fun _ => 0#64) s
/-- AAND (R171). -/
def execAand (d a b : Reg) (l : BitVec 4) (s : State) : Out :=
  amo (.aand d a b l) 0x02 false (.g d) (some l.toNat) a b (fun _ => 0#64) s
/-- AOR (R171). -/
def execAor (d a b : Reg) (l : BitVec 4) (s : State) : Out :=
  amo (.aor d a b l) 0x03 false (.g d) (some l.toNat) a b (fun _ => 0#64) s
/-- AXOR (R171). -/
def execAxor (d a b : Reg) (l : BitVec 4) (s : State) : Out :=
  amo (.axor d a b l) 0x04 false (.g d) (some l.toNat) a b (fun _ => 0#64) s
/-- AMIN (R171). -/
def execAmin (d a b : Reg) (l : BitVec 4) (s : State) : Out :=
  amo (.amin d a b l) 0x05 false (.g d) (some l.toNat) a b (fun _ => 0#64) s
/-- AMAX (R171). -/
def execAmax (d a b : Reg) (l : BitVec 4) (s : State) : Out :=
  amo (.amax d a b l) 0x06 false (.g d) (some l.toNat) a b (fun _ => 0#64) s
/-- AMINN (R171). -/
def execAminn (d a b : Reg) (l : BitVec 4) (s : State) : Out :=
  amo (.aminn d a b l) 0x07 false (.g d) (some l.toNat) a b (fun _ => 0#64) s
/-- AMAXN (R171). -/
def execAmaxn (d a b : Reg) (l : BitVec 4) (s : State) : Out :=
  amo (.amaxn d a b l) 0x08 false (.g d) (some l.toNat) a b (fun _ => 0#64) s
/-- ASWAP (R171). -/
def execAswap (d a b : Reg) (l : BitVec 4) (s : State) : Out :=
  amo (.aswap d a b l) 0x09 false (.g d) (some l.toNat) a b (fun _ => 0#64) s
/-- ACAS (R171). -/
def execAcas (d a b : Reg) (l : BitVec 4) (s : State) : Out :=
  amo (.acas d a b l) 0x0A false (.g d) (some l.toNat) a b (fun x => x.rg d) s
/-- AFADD (R175). -/
def execAfadd (d a b : Reg) (l : BitVec 4) (s : State) : Out :=
  amo (.afadd d a b l) 0x0B false (.g d) (some l.toNat) a b (fun _ => 0#64) s
/-- ABUMP (R173). -/
def execAbump (d a b : Reg) (l : BitVec 4) (s : State) : Out :=
  amo (.abump d a b l) 0x0C false (.g d) (some l.toNat) a b (fun _ => 0#64) s
/-- ATMERGE (R174). -/
def execAtmerge (d a b : Reg) (l : BitVec 4) (s : State) : Out :=
  amo (.atmerge d a b l) 0x0D false (.g d) (some l.toNat) a b (fun _ => 0#64) s
/-- AADD.RX (R171). -/
def execAaddRx (a b : Reg) (s : State) : Out :=
  amo (.aaddRx a b) 0x01 true .none none a b (fun _ => 0#64) s
/-- AAND.RX (R171). -/
def execAandRx (a b : Reg) (s : State) : Out :=
  amo (.aandRx a b) 0x02 true .none none a b (fun _ => 0#64) s
/-- AOR.RX (R171). -/
def execAorRx (a b : Reg) (s : State) : Out :=
  amo (.aorRx a b) 0x03 true .none none a b (fun _ => 0#64) s
/-- AXOR.RX (R171). -/
def execAxorRx (a b : Reg) (s : State) : Out :=
  amo (.axorRx a b) 0x04 true .none none a b (fun _ => 0#64) s
/-- AMIN.RX (R171). -/
def execAminRx (a b : Reg) (s : State) : Out :=
  amo (.aminRx a b) 0x05 true .none none a b (fun _ => 0#64) s
/-- AMAX.RX (R171). -/
def execAmaxRx (a b : Reg) (s : State) : Out :=
  amo (.amaxRx a b) 0x06 true .none none a b (fun _ => 0#64) s
/-- AMINN.RX (R171). -/
def execAminnRx (a b : Reg) (s : State) : Out :=
  amo (.aminnRx a b) 0x07 true .none none a b (fun _ => 0#64) s
/-- AMAXN.RX (R171). -/
def execAmaxnRx (a b : Reg) (s : State) : Out :=
  amo (.amaxnRx a b) 0x08 true .none none a b (fun _ => 0#64) s
/-- AFADD.RX (R175). -/
def execAfaddRx (a b : Reg) (s : State) : Out :=
  amo (.afaddRx a b) 0x0B true .none none a b (fun _ => 0#64) s
/-- ATMERGE.RX (R174). -/
def execAtmergeRx (a b : Reg) (s : State) : Out :=
  amo (.atmergeRx a b) 0x0D true .none none a b (fun _ => 0#64) s

/-! ### Word states and join cells -/

/-- WSTATE (R169). -/
def execWstate (d a : Reg) (l : BitVec 4) (o : BitVec 7) (s : State) : Out :=
  issue (.wstate d a l o) s (fun t =>
    let x := t.slot t.cur
    let ea := effAddr (x.rg a) (o.toInt * 8)
    let info := infoAcc x.pc 0 3 0 0x2C
    accessAt t Need.load ea 8 info (fun p =>
      { relaxed := false, dest := .g d, fill := .zx 8, la := some l.toNat, info := info,
        pieces := [{ op := .wstate, ea := wd ea, place := p }] }))

/-- WSET (R170). -/
def execWset (d a : Reg) (l : BitVec 4) (o : BitVec 7) (s : State) : Out :=
  issue (.wset d a l o) s (fun t =>
    let x := t.slot t.cur
    let ea := effAddr (x.rg a) (o.toInt * 8)
    let info := infoAcc x.pc 0 3 0 0x2C
    accessAt t { Need.store with sync := true } ea 8 info (fun p =>
      { relaxed := false, dest := .none, fill := .zx 8, la := some l.toNat, info := info,
        pieces := [{ op := .wset ((x.rg d).setWidth 2), ea := wd ea, place := p }] }))

/-- JOIN (R98). It asks the window for read and write: R180 lists no permission for it, and this is the model's choice (log entry
112). -/
def execJoin (a : Reg) (l : BitVec 4) (s : State) : Out :=
  issue (.join a l) s (fun t =>
    let x := t.slot t.cur
    let ea := ptrAddr (x.rg a)
    let info := infoAcc x.pc 3 3 0 0x2F
    accessAt t { Need.both with sync := true } ea 8 info (fun p =>
      { relaxed := false, dest := .none, fill := .zx 8, la := some l.toNat, info := info,
        pieces := [{ op := .join, ea := wd ea, place := p }] }))

end Sys2Proof.Machine
end

