-- ==== Sys2Proof/Machine/Int.lean ====
section
/-! DEFINITION. The INT major (R126 to R132): fixed-class words that read registers and write one. -/

namespace Sys2Proof.Machine

/-- A fixed-class word that writes `f` of its slot to G[d] (R123). -/
def regOp (i : Instr) (d : Reg) (f : Slot → Word) (s : State) : Out :=
  issue i s (fun t => writeG t d (f (t.slot t.cur)))

/-- High half of the signed product (R127). -/
def mulHighS (a b : Word) : Word := wi (a.toInt * b.toInt / (2 ^ 64 : Nat))
/-- High half of the unsigned product (R127). -/
def mulHighU (a b : Word) : Word := wd (a.toNat * b.toNat / 2 ^ 64)

/-- Signed quotient (R128). -/
def divS (a b : Word) : Word := if b = 0#64 then onesW else wi (Int.tdiv a.toInt b.toInt)
/-- Signed remainder (R128). -/
def remS (a b : Word) : Word := if b = 0#64 then a else wi (Int.tmod a.toInt b.toInt)
/-- Unsigned quotient (R128). -/
def divU (a b : Word) : Word := if b = 0#64 then onesW else wd (a.toNat / b.toNat)
/-- Unsigned remainder (R128). -/
def remU (a b : Word) : Word := if b = 0#64 then a else wd (a.toNat % b.toNat)

/-- The amount of a shift (R129). -/
def amount (b : Word) : Nat := b.toNat % 64
/-- Rotation right by an amount below 64 (R129). -/
def rotR (a : Word) (n : Nat) : Word := (a >>> n) ||| (a <<< (64 - n))

/-- Leading zero bits (R132). -/
def clz64 (a : Word) : Nat := if a = 0#64 then 64 else 63 - Nat.log2 a.toNat
/-- One bits of the low `n` bits. -/
def countOnes (a : Word) : Nat → Nat
  | 0 => 0
  | n + 1 => countOnes a n + b2n (a.getLsbD n)
/-- One bits (R132). -/
def popc64 (a : Word) : Nat := countOnes a 64
/-- Trailing zero bits (R132): the ones of `~a & (a - 1)`. -/
def ctz64 (a : Word) : Nat := popc64 (~~~a &&& (a - 1#64))

/-- ADD (R127). -/
def execAdd (d a b : Reg) (s : State) : Out := regOp (.add d a b) d (fun x => x.rg a + x.rg b) s
/-- SUB (R127). -/
def execSub (d a b : Reg) (s : State) : Out := regOp (.sub d a b) d (fun x => x.rg a - x.rg b) s
/-- MUL (R127). -/
def execMul (d a b : Reg) (s : State) : Out := regOp (.mul d a b) d (fun x => x.rg a * x.rg b) s
/-- MULH (R127). -/
def execMulh (d a b : Reg) (s : State) : Out := regOp (.mulh d a b) d (fun x => mulHighS (x.rg a) (x.rg b)) s
/-- MULHN (R127). -/
def execMulhn (d a b : Reg) (s : State) : Out := regOp (.mulhn d a b) d (fun x => mulHighU (x.rg a) (x.rg b)) s
/-- DIV (R128). -/
def execDiv (d a b : Reg) (s : State) : Out := regOp (.div d a b) d (fun x => divS (x.rg a) (x.rg b)) s
/-- DIVN (R128). -/
def execDivn (d a b : Reg) (s : State) : Out := regOp (.divn d a b) d (fun x => divU (x.rg a) (x.rg b)) s
/-- REM (R128). -/
def execRem (d a b : Reg) (s : State) : Out := regOp (.rem d a b) d (fun x => remS (x.rg a) (x.rg b)) s
/-- REMN (R128). -/
def execRemn (d a b : Reg) (s : State) : Out := regOp (.remn d a b) d (fun x => remU (x.rg a) (x.rg b)) s
/-- NEG (R127). -/
def execNeg (d a : Reg) (s : State) : Out := regOp (.neg d a) d (fun x => -(x.rg a)) s
/-- AND (R127). -/
def execAnd (d a b : Reg) (s : State) : Out := regOp (.and d a b) d (fun x => x.rg a &&& x.rg b) s
/-- OR (R127). -/
def execOr (d a b : Reg) (s : State) : Out := regOp (.or d a b) d (fun x => x.rg a ||| x.rg b) s
/-- XOR (R127). -/
def execXor (d a b : Reg) (s : State) : Out := regOp (.xor d a b) d (fun x => x.rg a ^^^ x.rg b) s
/-- ANDN (R127). -/
def execAndn (d a b : Reg) (s : State) : Out := regOp (.andn d a b) d (fun x => x.rg a &&& ~~~x.rg b) s
/-- ORN (R127). -/
def execOrn (d a b : Reg) (s : State) : Out := regOp (.orn d a b) d (fun x => x.rg a ||| ~~~x.rg b) s
/-- SHL (R129). -/
def execShl (d a b : Reg) (s : State) : Out := regOp (.shl d a b) d (fun x => x.rg a <<< amount (x.rg b)) s
/-- SHR (R129). -/
def execShr (d a b : Reg) (s : State) : Out := regOp (.shr d a b) d (fun x => x.rg a >>> amount (x.rg b)) s
/-- SHRA (R129). -/
def execShra (d a b : Reg) (s : State) : Out := regOp (.shra d a b) d (fun x => (x.rg a).sshiftRight (amount (x.rg b))) s
/-- ROTR (R129). -/
def execRotr (d a b : Reg) (s : State) : Out := regOp (.rotr d a b) d (fun x => rotR (x.rg a) (amount (x.rg b))) s
/-- CMPEQ (R130). -/
def execCmpeq (d a b : Reg) (s : State) : Out := regOp (.cmpeq d a b) d (fun x => b2w (decide (x.rg a = x.rg b))) s
/-- CMPNE (R130). -/
def execCmpne (d a b : Reg) (s : State) : Out := regOp (.cmpne d a b) d (fun x => b2w (decide (x.rg a ≠ x.rg b))) s
/-- CMPLT (R130). -/
def execCmplt (d a b : Reg) (s : State) : Out := regOp (.cmplt d a b) d (fun x => b2w ((x.rg a).slt (x.rg b))) s
/-- CMPGE (R130). -/
def execCmpge (d a b : Reg) (s : State) : Out := regOp (.cmpge d a b) d (fun x => b2w ((x.rg b).sle (x.rg a))) s
/-- CMPLTN (R130). -/
def execCmpltn (d a b : Reg) (s : State) : Out := regOp (.cmpltn d a b) d (fun x => b2w ((x.rg a).ult (x.rg b))) s
/-- CMPGEN (R130). -/
def execCmpgen (d a b : Reg) (s : State) : Out := regOp (.cmpgen d a b) d (fun x => b2w ((x.rg b).ule (x.rg a))) s
/-- MIN (R130). -/
def execMin (d a b : Reg) (s : State) : Out := regOp (.min d a b) d (fun x => if (x.rg b).slt (x.rg a) then x.rg b else x.rg a) s
/-- MAX (R130). -/
def execMax (d a b : Reg) (s : State) : Out := regOp (.max d a b) d (fun x => if (x.rg a).slt (x.rg b) then x.rg b else x.rg a) s
/-- MINN (R130). -/
def execMinn (d a b : Reg) (s : State) : Out := regOp (.minn d a b) d (fun x => if (x.rg b).ult (x.rg a) then x.rg b else x.rg a) s
/-- MAXN (R130). -/
def execMaxn (d a b : Reg) (s : State) : Out := regOp (.maxn d a b) d (fun x => if (x.rg a).ult (x.rg b) then x.rg b else x.rg a) s
/-- SEL (R131). -/
def execSel (d a b : Reg) (s : State) : Out := regOp (.sel d a b) d (fun x => if x.rg d ≠ 0#64 then x.rg a else x.rg b) s
/-- CLZ (R132). -/
def execClz (d a : Reg) (s : State) : Out := regOp (.clz d a) d (fun x => wd (clz64 (x.rg a))) s
/-- CTZ (R132). -/
def execCtz (d a : Reg) (s : State) : Out := regOp (.ctz d a) d (fun x => wd (ctz64 (x.rg a))) s
/-- POPC (R132). -/
def execPopc (d a : Reg) (s : State) : Out := regOp (.popc d a) d (fun x => wd (popc64 (x.rg a))) s
/-- SEXTB (R132). -/
def execSextb (d a : Reg) (s : State) : Out := regOp (.sextb d a) d (fun x => ((x.rg a).setWidth 8).signExtend 64) s
/-- SEXTH (R132). -/
def execSexth (d a : Reg) (s : State) : Out := regOp (.sexth d a) d (fun x => ((x.rg a).setWidth 16).signExtend 64) s
/-- SEXTW (R132). -/
def execSextw (d a : Reg) (s : State) : Out := regOp (.sextw d a) d (fun x => ((x.rg a).setWidth 32).signExtend 64) s
/-- ZEXTB (R132). -/
def execZextb (d a : Reg) (s : State) : Out := regOp (.zextb d a) d (fun x => ((x.rg a).setWidth 8).setWidth 64) s
/-- ZEXTH (R132). -/
def execZexth (d a : Reg) (s : State) : Out := regOp (.zexth d a) d (fun x => ((x.rg a).setWidth 16).setWidth 64) s
/-- ZEXTW (R132). -/
def execZextw (d a : Reg) (s : State) : Out := regOp (.zextw d a) d (fun x => ((x.rg a).setWidth 32).setWidth 64) s

end Sys2Proof.Machine
end

