-- ==== Sys2Proof/Machine/Ord.lean ====
section
/-! DEFINITION. Fences and batches (R188 to R192, R380), the TAG major (R308 to R310) and EXIT (R101). -/

namespace Sys2Proof.Machine

/-- Closes every tag that holds items (R189). -/
def Slot.closeAll (x : Slot) : Slot := (List.range 4).foldl (fun y t => y.closeTag t) x

/-- LANDREF of a tag that has just been closed, with resume offset `e` (R192). `x` is the slot before the close. -/
def landref (s : State) (x : Slot) (t reason e : Nat) : State :=
  takeTrap s s.cur causeLANDREF (x.failMap t) (x.landInfo t reason) e

/-- The effect of a FENCE whose wait is over (R189, R380): the deferred-fault record's trap at the FENCE; else LANDREF
at the next word; else the FENCE is complete. -/
def fenceDone (s : State) (scope : Nat) : Out :=
  let x := s.slot s.cur
  let bad := if scope = 3 then trapTag x else none
  let t := if scope = 3 then s.updSlot s.cur Slot.closeAll else s
  if x.dfr.isSome && !x.inh then go (takeDeferred t t.cur x.pc)
  else
    match bad with
    | some k => go (landref (t.updSlot t.cur (fun y => y.retire (y.pc + 4))) x k 2 (x.pc + 4))
    | none => finish t id

/-- FENCE.CORE (R189). -/
def execFenceCore (s : State) : Out := issue .fenceCore s (fun t => fenceDone t 0)
/-- FENCE.NODE (R189). -/
def execFenceNode (s : State) : Out := issue .fenceNode s (fun t => fenceDone t 1)
/-- FENCE.DEV (R189). -/
def execFenceDev (s : State) : Out := issue .fenceDev s (fun t => fenceDone t 2)
/-- FENCE.POD (R189). -/
def execFencePod (s : State) : Out := issue .fencePod s (fun t => fenceDone t 3)

/-- Closes a tag whose outcomes are known (R190), changing the slot by `f` as well. -/
def closeNow (s : State) (d : Reg) (t : Nat) (f : Slot → Slot) : Out :=
  let x := s.slot s.cur
  let m := x.failMap t
  if x.dfr.isSome && !x.inh then go (takeDeferred s s.cur x.pc)
  else
    let u := s.updSlot s.cur (fun y => f (((y.closeTag t).retire (y.pc + 4)).setG d m))
    if m ≠ 0#64 ∧ x.btrap.getLsbD t then go (landref u x t 1 (x.pc + 4)) else go u

/-- BCLOSE (R190). -/
def execBclose (d : Reg) (t : BitVec 2) (s : State) : Out :=
  issue (.bclose d t) s (fun u => closeNow u d t.toNat id)

/-- BTEST (R191). -/
def execBtest (d : Reg) (t : BitVec 2) (s : State) : Out :=
  issue (.btest d t) s (fun u =>
    let x := (u.slot u.cur).askTag t.toNat
    if x.tagKnown t.toNat then closeNow u d t.toNat (fun y => y.setG (regNext d 1) 0#64)
    else
      let left := ((x.tagItems t.toNat).filter (fun i => !i.known)).length
      finish (u.setSlot u.cur x) (fun y => (y.setG d (x.failMap t.toNat)).setG (regNext d 1) (wd left)))

/-- EXIT (R101, R189, R380). -/
def execExit (a : Reg) (s : State) : Out :=
  issue (.exit a) s (fun t =>
    let x := t.slot t.cur
    let u := t.updSlot t.cur Slot.closeAll
    match x.dfr with
    | some _ => go (takeDeferred u u.cur x.pc)
    | none =>
      match trapTag x with
      | some k => go (landref u x k 2 x.pc)
      | none =>
        go (finishEnd (u.updSlot u.cur (fun y => y.retire (y.pc + 4))) u.cur
          (wd (bits (x.rg a).toNat 15 0 * 2 ^ 16 + bits (x.rg a).toNat 31 16))))

/-! ### Copy tags -/

/-- Index of the lowest set bit, or 64. -/
def lowBit (w : Word) : Word := wd (ctz64 w)

/-- The core's TAGS under a mask. -/
def tagsUnder (s : State) (m : Word) : Word := (s.core (coreOfSlot s.cur)).tags &&& m

/-- WAITANY (R309). -/
def execWaitany (d a : Reg) (s : State) : Out :=
  issue (.waitany d a) s (fun t => writeG t d (lowBit (tagsUnder t ((t.slot t.cur).rg a))))
/-- WAITALL (R309). -/
def execWaitall (a : Reg) (s : State) : Out := issue (.waitall a) s (fun t => finish t id)
/-- FFREADY (R309). -/
def execFfready (d a : Reg) (s : State) : Out :=
  issue (.ffready d a) s (fun t => writeG t d (lowBit (tagsUnder t ((t.slot t.cur).rg a))))
/-- TAGCLR (R309, R310). -/
def execTagclr (a : Reg) (s : State) : Out :=
  issue (.tagclr a) s (fun t =>
    let m := (t.slot t.cur).rg a
    finish (t.updCore (coreOfSlot t.cur) (fun c => { c with tags := c.tags &&& ~~~m, tagerr := c.tagerr &&& ~~~m }))
      (fun x => { x with named := x.named ||| m }))

end Sys2Proof.Machine
end

