-- ==== Sys2Proof/Machine/Plates.lean ====
section
/-! DEFINITION. Plates: the PLT major at issue (R319 to R328), the node plate table (R313 to R318, R322 to R330). -/

namespace Sys2Proof.Machine

/-! ### References and result words (R317, R318) -/

/-- STATE's code (R313). -/
def PlateSt.code : PlateSt → Nat
  | .free => 0
  | .filling => 1
  | .sealed => 2
  | .open_ => 3
  | .evicting => 4
  | .evicted => 5

/-- The reference of an entry (R317). -/
def refWord (n e : Nat) (p : Plate) : Word := wd (n * 2 ^ 44 + p.egen.toNat * 2 ^ 32 + p.st.code * 2 ^ 8 + e)
/-- A miss word (R317, R318). -/
def missWord (code st : Nat) : Word := wd (2 ^ 63 + st * 2 ^ 8 + code)
/-- The node that a reference names. -/
def refNode (r : Word) : Nat := bits r.toNat 57 44
/-- The entry that a reference names. -/
def refEntry (r : Word) : Nat := bits r.toNat 5 0
/-- The entry generation that a reference names. -/
def refGen (r : Word) : BitVec 12 := BitVec.ofNat 12 (bits r.toNat 43 32)
/-- A reference without its STATE field (R317, R325). -/
def refKey (r : Word) : Word := r &&& ~~~(0xF00#64)
/-- MISS or a reserved bit is set (R321, reason 2). -/
def badRef (r : Word) : Bool :=
  r.getLsbD 63 || decide (bits r.toNat 62 58 ≠ 0) || decide (bits r.toNat 31 12 ≠ 0) || decide (bits r.toNat 7 6 ≠ 0)

/-- Column stride of a tile's B-SRAM (R267). -/
def colStride (s : State) (t : Nat) : Nat := if (s.tile t).rbus = 1 then 8192 else 16384

/-- Module address of a plate's first byte (R314, R323). -/
def plateAddr (n : Nat) (p : Plate) : Nat :=
  if p.kind then bsramBase (n * 16 + p.unit) + p.base * 2048 else storeBase (n * 64 + p.unit) + p.base * 2048

/-- The base pointer of a plate (R323): format 0x00, L 0, VDN 0x3FF. -/
def plateWord (n : Nat) (p : Plate) : Word := wd (0x3FF * 2 ^ 42 + plateAddr n p)

/-! ### Issue (R320) -/

/-- A PLSTATE trap at issue (R321). -/
def plstateTrap (s : State) (a : Word) (op reason : Nat) : Out :=
  go (trapHere s causePLSTATE a (infoPlt (s.slot s.cur).pc op 0 reason))

/-- An ACCESS or ALIGN trap of a PLT word (R320). -/
def pltTrap (s : State) (c : BitVec 8) (a : Word) (op reason : Nat) : Out :=
  go (trapHere s c a (withReason (infoAcc (s.slot s.cur).pc op 3 0 0x31) reason))

/-- A PLT request issues toward the table of node `n` (R319, R320). -/
def pltIssue (s : State) (n op : Nat) (dest : Dest) (l : BitVec 4) (a b b2 : Word) : Out :=
  go (issueAcc s
    { relaxed := false, plt := true, dest := dest, fill := .plate, la := some l.toNat,
      info := infoPlt (s.slot s.cur).pc op 0 0, tgt := some (.plates n),
      pieces := [{ op := .plt (BitVec.ofNat 7 op) a b b2, ea := a, place := .mem 0 }] })

/-- The issue checks of a reference (R320, R321); then `k` with its node. -/
def withRef (s : State) (op : Nat) (a : Word) (k : Nat → Out) : Out :=
  if badRef a then plstateTrap s a op 2
  else
    let ok := match s.context (s.slot s.cur).ctx with
      | some c => decide (bits a.toNat 57 54 ≤ 9) && c.allots (refNode a)
      | none => false
    if ok then k (refNode a) else pltTrap s causeACCESS a op 5

/-- PLOOK (R322). -/
def execPlook (d a : Reg) (l : BitVec 4) (s : State) : Out :=
  issue (.plook d a l) s (fun t => pltIssue t (nodeOfSlot t.cur) 0x01 (.g d) l ((t.slot t.cur).rg a) 0#64 0#64)

/-- The spec of PMAKE is invalid (R323). -/
def badSpec (w : Word) : Bool :=
  let v := w.toNat
  let kind := bits v 39 36
  decide (bits v 63 49 ≠ 0) || w.getLsbD 46 || decide (bits v 35 4 ≠ 0) || decide (1 < kind)
    || (w.getLsbD 47 && decide (bits v 45 40 ≠ 0)) || (decide (kind = 1) && decide (15 < bits v 45 40))
    || decide (bits v 3 0 = 0) || decide ((if kind = 0 then 12 else 8) < bits v 3 0)

/-- Bytes of a plate (R314). -/
def plateBytes (kind : Bool) (len : Nat) : Nat := len * (if kind then 16384 else 2048)

/-- The checks of PMAKE's backing in R323's order: cause, address and reason of the first that fails. -/
def backingFault (s : State) (ctx : Nat) (spec b2 : Word) : Option (BitVec 8 × Nat × Nat) :=
  let ea := ptrAddr b2
  if b2 = 0#64 then none
  else
    match vdnModule s (s.context ctx) (bits ea 51 42) with
    | .ok none =>
      if bits ea 41 40 ≠ 0 then some (causeACCESS, ea, 10)
      else if ea % 64 ≠ 0 then some (causeALIGN, ea, 1)
      else
        match checkRange s ctx Need.both ea 64 (plateBytes (spec.getLsbD 36) (bits spec.toNat 3 0) / 64) with
        | some (f, r) => some (causeACCESS, f, r)
        | none => none
    | _ => some (causeACCESS, ea, 8)

/-- PMAKE (R323). -/
def execPmake (d a b : Reg) (l : BitVec 4) (s : State) : Out :=
  issue (.pmake d a b l) s (fun t =>
    let x := t.slot t.cur
    let spec := x.rg b
    let b2 := x.rg (regNext b 1)
    if badSpec spec then plstateTrap t (x.rg a) 0x02 2
    else
      match backingFault t x.ctx spec b2 with
      | some (c, f, r) => pltTrap t c (wd f) 0x02 r
      | none => pltIssue t (nodeOfSlot t.cur) 0x02 (.gg d) l (x.rg a) spec b2)

/-- PATT and PATT.T (R324). -/
def pattOp (i : Instr) (op : Nat) (d a : Reg) (l : BitVec 4) (s : State) : Out :=
  issue i s (fun t =>
    let x := t.slot t.cur
    if 4 ≤ x.attach.length then plstateTrap t (x.rg a) op 7
    else pltIssue t (nodeOfSlot t.cur) op (.gg d) l (x.rg a) 0#64 0#64)

/-- PATT (R324). -/
def execPatt (d a : Reg) (l : BitVec 4) (s : State) : Out := pattOp (.patt d a l) 0x03 d a l s
/-- PATT.T (R324). -/
def execPattT (d a : Reg) (l : BitVec 4) (s : State) : Out := pattOp (.pattT d a l) 0x04 d a l s

/-- PDET (R325). -/
def execPdet (a : Reg) (l : BitVec 4) (s : State) : Out :=
  issue (.pdet a l) s (fun t =>
    let x := t.slot t.cur
    let r := x.rg a
    withRef t 0x05 r (fun n =>
      if x.attach.any (fun k => decide (refKey k = refKey r)) then
        pltIssue (t.updSlot t.cur (fun y => { y with attach := eraseFirst (fun k => decide (refKey k = refKey r)) y.attach }))
          n 0x05 .none l r 0#64 0#64
      else plstateTrap t r 0x05 8))

/-- PSEAL and PEVICT (R326, R327): the wait of a FENCE.DEV, its deferred-fault record included, then the reference. -/
def fencedRef (i : Instr) (op : Nat) (a : Reg) (l : BitVec 4) (s : State) : Out :=
  issue i s (fun t =>
    let x := t.slot t.cur
    if x.dfr.isSome && !x.inh then go (takeDeferred t t.cur x.pc)
    else withRef t op (x.rg a) (fun n => pltIssue t n op .none l (x.rg a) 0#64 0#64))

/-- PSEAL (R326). -/
def execPseal (a : Reg) (l : BitVec 4) (s : State) : Out := fencedRef (.pseal a l) 0x06 a l s
/-- PEVICT (R327). -/
def execPevict (a : Reg) (l : BitVec 4) (s : State) : Out := fencedRef (.pevict a l) 0x07 a l s
/-- PFREE (R328). -/
def execPfree (a : Reg) (l : BitVec 4) (s : State) : Out :=
  issue (.pfree a l) s (fun t =>
    let r := (t.slot t.cur).rg a
    withRef t 0x08 r (fun n => pltIssue t n 0x08 .none l r 0#64 0#64))

/-! ### The table (R322 to R330) -/

/-- What a table step answers. -/
inductive TableRes where
  /-- G[d], G[(d+1) mod 32] -/
  | ok (a b : Word)
  /-- PLMISS (`miss`) or PLSTATE with the state found and the reason -/
  | fail (miss : Bool) (st reason : Nat)
  /-- the reply waits for the eviction of an entry -/
  | wait (e : Nat)

/-- The entry of a context that holds a name (R322). -/
def findPlate (s : State) (n ctx : Nat) (name : Word) : Option (Nat × Plate) :=
  ((List.range 64).map (fun e => (e, s.plate n e))).find? (fun p =>
    decide (p.2.st ≠ .free) && decide (p.2.name = name) && decide (p.2.ctx = ctx))

/-- A reference's entry is stale (R321, reason 1). -/
def stale (p : Plate) (ctx : Nat) (r : Word) : Bool :=
  decide (p.st = .free) || decide (p.ctx ≠ ctx) || decide (p.egen ≠ refGen r)

/-- The space of an entry is taken (R314). -/
def Plate.holds (p : Plate) (kind : Bool) (u g : Nat) : Bool :=
  decide (p.st ≠ .free) && decide (p.st ≠ .evicted) && decide (p.kind = kind) && decide (p.unit = u)
    && decide (p.base ≤ g) && decide (g < p.base + p.len)

/-- First granule of a unit, and the first that it lacks (R314). -/
def granules (s : State) (n ctx : Nat) (kind : Bool) (u : Nat) : Nat × Nat :=
  if kind then
    let rb := (s.tile (n * 16 + u)).rbus
    (0, if rb = 0 then 8 else if rb = 1 then 4 else 0)
  else (16 - (match s.context ctx with | some c => c.plateG | none => 0), 16)

/-- The lowest base of a unit where `len` granules are free. -/
def fitUnit (s : State) (n ctx : Nat) (kind : Bool) (len u : Nat) : Option (Nat × Nat) :=
  let g := granules s n ctx kind u
  let free := fun k => (List.range 64).all (fun e => !(s.plate n e).holds kind u k)
  ((List.range 16).find? (fun b => decide (g.1 ≤ b) && decide (b + len ≤ g.2)
    && (List.range len).all (fun k => free (b + k)))).map (fun b => (u, b))

/-- First fit: lowest unit, then lowest base (R323). -/
def firstFit (s : State) (n ctx : Nat) (spec : Word) : Option (Nat × Nat) :=
  let kind := spec.getLsbD 36
  let len := bits spec.toNat 3 0
  let us := if spec.getLsbD 47 then List.range (if kind then 16 else 64) else [bits spec.toNat 45 40]
  us.findSome? (fitUnit s n ctx kind len)

/-- The entry that firmware evicts for space (R323, R329): SEALED, of the kind, PINS 0, BV 1, of the named unit; least
LAST, then lowest number. -/
def evictable (s : State) (n : Nat) (spec : Word) : Option Nat :=
  let ok := fun (p : Plate) => decide (p.st = .sealed) && decide (p.kind = spec.getLsbD 36) && decide (p.pins = 0#16) && p.bv
    && (spec.getLsbD 47 || decide (p.unit = bits spec.toNat 45 40))
  leastBy (fun e => (s.plate n e).last.toNat * 64 + e) ((List.range 64).filter (fun e => ok (s.plate n e)))

/-- The entry becomes EVICTING (R327). -/
def startEvict (s : State) (n e : Nat) : State := s.setPlate n e { s.plate n e with st := .evicting }

/-- PMAKE's step (R323). -/
def tablePmake (s : State) (n ctx launch : Nat) (name spec b2 : Word) : State × TableRes :=
  let found := findPlate s n ctx name
  let kind := spec.getLsbD 36
  let len := bits spec.toNat 3 0
  let again := match found with | some (_, p) => decide (p.st = .evicted) | none => false
  match found with
  | some (_, p) =>
    if p.st ≠ .evicted then (s, .ok (missWord 7 p.st.code) 0#64)
    else if p.kind ≠ kind ∨ p.len ≠ len then (s, .ok (missWord 8 5) 0#64)
    else tablePlace again
  | none => tablePlace again
where
  /-- The part of the step from the choice of an entry on. -/
  tablePlace (again : Bool) : State × TableRes :=
    let entry := if again then (findPlate s n ctx name).map (fun p => p.1)
      else (List.range 64).find? (fun e => decide ((s.plate n e).st = .free))
    match entry with
    | none => (s, .ok (missWord 6 0) 0#64)
    | some e =>
      match firstFit s n ctx spec with
      | none =>
        match evictable s n spec with
        | some v => (startEvict s n v, .wait v)
        | none => (s, .ok (missWord 5 0) 0#64)
      | some (u, b) =>
        let p := s.plate n e
        let q := if again then { p with fromb := true }
          else { p with fromb := spec.getLsbD 48, bv := decide (b2 ≠ 0#64), back := bits b2.toNat 41 0, name := name, ctx := ctx }
        let q := { q with kind := spec.getLsbD 36, len := bits spec.toNat 3 0, unit := u, base := b,
                          egen := q.egen + 1#12, dirty := q.bv, pins := 0#16, launch := launch, st := .filling }
        (s.setPlate n e q, .ok (refWord n e q) (plateWord n q))

/-- PATT's step (R324); an attach is recorded in its slot. -/
def tablePatt (s : State) (n ctx launch sl : Nat) (name : Word) (trap : Bool) : State × TableRes :=
  let miss := fun code st => (s, if trap then TableRes.fail true st code else .ok 0#64 (missWord code st))
  let attach := fun (e : Nat) (p : Plate) =>
    let c := (s.node n).attaches + 1#32
    let q := { p with pins := p.pins + 1#16, last := c }
    let r := refWord n e q
    let s := (s.setPlate n e q).updNode n (fun x => { x with attaches := c })
    (s.updSlot sl (fun x => { x with attach := x.attach ++ [r] }), TableRes.ok (plateWord n q) r)
  match findPlate s n ctx name with
  | none => miss 1 0
  | some (e, p) =>
    match p.st with
    | .sealed => attach e p
    | .evicting => miss 4 4
    | .evicted => miss 3 5
    | _ => if p.launch = launch then attach e { p with st := .open_ } else miss 2 p.st.code

/-- PSEAL's step (R326). -/
def tablePseal (s : State) (n ctx launch : Nat) (r : Word) : State × TableRes :=
  let e := refEntry r
  let p := s.plate n e
  if stale p ctx r then (s, .fail false p.st.code 1)
  else
    match p.st with
    | .sealed => (s.setPlate n e { p with dirty := p.bv }, .ok 0#64 0#64)
    | .filling | .open_ =>
      if p.launch ≠ launch then (s, .fail false p.st.code 6)
      else (s.setPlate n e { p with st := .sealed, dirty := p.bv && !p.fromb, fromb := false }, .ok 0#64 0#64)
    | _ => (s, .fail false p.st.code 3)

/-- The checks of an eviction after the stale check, in R327's order; 0 where all pass. -/
def evictReason (p : Plate) : Nat :=
  if p.st ≠ .sealed then 3 else if p.pins ≠ 0#16 then 4 else if !p.bv then 5 else 0

/-- PEVICT's step (R327), and that of a PLATEOP (R329). -/
def tableEvict (s : State) (n e : Nat) (isStale : Bool) : State × TableRes :=
  let p := s.plate n e
  if isStale then (s, .fail false p.st.code 1)
  else
    let k := evictReason p
    if k ≠ 0 then (s, .fail false p.st.code k) else (startEvict s n e, .wait e)

/-- PFREE's step (R328). -/
def tablePfree (s : State) (n ctx launch : Nat) (r : Word) : State × TableRes :=
  let e := refEntry r
  let p := s.plate n e
  if stale p ctx r then (s, .fail false p.st.code 1)
  else if p.st = .evicting then (s, .fail false 4 3)
  else if (p.st = .filling ∨ p.st = .open_) ∧ p.launch ≠ launch then (s, .fail false p.st.code 6)
  else if p.pins ≠ 0#16 then (s, .fail false p.st.code 4)
  else (s.setPlate n e { p with st := .free, name := 0#64 }, .ok 0#64 0#64)

/-- The op of a host PLATEOP at the table, beside those of R319. -/
def opHostEvict : BitVec 7 := 0#7

/-- One operation at the table of node `n` (R330). -/
def tableStep (s : State) (n : Nat) (r : Req) : State × TableRes :=
  let sl := match r.own with | .slot sl _ => sl | _ => 0
  let k := (s.slot sl).launch
  match r.op with
  | .plt op a b b2 =>
    if op = 0x01#7 then
      (s, .ok (match findPlate s n r.ctx a with | some (e, p) => refWord n e p | none => missWord 1 0) 0#64)
    else if op = 0x02#7 then tablePmake s n r.ctx k a b b2
    else if op = 0x03#7 then tablePatt s n r.ctx k sl a false
    else if op = 0x04#7 then tablePatt s n r.ctx k sl a true
    else if op = 0x05#7 then (detachPlate s a, .ok 0#64 0#64)
    else if op = 0x06#7 then tablePseal s n r.ctx k a
    else if op = 0x07#7 then tableEvict s n (refEntry a) (stale (s.plate n (refEntry a)) r.ctx a)
    else if op = 0x08#7 then tablePfree s n r.ctx k a
    else
      match findPlate s n r.ctx a with
      | some (e, _) => tableEvict s n e false
      | none => (s, .fail false 0 1)
  | _ => (s, .ok 0#64 0#64)

/-- The pair of result words as a reply. -/
def pairVec (a b : Word) : Vec := BitVec.ofNat 256 (a.toNat + b.toNat * 2 ^ 64)

/-- The answer of a table step leaves for its requester (R320, R321). -/
def tableAnswer (s : State) (r : Req) (v : TableRes) : State :=
  match v with
  | .ok a b => finishReq s r (pairVec a b) none
  | .wait e => s.stageReq r.id (.evicting e)
  | .fail miss st k =>
    finishReq s r 0#256 (some { cause := if miss then causePLMISS else causePLSTATE, faddr := r.ea,
                                finfo := r.info ||| wd (st * 2 ^ 8 + k) })

/-- The oldest request in the queue of a node's plate table. -/
def oldestAtTable (s : State) (n : Nat) : Option Req :=
  leastBy (fun r => r.stamp) (s.reqs.filter (fun r => decide (r.stage = .queued) && decide (r.tgt = .plates n)))

/-- PLATE_TABLE_STEP (R330). -/
def execPlateTableStep (node : Nat) (s : State) : Out :=
  match oldestAtTable s node with
  | none => go s
  | some r => let t := tableStep s node r; go (tableAnswer t.1 r t.2)

/-- The write-back of an entry is done: its hart has nothing left to write (R327). -/
def writtenBack (s : State) (n e : Nat) : Option Nat :=
  ((s.node n).harts.find? (fun h => match h.2.work with
    | .evict k _ => decide (k = e) && decide (h.2.phase = .tag)
    | _ => false)).map (fun h => h.1)

/-- Requests that wait for the eviction of an entry: PMAKE takes its step again, the others reply (R323, R327). -/
def wakeEvicted (s : State) (n e : Nat) : State :=
  (s.reqs.filter (fun r => decide (r.stage = .evicting e) && decide (r.tgt = .plates n))).foldl (fun s r =>
    match r.op with
    | .plt op _ _ _ => if op = 0x02#7 then s.stageReq r.id .queued else finishReq s r 0#256 none
    | _ => s) s

/-- EVICT_COMPLETE (R327): the write-back is performed, or none is needed; the space is freed. -/
def execEvictComplete (node e : Nat) (s : State) : Out :=
  let p := s.plate node e
  if p.st ≠ .evicting then go s
  else
    let fin := fun (s : State) => wakeEvicted (s.setPlate node e { p with st := .evicted, dirty := false }) node e
    if !p.dirty then go (fin s)
    else
      match writtenBack s node e with
      | some h => go (fin (s.updNode node (fun x => { x with harts := Tab.drop x.harts h })))
      | none => go s

end Sys2Proof.Machine
end

