-- ==== Sys2Proof/Machine/Engine.lean ====
section
/-! DEFINITION. The ECMD words of engines 0, 1 and 2 at issue (R258, R259, R267 to R275, R288 to R290) and the ECTL major
(R273). What the engines then do stands in Burin.lean and Harts.lean. -/

namespace Sys2Proof.Machine

/-! ### Issue of a command -/

/-- An ENGFAULT trap (R275). -/
def engTrap (s : State) (eng reason : Nat) (a : Word) : Out := go (trapHere s causeENGFAULT a (infoEng eng reason))

/-- FINFO of an ALIGN or ACCESS trap of an ECMD, for a perform of `2^k` bytes (R162). -/
def infoCmd (x : Slot) (k : Nat) : Word := infoAcc x.pc 0 k 0 0x32

/-- The command that the current slot issues, with its captured operands (R271, R288). -/
def mkCmd (s : State) (kind : CmdKind) (a b : Word) (desc : List Word) (sg : BitVec 2) (rt : Nat) (mode : Bool) : Cmd :=
  let x := s.slot s.cur
  { id := s.nextId, kind := kind, sl := s.cur, th := x.th, ctx := x.ctx, launch := x.launch, pca := x.pc, a := a, b := b,
    desc := desc, sg := sg, rt := rt, mode := mode, nextJ := 0, nextR := 0 }

/-- The command issues: it retires, opens its window and stands in the engine-pending latch (R70, R71, R206). -/
def queueCmd (s : State) (l : BitVec 4) (c : Cmd) (f : Slot → Slot) : Out :=
  let t := { s with nextId := s.nextId + 1 }
  go (t.updSlot t.cur (fun x =>
    f { ((x.retire (x.pc + 4)).openWin c.id l.toNat 0#48) with latch := some c }))

/-- Bit `t` of the named mask (R310). -/
def Slot.nameTag (x : Slot) (t : Nat) : Slot := { x with named := x.named ||| (1#64 <<< t) }

/-! ### Ranges of an operand (R267, R268, R274) -/

/-- The first failing word of a range from `a` to `hi`, with its reason. Every check of R181 has one answer over an
aligned block of 32 KiB, so that the first word of each such block is examined. -/
def spanCheck (s : State) (ctx : Nat) (n : Need) (a hi : Int) : Nat → Option (Nat × Nat)
  | 0 => none
  | k + 1 =>
    let w := (a % (2 ^ 52 : Nat)).toNat
    match checkAddr s ctx n w with
    | .error r => some (w, r)
    | .ok _ => let b := (a / 32768 + 1) * 32768; if b ≤ hi then spanCheck s ctx n b hi k else none

/-- The blocks of 32 KiB that a range can touch. -/
def spanFuel (a hi : Int) : Nat := ((hi - a) / 32768 + 2).toNat

/-- AEXT0 to AEXT3 of a list of captured descriptors, as numbers. -/
def extOf (desc : List Word) (i : Nat) : Nat := (nth 0#64 desc i).toNat
/-- ASTR0 to ASTR3, signed. -/
def strOf (desc : List Word) (i : Nat) : Int := (nth 0#64 desc (4 + i)).toInt
/-- K (R264). -/
def kBlocks (desc : List Word) : Nat := extOf desc 1 * extOf desc 2 * extOf desc 3

/-- The extents and strides lie in their ranges (R272, R274 check 6). -/
def goodLayout (desc : List Word) : Bool :=
  decide (1 ≤ extOf desc 0) && decide (extOf desc 0 ≤ 32)
  && [1, 2, 3].all (fun i => decide (1 ≤ extOf desc i) && decide (extOf desc i ≤ 4096))
  && decide (kBlocks desc ≤ 4096)
  && [0, 1, 2, 3].all (fun i => decide (-(2 ^ 31 : Nat) ≤ strOf desc i) && decide (strOf desc i < (2 ^ 31 : Nat))
      && decide (strOf desc i % 8 = 0))

/-- The address of an A block (R268), before reduction mod 2^52. -/
def aBlock (a : Word) (desc : List Word) (r j : Nat) : Int :=
  let e1 := extOf desc 1
  let e2 := extOf desc 2
  (ptrAddr a : Int) + strOf desc 0 * r + strOf desc 1 * (j % e1 : Nat) + strOf desc 2 * (j / e1 % e2 : Nat)
    + strOf desc 3 * (j / (e1 * e2) : Nat)

/-- The extreme corners of the A layout: first byte of the lowest, and first byte of the last word of the highest block. -/
def aCorners (a : Word) (desc : List Word) : Int × Int :=
  let u : Int := blockStride (ptrL a) (fmtS (ptrFmt a))
  let t := [0, 1, 2, 3].map (fun i => strOf desc i * ((extOf desc i : Int) - 1))
  ((ptrAddr a : Int) + (t.map (fun v => min v 0)).foldl (· + ·) 0,
   (ptrAddr a : Int) + (t.map (fun v => max v 0)).foldl (· + ·) 0 + u - 8)

/-- The node whose node memory holds an address of this module, if one does. -/
def storeNode (s : State) (ctx : Nat) (a : Int) : Option Nat :=
  match checkAddr s ctx Need.load (a % (2 ^ 52 : Nat)).toNat with
  | .ok (.mem loc) => if isStore loc then some (ownerNode 0 loc) else none
  | _ => none

/-- The first failing word of the B region, column by column. -/
def bSpan (s : State) (ctx : Nat) (b : Word) (cs len : Nat) : Option (Nat × Nat) :=
  (List.range 8).findSome? (fun c =>
    let lo : Int := ((ptrAddr b + c * cs : Nat) : Int)
    let hi : Int := lo + len - 8
    spanCheck s ctx Need.load lo hi (spanFuel lo hi))

/-- The B region meets both conditions of R267. -/
def goodB (s : State) (ctx tile : Nat) (b : Word) (cs len : Nat) : Bool :=
  match checkAddr s ctx Need.load (ptrAddr b) with
  | .ok (.mem loc) =>
    isBsram loc && decide ((loc - 0x28000000000) / 131072 = tile) && decide (loc % 131072 < cs)
      && decide (loc % 131072 + len ≤ cs)
  | _ => false

/-! ### Engine 0 (R269 to R271, R274) -/

/-- Checks 1 and 2 or 3 of R274 for an engine-0 command. -/
def ringChecks (s : State) (alloc : Bool) (k : Out) : Out :=
  let x := s.slot s.cur
  if (s.tile (tileOfSlot s.cur)).rbus = 2 then engTrap s 0 10 0#64
  else if alloc && decide (2 ≤ x.owned.length) then engTrap s 0 1 0#64
  else if !alloc && x.owned.isEmpty then engTrap s 0 2 0#64 else k

/-- The slot's newest and oldest ring tiles (R259). -/
def newest (x : Slot) : Nat := x.owned.getLast?.getD 0
def oldest (x : Slot) : Nat := x.owned.head?.getD 0

/-- MMAZ (R271). -/
def execMmaz (l : BitVec 4) (s : State) : Out :=
  issue (.mmaz l) s (fun t =>
    ringChecks t true (
      let x := t.slot t.cur
      let mode := (nth 0#64 x.edesc0.toList 8).getLsbD 0
      queueCmd t l (mkCmd t .mmaz 0#64 0#64 [] 0#2 t.nextId mode) (fun y => { y with owned := y.owned ++ [t.nextId] })))

/-- MMA (R271, R274). -/
def execMma (a b : Reg) (l : BitVec 4) (g : BitVec 2) (s : State) : Out :=
  issue (.mma a b l g) s (fun t =>
    let x := t.slot t.cur
    let pa := x.rg a
    let pb := x.rg b
    let desc := x.edesc0.toList.take 8
    let tile := tileOfSlot t.cur
    let cs := colStride t tile
    let len := kBlocks desc * blockStride (ptrL pb) (fmtS (ptrFmt pb))
    let corners := aCorners pa desc
    ringChecks t false (
      if fmtReason (ptrFmt pa) (ptrL pa) ≠ 0 then go (fmtTrap t pa (fmtReason (ptrFmt pa) (ptrL pa)))
      else if fmtReason (ptrFmt pb) (ptrL pb) ≠ 0 then go (fmtTrap t pb (fmtReason (ptrFmt pb) (ptrL pb)))
      else if !isPlanes (ptrFmt pa) then go (fmtTrap t pa 7)
      else if !isPlanes (ptrFmt pb) then go (fmtTrap t pb 7)
      else if ptrL pa ≠ ptrL pb then engTrap t 0 4 0#64
      else if !goodLayout desc then engTrap t 0 3 0#64
      else if ptrAddr pa % 8 ≠ 0 then accTrap t causeALIGN 1 (ptrAddr pa) (infoCmd x 3)
      else if ptrAddr pb % 8 ≠ 0 then accTrap t causeALIGN 1 (ptrAddr pb) (infoCmd x 3)
      else
        match spanCheck t x.ctx Need.load corners.1 corners.2 (spanFuel corners.1 corners.2) with
        | some (f, r) => accTrap t causeACCESS r f (infoCmd x 3)
        | none =>
          match bSpan t x.ctx pb cs len with
          | some (f, r) => accTrap t causeACCESS r f (infoCmd x 3)
          | none =>
            if storeNode t x.ctx corners.1 = none ∨ storeNode t x.ctx corners.1 ≠ storeNode t x.ctx corners.2 then
              engTrap t 0 5 pa
            else if !goodB t x.ctx tile pb cs len then engTrap t 0 6 pb
            else queueCmd t l (mkCmd t .mma pa pb desc g (newest x) false) id))

/-- RFREE (R271). -/
def execRfree (l : BitVec 4) (s : State) : Out :=
  issue (.rfree l) s (fun t =>
    ringChecks t false (
      queueCmd t l (mkCmd t .rfree 0#64 0#64 [] 0#2 (oldest (t.slot t.cur)) false) (fun y => { y with owned := y.owned.drop 1 })))

/-! ### Engine 1 (R269 to R271, R274, R277) -/

/-- Element size of an FP destination (R277). -/
def epiSize (f : Nat) : Nat := if f = 0x0A then 4 else 2

/-- Writes of one block of a bit-plane destination: the header, the planes, and for an odd S the 4 bytes of padding (R41). -/
def epiBlock (f : Nat) : Nat := fmtS f + 1 + fmtS f % 2

/-- How many writes an EPI makes: one for each element, or those of eight blocks. -/
def epiCount (f : Nat) : Nat := if isPlanes f then 8 * epiBlock f else 256

/-- Address and size of write `i` of an EPI (R277). -/
def epiWriteAt (dst rs : Word) (i : Nat) : Nat × Nat :=
  let f := ptrFmt dst
  if isPlanes f then
    let n := epiBlock f
    let base := ptrAddr dst + i / n * blockStride 5 (fmtS f)
    if i % n = 0 then (base % 2 ^ 52, 8) else ((base + 8 + 4 * (i % n - 1)) % 2 ^ 52, 4)
  else
    let size := epiSize f
    let row := if rs = 0#64 then 8 * size else rs.toNat
    ((ptrAddr dst + i / 8 * row + i % 8 * size) % 2 ^ 52, size)

/-- The first failing write of an EPI's destination: address, size and reason; node memory of this module is needed. -/
def epiDestFault (s : State) (ctx : Nat) (dst rs : Word) : Option (Nat × Nat × Nat) :=
  (List.range (epiCount (ptrFmt dst))).findSome? (fun i =>
    let w := epiWriteAt dst rs i
    match checkAddr s ctx Need.store w.1 with
    | .error r => some (w.1, w.2, r)
    | .ok (.mem loc) => if isStore loc then none else some (w.1, w.2, 10)
    | .ok (.remote _) => some (w.1, w.2, 10))

/-- The first failing word of the scale-and-bias table (R277). -/
def epiTableFault (s : State) (ctx : Nat) (sbp : Word) : Option (Nat × Nat) :=
  if sbp = 0#64 then none else checkRange s ctx Need.load (ptrAddr sbp) 8 8

/-- EPI (R270, R271, R274). An ALIGN trap for ROWSTRIDE names the destination address in FADDR, and the element's size: the
model's choice, since R274 gives no address for a stride (log entry 108). -/
def execEpi (a b : Reg) (l : BitVec 4) (s : State) : Out :=
  issue (.epi a b l) s (fun t =>
    let x := t.slot t.cur
    let dst := x.rg a
    let ctl := x.rg b
    let f := ptrFmt dst
    let sbp := x.edesc1.get 0
    let rs := x.edesc1.get 1
    let size := if isPlanes f then 8 else epiSize f
    if x.owned.isEmpty then engTrap t 1 2 0#64
    else if fmtReason f (ptrL dst) ≠ 0 then go (fmtTrap t dst (fmtReason f (ptrL dst)))
    else if !isPlanes f && decide (f ≠ 8) && decide (f ≠ 9) && decide (f ≠ 0x0A) then engTrap t 1 7 0#64
    else if bits ctl.toNat 9 8 = 3 then engTrap t 1 8 0#64
    else if isPlanes f && decide (ptrL dst ≠ 5) then engTrap t 1 9 0#64
    else if ptrAddr dst % size ≠ 0 ∨ (!isPlanes f ∧ rs.toNat % size ≠ 0) then
      accTrap t causeALIGN 1 (ptrAddr dst) (infoCmd x (Nat.log2 size))
    else if ptrAddr sbp % 8 ≠ 0 then accTrap t causeALIGN 1 (ptrAddr sbp) (infoCmd x 3)
    else
      match epiTableFault t x.ctx sbp with
      | some (w, r) => accTrap t causeACCESS r w (infoCmd x 3)
      | none =>
        match epiDestFault t x.ctx dst rs with
        | some (w, n, r) => accTrap t causeACCESS r w (infoCmd x (Nat.log2 n))
        | none =>
          queueCmd t l (mkCmd t .epi dst ctl [sbp, rs] 0#2 (oldest x) false)
            (fun y => { y with owned := y.owned.drop 1 }.nameTag (bits ctl.toNat 5 0)))

/-! ### Engine 2 (R288 to R290) -/

/-- Need of a hart's access (R33). -/
def Need.byHart (n : Need) : Need := { n with hart := true }

/-- An engine-2 command with a descriptor of `n` bytes (R290). The issue check of the descriptor is made as for the hart's access
that it announces, so that a descriptor in code-bank space passes here: the spec does not say whose access it counts as under R33,
and this is the model's choice (log entry 112). -/
def hartCmd (i : Instr) (kind : CmdKind) (n : Nat) (a b : Reg) (l : BitVec 4) (s : State) : Out :=
  issue i s (fun t =>
    let x := t.slot t.cur
    let p := x.rg a
    let ctl := x.rg b
    if ptrAddr p % 8 ≠ 0 then accTrap t causeALIGN 1 (ptrAddr p) (infoCmd x 3)
    else
      match checkRange t x.ctx Need.load.byHart (ptrAddr p) 8 (n / 8) with
      | some (w, r) => accTrap t causeACCESS r w (infoCmd x 3)
      | none =>
        match checkRange t x.ctx Need.store.byHart (ptrAddr p + n - 8) 8 1 with
        | some (w, r) => accTrap t causeACCESS r w (infoCmd x 3)
        | none =>
          if bits ctl.toNat 63 10 ≠ 0 ∨ bits ctl.toNat 7 6 ≠ 0 then engTrap t 2 11 0#64
          else queueCmd t l (mkCmd t kind p ctl [] 0#2 0 false) (fun y => y.nameTag (bits ctl.toNat 5 0)))

/-- COPY (R288, R295). -/
def execCopy (a b : Reg) (l : BitVec 4) (s : State) : Out := hartCmd (.copy a b l) .copy 256 a b l s
/-- GATHER (R288, R298). -/
def execGather (a b : Reg) (l : BitVec 4) (s : State) : Out := hartCmd (.gather a b l) .gather 64 a b l s
/-- SCATTER (R288, R298). -/
def execScatter (a b : Reg) (l : BitVec 4) (s : State) : Out := hartCmd (.scatter a b l) .scatter 64 a b l s
/-- BINS (R288, R300). -/
def execBins (a b : Reg) (l : BitVec 4) (s : State) : Out := hartCmd (.bins a b l) .bins 128 a b l s
/-- MCAST (R288, R302). -/
def execMcast (a b : Reg) (l : BitVec 4) (s : State) : Out := hartCmd (.mcast a b l) .mcast 64 a b l s
/-- FILLW (R288, R305). -/
def execFillw (a b : Reg) (l : BitVec 4) (s : State) : Out := hartCmd (.fillw a b l) .fillw 32 a b l s
/-- FREEB (R288, R304). -/
def execFreeb (a : Reg) (l : BitVec 4) (s : State) : Out :=
  issue (.freeb a l) s (fun t =>
    queueCmd t l (mkCmd t .freeb ((t.slot t.cur).rg a) 0#64 [] 0#2 0 false) id)

/-! ### ECTL (R272, R273, R276) -/

/-- A descriptor register of engine 0 or 1. -/
def readDesc (x : Slot) (e n : Nat) : Word :=
  if e = 0 then nth 0#64 x.edesc0.toList n else nth 0#64 x.edesc1.toList n

/-- Writes a descriptor register: all 64 bits. -/
def Slot.writeDesc (x : Slot) (e n : Nat) (v : Word) : Slot :=
  if e = 0 then { x with edesc0 := if h : n < 13 then x.edesc0.set n v h else x.edesc0 }
  else { x with edesc1 := if h : n < 2 then x.edesc1.set n v h else x.edesc1 }

/-- An engine status word. -/
def Slot.estat (x : Slot) (e : Nat) : Word := if e = 0 then x.estat0 else x.estat1
/-- Clears an engine status word. -/
def Slot.clearEstat (x : Slot) (e : Nat) : Slot := if e = 0 then { x with estat0 := 0#64 } else { x with estat1 := 0#64 }

/-- ESET (R273). -/
def execEset (e : BitVec 4) (a : Reg) (n : BitVec 5) (s : State) : Out :=
  issue (.eset e a n) s (fun t => finish t (fun x => x.writeDesc e.toNat n.toNat (x.rg a)))
/-- EGET (R273). -/
def execEget (e : BitVec 4) (d : Reg) (n : BitVec 5) (s : State) : Out :=
  issue (.eget e d n) s (fun t => writeG t d (readDesc (t.slot t.cur) e.toNat n.toNat))
/-- EPOP (R273). -/
def execEpop (e : BitVec 4) (d : Reg) (s : State) : Out :=
  issue (.epop e d) s (fun t => finish t (fun x => (x.setG d (x.estat e.toNat)).clearEstat e.toNat))
/-- EWAIT (R273). -/
def execEwait (e : BitVec 4) (d : Reg) (s : State) : Out :=
  issue (.ewait e d) s (fun t => writeG t d ((t.slot t.cur).estat e.toNat))
/-- ETEST (R273). -/
def execEtest (e : BitVec 4) (d : Reg) (s : State) : Out :=
  issue (.etest e d) s (fun t => writeG t d (wd (incomplete t t.cur e.toNat)))

end Sys2Proof.Machine
end

