-- ==== Sys2Proof/WellFormed.lean ====
section
/-! DEFINITION. Well-formed instructions: the operand values that the encodings admit (R58, R59, R63 checks 2, 4, 5
and 6), and, for events, identities within the ranges of R9, R21 and R358. -/

namespace Sys2Proof

/-- The special registers of R386 and R84. -/
def srAssigned (n : BitVec 12) : Bool :=
  [0x001, 0x002, 0x003, 0x004, 0x005, 0x010, 0x011, 0x012, 0x018, 0x019, 0x01A, 0x020, 0x021, 0x028, 0x030, 0x031, 0x032, 0x033, 0x034, 0x038, 0x050, 0x051, 0x052, 0x053, 0x054, 0x055, 0x056, 0x057, 0x058, 0x059, 0x05A, 0x05B, 0x05C, 0x05D, 0x05E, 0x05F].contains n.toNat

/-- The descriptor registers of R272. -/
def descriptorOk (e : BitVec 4) (n : BitVec 5) : Bool :=
  (e.toNat == 0 && (n.toNat ≤ 8 || n.toNat == 12)) || (e.toNat == 1 && n.toNat ≤ 1)

/-- No sync code 0b11, no sync mode on a relaxed access (R77, R160). -/
def syncOk (r : BitVec 1) (s : BitVec 2) : Bool := s.toNat != 3 && (r.toNat == 0 || s.toNat == 0)

/-- A relaxed store has no lookahead count (R70). -/
def relaxedStoreOk (r : BitVec 1) (l : BitVec 4) : Bool := r.toNat == 0 || l.toNat == 0

/-- Ranges of R9 and R21 for the flat numbers of agents. -/
def slotOk (n : Nat) : Bool := n < 5242880
def coreOk (n : Nat) : Bool := n < 655360
def tileOk (n : Nat) : Bool := n < 163840
def nodeOk (n : Nat) : Bool := n < 10240

/-- Whether the operands lie in the ranges their fields and identities admit. -/
def WellFormed : Instr → Bool
  | .add _ _ _ => true
  | .sub _ _ _ => true
  | .mul _ _ _ => true
  | .mulh _ _ _ => true
  | .mulhn _ _ _ => true
  | .div _ _ _ => true
  | .divn _ _ _ => true
  | .rem _ _ _ => true
  | .remn _ _ _ => true
  | .neg _ _ => true
  | .and _ _ _ => true
  | .or _ _ _ => true
  | .xor _ _ _ => true
  | .andn _ _ _ => true
  | .orn _ _ _ => true
  | .shl _ _ _ => true
  | .shr _ _ _ => true
  | .shra _ _ _ => true
  | .rotr _ _ _ => true
  | .cmpeq _ _ _ => true
  | .cmpne _ _ _ => true
  | .cmplt _ _ _ => true
  | .cmpge _ _ _ => true
  | .cmpltn _ _ _ => true
  | .cmpgen _ _ _ => true
  | .min _ _ _ => true
  | .max _ _ _ => true
  | .minn _ _ _ => true
  | .maxn _ _ _ => true
  | .sel _ _ _ => true
  | .clz _ _ => true
  | .ctz _ _ => true
  | .popc _ _ => true
  | .sextb _ _ => true
  | .sexth _ _ => true
  | .sextw _ _ => true
  | .zextb _ _ => true
  | .zexth _ _ => true
  | .zextw _ _ => true
  | .addi _ _ _ => true
  | .andi _ _ _ => true
  | .ori _ _ _ => true
  | .xori _ _ _ => true
  | .shli _ _ _ => true
  | .shri _ _ _ => true
  | .shrai _ _ _ => true
  | .rotri _ _ _ => true
  | .cmpeqi _ _ _ => true
  | .cmpnei _ _ _ => true
  | .cmplti _ _ _ => true
  | .cmpgei _ _ _ => true
  | .cmpltni _ _ _ => true
  | .cmpgeni _ _ _ => true
  | .ldi _ _ => true
  | .ldih _ _ _ => true
  | .addp _ _ _ => true
  | .subp _ _ _ => true
  | .idxp _ _ _ => true
  | .mkp _ _ _ => true
  | .getf _ _ => true
  | .adrp _ _ => true
  | .addpi _ _ _ => true
  | .fpadd _ _ _ => true
  | .fpsub _ _ _ => true
  | .fpmul _ _ _ => true
  | .fpdiv _ _ _ => true
  | .fpfma _ _ _ => true
  | .fpsqrt _ _ => true
  | .fpmin _ _ _ => true
  | .fpmax _ _ _ => true
  | .fpabs _ _ => true
  | .fpneg _ _ => true
  | .fpcmpeq _ _ _ => true
  | .fpcmplt _ _ _ => true
  | .fpcmple _ _ _ => true
  | .fptoi _ _ => true
  | .fptoiz _ _ => true
  | .fpton _ _ => true
  | .itofp _ _ => true
  | .ntofp _ _ => true
  | .fptoh _ _ => true
  | .htofp _ _ => true
  | .fptob _ _ => true
  | .btofp _ _ => true
  | .beq _ _ _ => true
  | .bne _ _ _ => true
  | .blt _ _ _ => true
  | .bge _ _ _ => true
  | .bltn _ _ _ => true
  | .bgen _ _ _ => true
  | .j _ => true
  | .jal _ => true
  | .jr _ => true
  | .jalr _ _ => true
  | .ldb _ _ _ r s _ => syncOk r s
  | .ldh _ _ _ r s _ => syncOk r s
  | .ldw _ _ _ r s _ => syncOk r s
  | .ldd _ _ _ r s _ => syncOk r s
  | .ldnb _ _ _ r s _ => syncOk r s
  | .ldnh _ _ _ r s _ => syncOk r s
  | .ldnw _ _ _ r s _ => syncOk r s
  | .stb _ _ l r s _ => syncOk r s && relaxedStoreOk r l
  | .sth _ _ l r s _ => syncOk r s && relaxedStoreOk r l
  | .stw _ _ l r s _ => syncOk r s && relaxedStoreOk r l
  | .std _ _ l r s _ => syncOk r s && relaxedStoreOk r l
  | .ldv d _ _ _ _ => d.toNat < 16
  | .stv d _ l r _ => d.toNat < 16 && relaxedStoreOk r l
  | .ldbp d _ _ _ _ => d.toNat < 16
  | .stbp d _ l r _ => d.toNat < 16 && relaxedStoreOk r l
  | .aadd _ _ _ _ => true
  | .aand _ _ _ _ => true
  | .aor _ _ _ _ => true
  | .axor _ _ _ _ => true
  | .amin _ _ _ _ => true
  | .amax _ _ _ _ => true
  | .aminn _ _ _ _ => true
  | .amaxn _ _ _ _ => true
  | .aswap _ _ _ _ => true
  | .acas _ _ _ _ => true
  | .afadd _ _ _ _ => true
  | .abump _ _ _ _ => true
  | .atmerge _ _ _ _ => true
  | .aaddRx _ _ => true
  | .aandRx _ _ => true
  | .aorRx _ _ => true
  | .axorRx _ _ => true
  | .aminRx _ _ => true
  | .amaxRx _ _ => true
  | .aminnRx _ _ => true
  | .amaxnRx _ _ => true
  | .afaddRx _ _ => true
  | .atmergeRx _ _ => true
  | .wstate _ _ _ _ => true
  | .wset _ _ _ _ => true
  | .fenceCore => true
  | .fenceNode => true
  | .fenceDev => true
  | .fencePod => true
  | .bclose _ _ => true
  | .btest _ _ => true
  | .waitany _ _ => true
  | .waitall _ => true
  | .ffready _ _ => true
  | .tagclr _ => true
  | .fork _ _ _ => true
  | .spawnat _ _ _ _ => true
  | .join _ _ => true
  | .exit _ => true
  | .yield => true
  | .nextw _ => true
  | .sendr _ _ => true
  | .sendrRl _ _ => true
  | .sendrB _ _ _ => true
  | .sendrRlB _ _ _ => true
  | .takeG _ _ => true
  | .takeV d a => d.toNat < 16 && a.toNat < 16
  | .emptyG _ => true
  | .emptyV a => a.toNat < 16
  | .ptestG _ _ => true
  | .ptestV _ a => a.toNat < 16
  | .self _ => true
  | .hreg _ _ _ => true
  | .plook _ _ _ => true
  | .pmake _ _ _ _ => true
  | .patt _ _ _ => true
  | .pattT _ _ _ => true
  | .pdet _ _ => true
  | .pseal _ _ => true
  | .pevict _ _ => true
  | .pfree _ _ => true
  | .mmaz _ => true
  | .mma _ _ _ _ => true
  | .rfree _ => true
  | .epi _ _ _ => true
  | .copy _ _ _ => true
  | .gather _ _ _ => true
  | .scatter _ _ _ => true
  | .bins _ _ _ => true
  | .mcast _ _ _ => true
  | .freeb _ _ => true
  | .fillw _ _ _ => true
  | .eset e _ n => descriptorOk e n
  | .eget e _ n => descriptorOk e n
  | .epop e _ => e.toNat ≤ 1
  | .ewait e _ => e.toNat ≤ 1
  | .etest e _ => e.toNat ≤ 1
  | .vadd _ _ _ => true
  | .vsub _ _ _ => true
  | .vmul _ _ _ => true
  | .vmad _ _ _ _ => true
  | .vmin _ _ _ => true
  | .vmax _ _ _ => true
  | .vabs _ _ => true
  | .vneg _ _ => true
  | .vadds _ _ _ => true
  | .vsubs _ _ _ => true
  | .vmuls _ _ _ => true
  | .vand _ _ _ => true
  | .vor _ _ _ => true
  | .vxor _ _ _ => true
  | .vandn _ _ _ => true
  | .vshl _ _ _ => true
  | .vshr _ _ _ => true
  | .vshra _ _ _ => true
  | .vcmpeq _ _ _ => true
  | .vcmpne _ _ _ => true
  | .vcmplt _ _ _ => true
  | .vcmple _ _ _ => true
  | .vsel _ _ _ _ => true
  | .vperm _ _ _ _ => true
  | .vcvt _ _ t _ => t.toNat ≤ 8
  | .vqscl _ _ _ => true
  | .vqnt _ _ _ s => 2 ≤ s.toNat && s.toNat ≤ 8
  | .vexp2 _ _ _ => true
  | .vlog2 _ _ _ => true
  | .vrcp _ _ _ => true
  | .vrsq _ _ _ => true
  | .vdot _ _ _ => true
  | .vdots _ _ _ => true
  | .vrsum _ _ => true
  | .vrmin _ _ => true
  | .vrmax _ _ => true
  | .vsplat d _ => d.toNat < 16
  | .vext _ a _ => a.toNat < 16
  | .vins d _ _ => d.toNat < 16
  | .tminit _ => true
  | .tmacc _ _ _ _ => true
  | .tmmrg _ _ _ _ => true
  | .tmfin _ _ _ => true
  | .tmload _ p _ => 2 ≤ p.toNat && p.toNat ≤ 3
  | .nop => true
  | .trap _ _ => true
  | .rte => true
  | .srd _ n => srAssigned n
  | .swr _ n => srAssigned n
  | .bkpt _ => true
  | .parkResume sl => slotOk sl
  | .drainTimeout sl => slotOk sl
  | .portAccept sl => slotOk sl
  | .routeDeliver _ => true
  | .bankPerform _ => true
  | .waitListRetry _ => true
  | .reply _ => true
  | .targetFaultTrap sl => slotOk sl
  | .fenceMarkerReturn sl _ => slotOk sl
  | .summaryRequest sl _ _ => slotOk sl
  | .summaryReply sl _ _ => slotOk sl
  | .landingArrive _ => true
  | .landingTimeout core _ => coreOk core
  | .routeHint _ => true
  | .routeInvalidate _ => true
  | .logAppend _ => true
  | .taskTake core => coreOk core
  | .stealProbe core => coreOk core
  | .stealRecordArrive core => coreOk core
  | .stealRetry sl => slotOk sl
  | .spawnArrive _ => true
  | .nodePartComplete node _ => nodeOk node
  | .doneMessage node _ => nodeOk node
  | .engineDispatch sl => slotOk sl
  | .burinTake tile => tileOk tile
  | .mmaComplete tile => tileOk tile
  | .mmaGranuleStop tile => tileOk tile
  | .epiTake tile => tileOk tile
  | .epiComplete tile => tileOk tile
  | .hartTake node h => nodeOk node && decide (h < 8)
  | .commandComplete node h => nodeOk node && decide (h < 8)
  | .freebArrive _ => true
  | .functionResult sl => slotOk sl
  | .meanResult sl => slotOk sl
  | .tableSwitch tile => tileOk tile
  | .evictComplete node e => nodeOk node && decide (e < 64)
  | .plateTableStep node => nodeOk node
  | .preemptMark _ core => coreOk core
  | .save sl => slotOk sl
  | .saveComplete sl => slotOk sl
  | .restore birth _ => slotOk birth
  | .restoreCodeLoad birth _ => slotOk birth
  | .preemptWithdraw sl => slotOk sl
  | .snoopEvent q _ => decide (q < 4096)
  | .launch q => decide (q < 4096)
  | .placementRetry => true
  | .codeMulticast _ die => decide (die < 10)
  | .codeAck _ node => nodeOk node
  | .wait q => decide (q < 4096)
  | .waitRemap q => decide (q < 4096)
  | .waitTimeout q => decide (q < 4096)
  | .signal q => decide (q < 4096)
  | .plateop q => decide (q < 4096)
  | .nopPacket q => decide (q < 4096)
  | .packetReread q => decide (q < 4096)
  | .download _ => true
  | .ctxset => true
  | .ctxend => true
  | .qreg => true
  | .qrestart => true
  | .qclass => true
  | .memwin => true
  | .podkey => true
  | .registerWrite _ _ => true
  | .hostMemAccess _ _ => true
  | .stateWindowRead _ => true
  | .bar2Write _ _ => true
  | .powerUpReset => true
  | .bucketPeriod node => nodeOk node
  | .thermalThrottle node _ => nodeOk node
  | .droopThrottle node => nodeOk node
  | .droopThrottleEnd node => nodeOk node
  | .thermalShutdown node => nodeOk node
  | .rotorMeeting _ _ => true
  | .relayOffer _ _ => true
  | .frameReceive _ _ _ => true
  | .podPacketArrive _ _ => true
  | .podReceipt _ _ => true
  | .podPacketExpire _ => true
  | .waitingNotice _ => true
  | .remoteReplyTimeout _ => true
  | .summaryPeerTimeout _ => true
  | .summaryResend sl _ _ => slotOk sl
  | .peerLostDeclare _ => true
  | .lossNotice _ => true
  | .podJoin _ _ _ _ => true
  | .keyRotate _ _ => true
  | .keyTimeout _ _ => true
  | .wastedTurn sl => slotOk sl
  | .probeEmptyReply core => coreOk core
  | .thiefAnswer core => coreOk core
  | .failedPresenceWindow _ _ => true
  | .installMessage pos _ => decide (pos < 10560)
  | .unknownCommandCode _ => true
  | .relayDropRefusal _ => true

/-- An instruction word, as opposed to an event of the machine's other agents. -/
def Instr.isWord : Instr → Bool
  | .add _ _ _ => true
  | .sub _ _ _ => true
  | .mul _ _ _ => true
  | .mulh _ _ _ => true
  | .mulhn _ _ _ => true
  | .div _ _ _ => true
  | .divn _ _ _ => true
  | .rem _ _ _ => true
  | .remn _ _ _ => true
  | .neg _ _ => true
  | .and _ _ _ => true
  | .or _ _ _ => true
  | .xor _ _ _ => true
  | .andn _ _ _ => true
  | .orn _ _ _ => true
  | .shl _ _ _ => true
  | .shr _ _ _ => true
  | .shra _ _ _ => true
  | .rotr _ _ _ => true
  | .cmpeq _ _ _ => true
  | .cmpne _ _ _ => true
  | .cmplt _ _ _ => true
  | .cmpge _ _ _ => true
  | .cmpltn _ _ _ => true
  | .cmpgen _ _ _ => true
  | .min _ _ _ => true
  | .max _ _ _ => true
  | .minn _ _ _ => true
  | .maxn _ _ _ => true
  | .sel _ _ _ => true
  | .clz _ _ => true
  | .ctz _ _ => true
  | .popc _ _ => true
  | .sextb _ _ => true
  | .sexth _ _ => true
  | .sextw _ _ => true
  | .zextb _ _ => true
  | .zexth _ _ => true
  | .zextw _ _ => true
  | .addi _ _ _ => true
  | .andi _ _ _ => true
  | .ori _ _ _ => true
  | .xori _ _ _ => true
  | .shli _ _ _ => true
  | .shri _ _ _ => true
  | .shrai _ _ _ => true
  | .rotri _ _ _ => true
  | .cmpeqi _ _ _ => true
  | .cmpnei _ _ _ => true
  | .cmplti _ _ _ => true
  | .cmpgei _ _ _ => true
  | .cmpltni _ _ _ => true
  | .cmpgeni _ _ _ => true
  | .ldi _ _ => true
  | .ldih _ _ _ => true
  | .addp _ _ _ => true
  | .subp _ _ _ => true
  | .idxp _ _ _ => true
  | .mkp _ _ _ => true
  | .getf _ _ => true
  | .adrp _ _ => true
  | .addpi _ _ _ => true
  | .fpadd _ _ _ => true
  | .fpsub _ _ _ => true
  | .fpmul _ _ _ => true
  | .fpdiv _ _ _ => true
  | .fpfma _ _ _ => true
  | .fpsqrt _ _ => true
  | .fpmin _ _ _ => true
  | .fpmax _ _ _ => true
  | .fpabs _ _ => true
  | .fpneg _ _ => true
  | .fpcmpeq _ _ _ => true
  | .fpcmplt _ _ _ => true
  | .fpcmple _ _ _ => true
  | .fptoi _ _ => true
  | .fptoiz _ _ => true
  | .fpton _ _ => true
  | .itofp _ _ => true
  | .ntofp _ _ => true
  | .fptoh _ _ => true
  | .htofp _ _ => true
  | .fptob _ _ => true
  | .btofp _ _ => true
  | .beq _ _ _ => true
  | .bne _ _ _ => true
  | .blt _ _ _ => true
  | .bge _ _ _ => true
  | .bltn _ _ _ => true
  | .bgen _ _ _ => true
  | .j _ => true
  | .jal _ => true
  | .jr _ => true
  | .jalr _ _ => true
  | .ldb _ _ _ _ _ _ => true
  | .ldh _ _ _ _ _ _ => true
  | .ldw _ _ _ _ _ _ => true
  | .ldd _ _ _ _ _ _ => true
  | .ldnb _ _ _ _ _ _ => true
  | .ldnh _ _ _ _ _ _ => true
  | .ldnw _ _ _ _ _ _ => true
  | .stb _ _ _ _ _ _ => true
  | .sth _ _ _ _ _ _ => true
  | .stw _ _ _ _ _ _ => true
  | .std _ _ _ _ _ _ => true
  | .ldv _ _ _ _ _ => true
  | .stv _ _ _ _ _ => true
  | .ldbp _ _ _ _ _ => true
  | .stbp _ _ _ _ _ => true
  | .aadd _ _ _ _ => true
  | .aand _ _ _ _ => true
  | .aor _ _ _ _ => true
  | .axor _ _ _ _ => true
  | .amin _ _ _ _ => true
  | .amax _ _ _ _ => true
  | .aminn _ _ _ _ => true
  | .amaxn _ _ _ _ => true
  | .aswap _ _ _ _ => true
  | .acas _ _ _ _ => true
  | .afadd _ _ _ _ => true
  | .abump _ _ _ _ => true
  | .atmerge _ _ _ _ => true
  | .aaddRx _ _ => true
  | .aandRx _ _ => true
  | .aorRx _ _ => true
  | .axorRx _ _ => true
  | .aminRx _ _ => true
  | .amaxRx _ _ => true
  | .aminnRx _ _ => true
  | .amaxnRx _ _ => true
  | .afaddRx _ _ => true
  | .atmergeRx _ _ => true
  | .wstate _ _ _ _ => true
  | .wset _ _ _ _ => true
  | .fenceCore => true
  | .fenceNode => true
  | .fenceDev => true
  | .fencePod => true
  | .bclose _ _ => true
  | .btest _ _ => true
  | .waitany _ _ => true
  | .waitall _ => true
  | .ffready _ _ => true
  | .tagclr _ => true
  | .fork _ _ _ => true
  | .spawnat _ _ _ _ => true
  | .join _ _ => true
  | .exit _ => true
  | .yield => true
  | .nextw _ => true
  | .sendr _ _ => true
  | .sendrRl _ _ => true
  | .sendrB _ _ _ => true
  | .sendrRlB _ _ _ => true
  | .takeG _ _ => true
  | .takeV _ _ => true
  | .emptyG _ => true
  | .emptyV _ => true
  | .ptestG _ _ => true
  | .ptestV _ _ => true
  | .self _ => true
  | .hreg _ _ _ => true
  | .plook _ _ _ => true
  | .pmake _ _ _ _ => true
  | .patt _ _ _ => true
  | .pattT _ _ _ => true
  | .pdet _ _ => true
  | .pseal _ _ => true
  | .pevict _ _ => true
  | .pfree _ _ => true
  | .mmaz _ => true
  | .mma _ _ _ _ => true
  | .rfree _ => true
  | .epi _ _ _ => true
  | .copy _ _ _ => true
  | .gather _ _ _ => true
  | .scatter _ _ _ => true
  | .bins _ _ _ => true
  | .mcast _ _ _ => true
  | .freeb _ _ => true
  | .fillw _ _ _ => true
  | .eset _ _ _ => true
  | .eget _ _ _ => true
  | .epop _ _ => true
  | .ewait _ _ => true
  | .etest _ _ => true
  | .vadd _ _ _ => true
  | .vsub _ _ _ => true
  | .vmul _ _ _ => true
  | .vmad _ _ _ _ => true
  | .vmin _ _ _ => true
  | .vmax _ _ _ => true
  | .vabs _ _ => true
  | .vneg _ _ => true
  | .vadds _ _ _ => true
  | .vsubs _ _ _ => true
  | .vmuls _ _ _ => true
  | .vand _ _ _ => true
  | .vor _ _ _ => true
  | .vxor _ _ _ => true
  | .vandn _ _ _ => true
  | .vshl _ _ _ => true
  | .vshr _ _ _ => true
  | .vshra _ _ _ => true
  | .vcmpeq _ _ _ => true
  | .vcmpne _ _ _ => true
  | .vcmplt _ _ _ => true
  | .vcmple _ _ _ => true
  | .vsel _ _ _ _ => true
  | .vperm _ _ _ _ => true
  | .vcvt _ _ _ _ => true
  | .vqscl _ _ _ => true
  | .vqnt _ _ _ _ => true
  | .vexp2 _ _ _ => true
  | .vlog2 _ _ _ => true
  | .vrcp _ _ _ => true
  | .vrsq _ _ _ => true
  | .vdot _ _ _ => true
  | .vdots _ _ _ => true
  | .vrsum _ _ => true
  | .vrmin _ _ => true
  | .vrmax _ _ => true
  | .vsplat _ _ => true
  | .vext _ _ _ => true
  | .vins _ _ _ => true
  | .tminit _ => true
  | .tmacc _ _ _ _ => true
  | .tmmrg _ _ _ _ => true
  | .tmfin _ _ _ => true
  | .tmload _ _ _ => true
  | .nop => true
  | .trap _ _ => true
  | .rte => true
  | .srd _ _ => true
  | .swr _ _ => true
  | .bkpt _ => true
  | .parkResume _ => false
  | .drainTimeout _ => false
  | .portAccept _ => false
  | .routeDeliver _ => false
  | .bankPerform _ => false
  | .waitListRetry _ => false
  | .reply _ => false
  | .targetFaultTrap _ => false
  | .fenceMarkerReturn _ _ => false
  | .summaryRequest _ _ _ => false
  | .summaryReply _ _ _ => false
  | .landingArrive _ => false
  | .landingTimeout _ _ => false
  | .routeHint _ => false
  | .routeInvalidate _ => false
  | .logAppend _ => false
  | .taskTake _ => false
  | .stealProbe _ => false
  | .stealRecordArrive _ => false
  | .stealRetry _ => false
  | .spawnArrive _ => false
  | .nodePartComplete _ _ => false
  | .doneMessage _ _ => false
  | .engineDispatch _ => false
  | .burinTake _ => false
  | .mmaComplete _ => false
  | .mmaGranuleStop _ => false
  | .epiTake _ => false
  | .epiComplete _ => false
  | .hartTake _ _ => false
  | .commandComplete _ _ => false
  | .freebArrive _ => false
  | .functionResult _ => false
  | .meanResult _ => false
  | .tableSwitch _ => false
  | .evictComplete _ _ => false
  | .plateTableStep _ => false
  | .preemptMark _ _ => false
  | .save _ => false
  | .saveComplete _ => false
  | .restore _ _ => false
  | .restoreCodeLoad _ _ => false
  | .preemptWithdraw _ => false
  | .snoopEvent _ _ => false
  | .launch _ => false
  | .placementRetry => false
  | .codeMulticast _ _ => false
  | .codeAck _ _ => false
  | .wait _ => false
  | .waitRemap _ => false
  | .waitTimeout _ => false
  | .signal _ => false
  | .plateop _ => false
  | .nopPacket _ => false
  | .packetReread _ => false
  | .download _ => false
  | .ctxset => false
  | .ctxend => false
  | .qreg => false
  | .qrestart => false
  | .qclass => false
  | .memwin => false
  | .podkey => false
  | .registerWrite _ _ => false
  | .hostMemAccess _ _ => false
  | .stateWindowRead _ => false
  | .bar2Write _ _ => false
  | .powerUpReset => false
  | .bucketPeriod _ => false
  | .thermalThrottle _ _ => false
  | .droopThrottle _ => false
  | .droopThrottleEnd _ => false
  | .thermalShutdown _ => false
  | .rotorMeeting _ _ => false
  | .relayOffer _ _ => false
  | .frameReceive _ _ _ => false
  | .podPacketArrive _ _ => false
  | .podReceipt _ _ => false
  | .podPacketExpire _ => false
  | .waitingNotice _ => false
  | .remoteReplyTimeout _ => false
  | .summaryPeerTimeout _ => false
  | .summaryResend _ _ _ => false
  | .peerLostDeclare _ => false
  | .lossNotice _ => false
  | .podJoin _ _ _ _ => false
  | .keyRotate _ _ => false
  | .keyTimeout _ _ => false
  | .wastedTurn _ => false
  | .probeEmptyReply _ => false
  | .thiefAnswer _ => false
  | .failedPresenceWindow _ _ => false
  | .installMessage _ _ => false
  | .unknownCommandCode _ => false
  | .relayDropRefusal _ => false

end Sys2Proof
end

