-- ==== Sys2Proof/Decode.lean ====
section
/-! DEFINITION. Decoding of instruction words (R57 to R65), total on any bytes and rejecting with the reason of R63;
after it the encoder, written from the same encoding tables. -/

namespace Sys2Proof

/-- The outcome of decoding: an instruction, ILL with a reason of R63, or too few bytes for a word. -/
inductive Decoded where
  | ok (i : Instr)
  | ill (reason : Nat)
  | short
  deriving DecidableEq, Repr

/-- The field of `n` bits at bit `lo` (R2, R57). -/
abbrev fld (w : BitVec 32) (lo n : Nat) : BitVec n := w.extractLsb' lo n

/-- Checks 3 to 6 of R63 in their order: must-be-zero field, vector register number, modifier, special register. -/
def checks (mbz vreg modifier sreg : Bool) (i : Instr) : Decoded :=
  if mbz then .ill 3 else if vreg then .ill 4 else if modifier then .ill 5 else if sreg then .ill 6 else .ok i

/-- INT words, major 0x01 (R126). -/
def decodeInt (w : BitVec 32) : Decoded :=
  match (fld w 0 11).toNat with
  | 0x001 => .ok (.add (fld w 21 5) (fld w 16 5) (fld w 11 5))
  | 0x002 => .ok (.sub (fld w 21 5) (fld w 16 5) (fld w 11 5))
  | 0x003 => .ok (.mul (fld w 21 5) (fld w 16 5) (fld w 11 5))
  | 0x004 => .ok (.mulh (fld w 21 5) (fld w 16 5) (fld w 11 5))
  | 0x005 => .ok (.mulhn (fld w 21 5) (fld w 16 5) (fld w 11 5))
  | 0x006 => .ok (.div (fld w 21 5) (fld w 16 5) (fld w 11 5))
  | 0x007 => .ok (.divn (fld w 21 5) (fld w 16 5) (fld w 11 5))
  | 0x008 => .ok (.rem (fld w 21 5) (fld w 16 5) (fld w 11 5))
  | 0x009 => .ok (.remn (fld w 21 5) (fld w 16 5) (fld w 11 5))
  | 0x00A => checks (fld w 11 5 != 0) (false) (false) false (.neg (fld w 21 5) (fld w 16 5))
  | 0x010 => .ok (.and (fld w 21 5) (fld w 16 5) (fld w 11 5))
  | 0x011 => .ok (.or (fld w 21 5) (fld w 16 5) (fld w 11 5))
  | 0x012 => .ok (.xor (fld w 21 5) (fld w 16 5) (fld w 11 5))
  | 0x013 => .ok (.andn (fld w 21 5) (fld w 16 5) (fld w 11 5))
  | 0x014 => .ok (.orn (fld w 21 5) (fld w 16 5) (fld w 11 5))
  | 0x018 => .ok (.shl (fld w 21 5) (fld w 16 5) (fld w 11 5))
  | 0x019 => .ok (.shr (fld w 21 5) (fld w 16 5) (fld w 11 5))
  | 0x01A => .ok (.shra (fld w 21 5) (fld w 16 5) (fld w 11 5))
  | 0x01B => .ok (.rotr (fld w 21 5) (fld w 16 5) (fld w 11 5))
  | 0x020 => .ok (.cmpeq (fld w 21 5) (fld w 16 5) (fld w 11 5))
  | 0x021 => .ok (.cmpne (fld w 21 5) (fld w 16 5) (fld w 11 5))
  | 0x022 => .ok (.cmplt (fld w 21 5) (fld w 16 5) (fld w 11 5))
  | 0x023 => .ok (.cmpge (fld w 21 5) (fld w 16 5) (fld w 11 5))
  | 0x024 => .ok (.cmpltn (fld w 21 5) (fld w 16 5) (fld w 11 5))
  | 0x025 => .ok (.cmpgen (fld w 21 5) (fld w 16 5) (fld w 11 5))
  | 0x028 => .ok (.min (fld w 21 5) (fld w 16 5) (fld w 11 5))
  | 0x029 => .ok (.max (fld w 21 5) (fld w 16 5) (fld w 11 5))
  | 0x02A => .ok (.minn (fld w 21 5) (fld w 16 5) (fld w 11 5))
  | 0x02B => .ok (.maxn (fld w 21 5) (fld w 16 5) (fld w 11 5))
  | 0x030 => .ok (.sel (fld w 21 5) (fld w 16 5) (fld w 11 5))
  | 0x038 => checks (fld w 11 5 != 0) (false) (false) false (.clz (fld w 21 5) (fld w 16 5))
  | 0x039 => checks (fld w 11 5 != 0) (false) (false) false (.ctz (fld w 21 5) (fld w 16 5))
  | 0x03A => checks (fld w 11 5 != 0) (false) (false) false (.popc (fld w 21 5) (fld w 16 5))
  | 0x040 => checks (fld w 11 5 != 0) (false) (false) false (.sextb (fld w 21 5) (fld w 16 5))
  | 0x041 => checks (fld w 11 5 != 0) (false) (false) false (.sexth (fld w 21 5) (fld w 16 5))
  | 0x042 => checks (fld w 11 5 != 0) (false) (false) false (.sextw (fld w 21 5) (fld w 16 5))
  | 0x044 => checks (fld w 11 5 != 0) (false) (false) false (.zextb (fld w 21 5) (fld w 16 5))
  | 0x045 => checks (fld w 11 5 != 0) (false) (false) false (.zexth (fld w 21 5) (fld w 16 5))
  | 0x046 => checks (fld w 11 5 != 0) (false) (false) false (.zextw (fld w 21 5) (fld w 16 5))
  | _ => .ill 2

/-- PTR words, major 0x0A (R137). -/
def decodePtr (w : BitVec 32) : Decoded :=
  match (fld w 0 11).toNat with
  | 0x001 => .ok (.addp (fld w 21 5) (fld w 16 5) (fld w 11 5))
  | 0x002 => .ok (.subp (fld w 21 5) (fld w 16 5) (fld w 11 5))
  | 0x003 => .ok (.idxp (fld w 21 5) (fld w 16 5) (fld w 11 5))
  | 0x004 => .ok (.mkp (fld w 21 5) (fld w 16 5) (fld w 11 5))
  | 0x005 => checks (fld w 11 5 != 0) (false) (false) false (.getf (fld w 21 5) (fld w 16 5))
  | 0x006 => checks (fld w 11 5 != 0) (false) (false) false (.adrp (fld w 21 5) (fld w 16 5))
  | _ => .ill 2

/-- FLT words, major 0x0C (R141). -/
def decodeFlt (w : BitVec 32) : Decoded :=
  match (fld w 0 11).toNat with
  | 0x001 => .ok (.fpadd (fld w 21 5) (fld w 16 5) (fld w 11 5))
  | 0x002 => .ok (.fpsub (fld w 21 5) (fld w 16 5) (fld w 11 5))
  | 0x003 => .ok (.fpmul (fld w 21 5) (fld w 16 5) (fld w 11 5))
  | 0x004 => .ok (.fpdiv (fld w 21 5) (fld w 16 5) (fld w 11 5))
  | 0x005 => .ok (.fpfma (fld w 21 5) (fld w 16 5) (fld w 11 5))
  | 0x006 => checks (fld w 11 5 != 0) (false) (false) false (.fpsqrt (fld w 21 5) (fld w 16 5))
  | 0x008 => .ok (.fpmin (fld w 21 5) (fld w 16 5) (fld w 11 5))
  | 0x009 => .ok (.fpmax (fld w 21 5) (fld w 16 5) (fld w 11 5))
  | 0x00A => checks (fld w 11 5 != 0) (false) (false) false (.fpabs (fld w 21 5) (fld w 16 5))
  | 0x00B => checks (fld w 11 5 != 0) (false) (false) false (.fpneg (fld w 21 5) (fld w 16 5))
  | 0x010 => .ok (.fpcmpeq (fld w 21 5) (fld w 16 5) (fld w 11 5))
  | 0x011 => .ok (.fpcmplt (fld w 21 5) (fld w 16 5) (fld w 11 5))
  | 0x012 => .ok (.fpcmple (fld w 21 5) (fld w 16 5) (fld w 11 5))
  | 0x018 => checks (fld w 11 5 != 0) (false) (false) false (.fptoi (fld w 21 5) (fld w 16 5))
  | 0x019 => checks (fld w 11 5 != 0) (false) (false) false (.fptoiz (fld w 21 5) (fld w 16 5))
  | 0x01A => checks (fld w 11 5 != 0) (false) (false) false (.fpton (fld w 21 5) (fld w 16 5))
  | 0x01B => checks (fld w 11 5 != 0) (false) (false) false (.itofp (fld w 21 5) (fld w 16 5))
  | 0x01C => checks (fld w 11 5 != 0) (false) (false) false (.ntofp (fld w 21 5) (fld w 16 5))
  | 0x020 => checks (fld w 11 5 != 0) (false) (false) false (.fptoh (fld w 21 5) (fld w 16 5))
  | 0x021 => checks (fld w 11 5 != 0) (false) (false) false (.htofp (fld w 21 5) (fld w 16 5))
  | 0x022 => checks (fld w 11 5 != 0) (false) (false) false (.fptob (fld w 21 5) (fld w 16 5))
  | 0x023 => checks (fld w 11 5 != 0) (false) (false) false (.btofp (fld w 21 5) (fld w 16 5))
  | _ => .ill 2

/-- JREG words, major 0x18 (R149). -/
def decodeJreg (w : BitVec 32) : Decoded :=
  match (fld w 0 11).toNat with
  | 0x001 => checks (fld w 21 5 != 0 || fld w 11 5 != 0) (false) (false) false (.jr (fld w 16 5))
  | 0x002 => checks (fld w 11 5 != 0) (false) (false) false (.jalr (fld w 21 5) (fld w 16 5))
  | _ => .ill 2

/-- AMO words, major 0x2B (R171). -/
def decodeAmo (w : BitVec 32) : Decoded :=
  match (fld w 0 7).toNat with
  | 0x001 => .ok (.aadd (fld w 21 5) (fld w 16 5) (fld w 11 5) (fld w 7 4))
  | 0x002 => .ok (.aand (fld w 21 5) (fld w 16 5) (fld w 11 5) (fld w 7 4))
  | 0x003 => .ok (.aor (fld w 21 5) (fld w 16 5) (fld w 11 5) (fld w 7 4))
  | 0x004 => .ok (.axor (fld w 21 5) (fld w 16 5) (fld w 11 5) (fld w 7 4))
  | 0x005 => .ok (.amin (fld w 21 5) (fld w 16 5) (fld w 11 5) (fld w 7 4))
  | 0x006 => .ok (.amax (fld w 21 5) (fld w 16 5) (fld w 11 5) (fld w 7 4))
  | 0x007 => .ok (.aminn (fld w 21 5) (fld w 16 5) (fld w 11 5) (fld w 7 4))
  | 0x008 => .ok (.amaxn (fld w 21 5) (fld w 16 5) (fld w 11 5) (fld w 7 4))
  | 0x009 => .ok (.aswap (fld w 21 5) (fld w 16 5) (fld w 11 5) (fld w 7 4))
  | 0x00A => .ok (.acas (fld w 21 5) (fld w 16 5) (fld w 11 5) (fld w 7 4))
  | 0x00B => .ok (.afadd (fld w 21 5) (fld w 16 5) (fld w 11 5) (fld w 7 4))
  | 0x00C => .ok (.abump (fld w 21 5) (fld w 16 5) (fld w 11 5) (fld w 7 4))
  | 0x00D => .ok (.atmerge (fld w 21 5) (fld w 16 5) (fld w 11 5) (fld w 7 4))
  | 0x041 => checks (fld w 21 5 != 0) (false) (fld w 7 4 != 0) false (.aaddRx (fld w 16 5) (fld w 11 5))
  | 0x042 => checks (fld w 21 5 != 0) (false) (fld w 7 4 != 0) false (.aandRx (fld w 16 5) (fld w 11 5))
  | 0x043 => checks (fld w 21 5 != 0) (false) (fld w 7 4 != 0) false (.aorRx (fld w 16 5) (fld w 11 5))
  | 0x044 => checks (fld w 21 5 != 0) (false) (fld w 7 4 != 0) false (.axorRx (fld w 16 5) (fld w 11 5))
  | 0x045 => checks (fld w 21 5 != 0) (false) (fld w 7 4 != 0) false (.aminRx (fld w 16 5) (fld w 11 5))
  | 0x046 => checks (fld w 21 5 != 0) (false) (fld w 7 4 != 0) false (.amaxRx (fld w 16 5) (fld w 11 5))
  | 0x047 => checks (fld w 21 5 != 0) (false) (fld w 7 4 != 0) false (.aminnRx (fld w 16 5) (fld w 11 5))
  | 0x048 => checks (fld w 21 5 != 0) (false) (fld w 7 4 != 0) false (.amaxnRx (fld w 16 5) (fld w 11 5))
  | 0x04B => checks (fld w 21 5 != 0) (false) (fld w 7 4 != 0) false (.afaddRx (fld w 16 5) (fld w 11 5))
  | 0x04D => checks (fld w 21 5 != 0) (false) (fld w 7 4 != 0) false (.atmergeRx (fld w 16 5) (fld w 11 5))
  | _ => .ill 2

/-- ORD words, major 0x2D (R188). -/
def decodeOrd (w : BitVec 32) : Decoded :=
  match (fld w 0 7).toNat with
  | 0x001 => checks (fld w 21 5 != 0 || fld w 16 5 != 0 || fld w 11 5 != 0) (false) (fld w 7 4 != 0) false (.fenceCore)
  | 0x002 => checks (fld w 21 5 != 0 || fld w 16 5 != 0 || fld w 11 5 != 0) (false) (fld w 7 4 != 0) false (.fenceNode)
  | 0x003 => checks (fld w 21 5 != 0 || fld w 16 5 != 0 || fld w 11 5 != 0) (false) (fld w 7 4 != 0) false (.fenceDev)
  | 0x004 => checks (fld w 21 5 != 0 || fld w 16 5 != 0 || fld w 11 5 != 0) (false) (fld w 7 4 != 0) false (.fencePod)
  | 0x008 | 0x009 | 0x00A | 0x00B => checks (fld w 16 5 != 0 || fld w 11 5 != 0) (false) (fld w 7 4 != 0) false (.bclose (fld w 21 5) (fld w 0 2))
  | 0x00C | 0x00D | 0x00E | 0x00F => checks (fld w 16 5 != 0 || fld w 11 5 != 0) (false) (fld w 7 4 != 0) false (.btest (fld w 21 5) (fld w 0 2))
  | _ => .ill 2

/-- TAG words, major 0x2E (R308). -/
def decodeTag (w : BitVec 32) : Decoded :=
  match (fld w 0 7).toNat with
  | 0x001 => checks (fld w 11 5 != 0) (false) (fld w 7 4 != 0) false (.waitany (fld w 21 5) (fld w 16 5))
  | 0x002 => checks (fld w 21 5 != 0 || fld w 11 5 != 0) (false) (fld w 7 4 != 0) false (.waitall (fld w 16 5))
  | 0x003 => checks (fld w 11 5 != 0) (false) (fld w 7 4 != 0) false (.ffready (fld w 21 5) (fld w 16 5))
  | 0x004 => checks (fld w 21 5 != 0 || fld w 11 5 != 0) (false) (fld w 7 4 != 0) false (.tagclr (fld w 16 5))
  | _ => .ill 2

/-- THR words, major 0x2F (R95). -/
def decodeThr (w : BitVec 32) : Decoded :=
  match (fld w 0 7).toNat with
  | 0x001 => checks (false) (false) (fld w 7 4 != 0) false (.fork (fld w 21 5) (fld w 16 5) (fld w 11 5))
  | 0x002 => .ok (.spawnat (fld w 21 5) (fld w 16 5) (fld w 11 5) (fld w 7 4))
  | 0x003 => checks (fld w 21 5 != 0 || fld w 11 5 != 0) (false) (false) false (.join (fld w 16 5) (fld w 7 4))
  | 0x004 => checks (fld w 21 5 != 0 || fld w 11 5 != 0) (false) (fld w 7 4 != 0) false (.exit (fld w 16 5))
  | 0x005 => checks (fld w 21 5 != 0 || fld w 16 5 != 0 || fld w 11 5 != 0) (false) (fld w 7 4 != 0) false (.yield)
  | 0x006 => checks (fld w 16 5 != 0 || fld w 11 5 != 0) (false) (fld w 7 4 != 0) false (.nextw (fld w 21 5))
  | _ => .ill 2

/-- LAND words, major 0x30 (R111). -/
def decodeLand (w : BitVec 32) : Decoded :=
  match (fld w 0 7).toNat with
  | 0x001 => checks (fld w 21 5 != 0) (false) (fld w 7 4 != 0) false (.sendr (fld w 16 5) (fld w 11 5))
  | 0x002 => checks (fld w 21 5 != 0) (false) (fld w 7 4 != 0) false (.sendrRl (fld w 16 5) (fld w 11 5))
  | 0x010 | 0x011 | 0x012 | 0x013 => checks (fld w 21 5 != 0) (false) (fld w 7 4 != 0) false (.sendrB (fld w 16 5) (fld w 11 5) (fld w 0 2))
  | 0x014 | 0x015 | 0x016 | 0x017 => checks (fld w 21 5 != 0) (false) (fld w 7 4 != 0) false (.sendrRlB (fld w 16 5) (fld w 11 5) (fld w 0 2))
  | 0x008 => checks (fld w 11 5 != 0) (false) (fld w 7 4 != 0) false (.takeG (fld w 21 5) (fld w 16 5))
  | 0x009 => checks (fld w 11 5 != 0) ((fld w 21 5).toNat ≥ 16 || (fld w 16 5).toNat ≥ 16) (fld w 7 4 != 0) false (.takeV (fld w 21 5) (fld w 16 5))
  | 0x00A => checks (fld w 21 5 != 0 || fld w 11 5 != 0) (false) (fld w 7 4 != 0) false (.emptyG (fld w 16 5))
  | 0x00B => checks (fld w 21 5 != 0 || fld w 11 5 != 0) ((fld w 16 5).toNat ≥ 16) (fld w 7 4 != 0) false (.emptyV (fld w 16 5))
  | 0x00C => checks (fld w 11 5 != 0) (false) (fld w 7 4 != 0) false (.ptestG (fld w 21 5) (fld w 16 5))
  | 0x00D => checks (fld w 11 5 != 0) ((fld w 16 5).toNat ≥ 16) (fld w 7 4 != 0) false (.ptestV (fld w 21 5) (fld w 16 5))
  | 0x00E => checks (fld w 16 5 != 0 || fld w 11 5 != 0) (false) (fld w 7 4 != 0) false (.self (fld w 21 5))
  | 0x00F => checks (false) (false) (fld w 7 4 != 0) false (.hreg (fld w 21 5) (fld w 16 5) (fld w 11 5))
  | _ => .ill 2

/-- PLT words, major 0x31 (R319). -/
def decodePlt (w : BitVec 32) : Decoded :=
  match (fld w 0 7).toNat with
  | 0x001 => checks (fld w 11 5 != 0) (false) (false) false (.plook (fld w 21 5) (fld w 16 5) (fld w 7 4))
  | 0x002 => .ok (.pmake (fld w 21 5) (fld w 16 5) (fld w 11 5) (fld w 7 4))
  | 0x003 => checks (fld w 11 5 != 0) (false) (false) false (.patt (fld w 21 5) (fld w 16 5) (fld w 7 4))
  | 0x004 => checks (fld w 11 5 != 0) (false) (false) false (.pattT (fld w 21 5) (fld w 16 5) (fld w 7 4))
  | 0x005 => checks (fld w 21 5 != 0 || fld w 11 5 != 0) (false) (false) false (.pdet (fld w 16 5) (fld w 7 4))
  | 0x006 => checks (fld w 21 5 != 0 || fld w 11 5 != 0) (false) (false) false (.pseal (fld w 16 5) (fld w 7 4))
  | 0x007 => checks (fld w 21 5 != 0 || fld w 11 5 != 0) (false) (false) false (.pevict (fld w 16 5) (fld w 7 4))
  | 0x008 => checks (fld w 21 5 != 0 || fld w 11 5 != 0) (false) (false) false (.pfree (fld w 16 5) (fld w 7 4))
  | _ => .ill 2

/-- ECMD words, major 0x32 (R62). -/
def decodeEcmd (w : BitVec 32) : Decoded :=
  match (fld w 22 4).toNat, (fld w 6 6).toNat with
  | 0, 0x01 => checks (fld w 17 5 != 0 || fld w 12 5 != 0) (false) (fld w 0 2 != 0) false (.mmaz (fld w 2 4))
  | 0, 0x02 => .ok (.mma (fld w 17 5) (fld w 12 5) (fld w 2 4) (fld w 0 2))
  | 0, 0x03 => checks (fld w 17 5 != 0 || fld w 12 5 != 0) (false) (fld w 0 2 != 0) false (.rfree (fld w 2 4))
  | 1, 0x01 => checks (false) (false) (fld w 0 2 != 0) false (.epi (fld w 17 5) (fld w 12 5) (fld w 2 4))
  | 2, 0x01 => checks (false) (false) (fld w 0 2 != 0) false (.copy (fld w 17 5) (fld w 12 5) (fld w 2 4))
  | 2, 0x02 => checks (false) (false) (fld w 0 2 != 0) false (.gather (fld w 17 5) (fld w 12 5) (fld w 2 4))
  | 2, 0x03 => checks (false) (false) (fld w 0 2 != 0) false (.scatter (fld w 17 5) (fld w 12 5) (fld w 2 4))
  | 2, 0x04 => checks (false) (false) (fld w 0 2 != 0) false (.bins (fld w 17 5) (fld w 12 5) (fld w 2 4))
  | 2, 0x05 => checks (false) (false) (fld w 0 2 != 0) false (.mcast (fld w 17 5) (fld w 12 5) (fld w 2 4))
  | 2, 0x06 => checks (fld w 12 5 != 0) (false) (fld w 0 2 != 0) false (.freeb (fld w 17 5) (fld w 2 4))
  | 2, 0x07 => checks (false) (false) (fld w 0 2 != 0) false (.fillw (fld w 17 5) (fld w 12 5) (fld w 2 4))
  | _, _ => .ill 2

/-- ECTL words, major 0x33 (R273). -/
def decodeEctl (w : BitVec 32) : Decoded :=
  match (fld w 6 6).toNat with
  | 0x01 => if ¬ descriptorOk (fld w 22 4) (fld w 12 5) then .ill 2 else checks (false) (false) (fld w 2 4 != 0 || fld w 0 2 != 0) false (.eset (fld w 22 4) (fld w 17 5) (fld w 12 5))
  | 0x02 => if ¬ descriptorOk (fld w 22 4) (fld w 12 5) then .ill 2 else checks (false) (false) (fld w 2 4 != 0 || fld w 0 2 != 0) false (.eget (fld w 22 4) (fld w 17 5) (fld w 12 5))
  | 0x03 => if ¬ (fld w 22 4).toNat ≤ 1 then .ill 2 else checks (fld w 12 5 != 0) (false) (fld w 2 4 != 0 || fld w 0 2 != 0) false (.epop (fld w 22 4) (fld w 17 5))
  | 0x04 => if ¬ (fld w 22 4).toNat ≤ 1 then .ill 2 else checks (fld w 12 5 != 0) (false) (fld w 2 4 != 0 || fld w 0 2 != 0) false (.ewait (fld w 22 4) (fld w 17 5))
  | 0x05 => if ¬ (fld w 22 4).toNat ≤ 1 then .ill 2 else checks (fld w 12 5 != 0) (false) (fld w 2 4 != 0 || fld w 0 2 != 0) false (.etest (fld w 22 4) (fld w 17 5))
  | _ => .ill 2

/-- VOP words, major 0x34 (R215). -/
def decodeVop (w : BitVec 32) : Decoded :=
  match (fld w 0 10).toNat with
  | 0x001 => checks (fld w 10 4 != 0) (false) (false) false (.vadd (fld w 22 4) (fld w 18 4) (fld w 14 4))
  | 0x002 => checks (fld w 10 4 != 0) (false) (false) false (.vsub (fld w 22 4) (fld w 18 4) (fld w 14 4))
  | 0x003 => checks (fld w 10 4 != 0) (false) (false) false (.vmul (fld w 22 4) (fld w 18 4) (fld w 14 4))
  | 0x004 => .ok (.vmad (fld w 22 4) (fld w 18 4) (fld w 14 4) (fld w 10 4))
  | 0x005 => checks (fld w 10 4 != 0) (false) (false) false (.vmin (fld w 22 4) (fld w 18 4) (fld w 14 4))
  | 0x006 => checks (fld w 10 4 != 0) (false) (false) false (.vmax (fld w 22 4) (fld w 18 4) (fld w 14 4))
  | 0x007 => checks (fld w 14 4 != 0 || fld w 10 4 != 0) (false) (false) false (.vabs (fld w 22 4) (fld w 18 4))
  | 0x008 => checks (fld w 14 4 != 0 || fld w 10 4 != 0) (false) (false) false (.vneg (fld w 22 4) (fld w 18 4))
  | 0x009 => checks (fld w 10 4 != 0) (false) (false) false (.vadds (fld w 22 4) (fld w 18 4) (fld w 14 4))
  | 0x00A => checks (fld w 10 4 != 0) (false) (false) false (.vsubs (fld w 22 4) (fld w 18 4) (fld w 14 4))
  | 0x00B => checks (fld w 10 4 != 0) (false) (false) false (.vmuls (fld w 22 4) (fld w 18 4) (fld w 14 4))
  | 0x010 => checks (fld w 10 4 != 0) (false) (false) false (.vand (fld w 22 4) (fld w 18 4) (fld w 14 4))
  | 0x011 => checks (fld w 10 4 != 0) (false) (false) false (.vor (fld w 22 4) (fld w 18 4) (fld w 14 4))
  | 0x012 => checks (fld w 10 4 != 0) (false) (false) false (.vxor (fld w 22 4) (fld w 18 4) (fld w 14 4))
  | 0x013 => checks (fld w 10 4 != 0) (false) (false) false (.vandn (fld w 22 4) (fld w 18 4) (fld w 14 4))
  | 0x018 => checks (fld w 10 4 != 0) (false) (false) false (.vshl (fld w 22 4) (fld w 18 4) (fld w 14 4))
  | 0x019 => checks (fld w 10 4 != 0) (false) (false) false (.vshr (fld w 22 4) (fld w 18 4) (fld w 14 4))
  | 0x01A => checks (fld w 10 4 != 0) (false) (false) false (.vshra (fld w 22 4) (fld w 18 4) (fld w 14 4))
  | 0x020 => checks (fld w 10 4 != 0) (false) (false) false (.vcmpeq (fld w 22 4) (fld w 18 4) (fld w 14 4))
  | 0x021 => checks (fld w 10 4 != 0) (false) (false) false (.vcmpne (fld w 22 4) (fld w 18 4) (fld w 14 4))
  | 0x022 => checks (fld w 10 4 != 0) (false) (false) false (.vcmplt (fld w 22 4) (fld w 18 4) (fld w 14 4))
  | 0x023 => checks (fld w 10 4 != 0) (false) (false) false (.vcmple (fld w 22 4) (fld w 18 4) (fld w 14 4))
  | 0x028 => .ok (.vsel (fld w 22 4) (fld w 18 4) (fld w 14 4) (fld w 10 4))
  | 0x029 => .ok (.vperm (fld w 22 4) (fld w 18 4) (fld w 14 4) (fld w 10 4))
  | 0x030 => if (fld w 14 4).toNat > 8 then .ill 2 else .ok (.vcvt (fld w 22 4) (fld w 18 4) (fld w 14 4) (fld w 10 4))
  | 0x031 => checks (fld w 10 4 != 0) (false) (false) false (.vqscl (fld w 22 4) (fld w 18 4) (fld w 14 4))
  | 0x032 => if (fld w 10 4).toNat < 2 ∨ (fld w 10 4).toNat > 8 then .ill 2 else .ok (.vqnt (fld w 22 4) (fld w 18 4) (fld w 14 4) (fld w 10 4))
  | 0x038 => checks (fld w 14 4 != 0) (false) (false) false (.vexp2 (fld w 22 4) (fld w 18 4) (fld w 10 4))
  | 0x039 => checks (fld w 14 4 != 0) (false) (false) false (.vlog2 (fld w 22 4) (fld w 18 4) (fld w 10 4))
  | 0x03A => checks (fld w 14 4 != 0) (false) (false) false (.vrcp (fld w 22 4) (fld w 18 4) (fld w 10 4))
  | 0x03B => checks (fld w 14 4 != 0) (false) (false) false (.vrsq (fld w 22 4) (fld w 18 4) (fld w 10 4))
  | 0x040 => checks (fld w 10 4 != 0) (false) (false) false (.vdot (fld w 22 4) (fld w 18 4) (fld w 14 4))
  | 0x041 => checks (fld w 10 4 != 0) (false) (false) false (.vdots (fld w 22 4) (fld w 18 4) (fld w 14 4))
  | 0x048 => checks (fld w 14 4 != 0 || fld w 10 4 != 0) (false) (false) false (.vrsum (fld w 22 4) (fld w 18 4))
  | 0x049 => checks (fld w 14 4 != 0 || fld w 10 4 != 0) (false) (false) false (.vrmin (fld w 22 4) (fld w 18 4))
  | 0x04A => checks (fld w 14 4 != 0 || fld w 10 4 != 0) (false) (false) false (.vrmax (fld w 22 4) (fld w 18 4))
  | _ => .ill 2

/-- VXF words, major 0x35 (R228). -/
def decodeVxf (w : BitVec 32) : Decoded :=
  match (fld w 0 11).toNat with
  | 0x001 => checks (fld w 11 5 != 0) ((fld w 21 5).toNat ≥ 16) (false) false (.vsplat (fld w 21 5) (fld w 16 5))
  | 0x002 => checks (false) ((fld w 16 5).toNat ≥ 16) (false) false (.vext (fld w 21 5) (fld w 16 5) (fld w 11 5))
  | 0x003 => checks (false) ((fld w 21 5).toNat ≥ 16) (false) false (.vins (fld w 21 5) (fld w 16 5) (fld w 11 5))
  | _ => .ill 2

/-- MEAN words, major 0x36 (R241). -/
def decodeMean (w : BitVec 32) : Decoded :=
  match (fld w 0 10).toNat with
  | 0x001 => checks (fld w 18 4 != 0 || fld w 14 4 != 0 || fld w 10 4 != 0) (false) (false) false (.tminit (fld w 22 4))
  | 0x002 => .ok (.tmacc (fld w 22 4) (fld w 18 4) (fld w 14 4) (fld w 10 4))
  | 0x003 => .ok (.tmmrg (fld w 22 4) (fld w 18 4) (fld w 14 4) (fld w 10 4))
  | 0x004 => checks (fld w 14 4 != 0) (false) (false) false (.tmfin (fld w 22 4) (fld w 18 4) (fld w 10 4))
  | 0x005 => if (fld w 14 4).toNat < 2 ∨ (fld w 14 4).toNat > 3 then .ill 2 else checks (fld w 22 4 != 0) (false) (false) false (.tmload (fld w 18 4) (fld w 14 4) (fld w 10 4))
  | _ => .ill 2

/-- Shift-immediate words, major 0x06 (R134). -/
def decodeShi (w : BitVec 32) : Decoded :=
  let s := fld w 0 6
  checks (fld w 6 8 != 0) false false false
    (match (fld w 14 2).toNat with
      | 0 => .shli (fld w 21 5) (fld w 16 5) s
      | 1 => .shri (fld w 21 5) (fld w 16 5) s
      | 2 => .shrai (fld w 21 5) (fld w 16 5) s
      | _ => .rotri (fld w 21 5) (fld w 16 5) s)

/-- Compare-immediate words, major 0x07 (R135). -/
def decodeCmpi (w : BitVec 32) : Decoded :=
  match (fld w 13 3).toNat with
  | 0 => .ok (.cmpeqi (fld w 21 5) (fld w 16 5) (fld w 0 13))
  | 1 => .ok (.cmpnei (fld w 21 5) (fld w 16 5) (fld w 0 13))
  | 2 => .ok (.cmplti (fld w 21 5) (fld w 16 5) (fld w 0 13))
  | 3 => .ok (.cmpgei (fld w 21 5) (fld w 16 5) (fld w 0 13))
  | 4 => .ok (.cmpltni (fld w 21 5) (fld w 16 5) (fld w 0 13))
  | 5 => .ok (.cmpgeni (fld w 21 5) (fld w 16 5) (fld w 0 13))
  | _ => .ill 2

/-- SYS words, major 0x37 (R383). -/
def decodeSys (w : BitVec 32) : Decoded :=
  match (fld w 12 4).toNat with
  | 0 => checks (fld w 21 5 != 0 || fld w 16 5 != 0 || fld w 0 12 != 0) false false false .nop
  | 1 => checks (fld w 21 5 != 0) false false false (.trap (fld w 16 5) (fld w 0 12))
  | 2 => checks (fld w 21 5 != 0 || fld w 16 5 != 0 || fld w 0 12 != 0) false false false .rte
  | 3 => checks (fld w 16 5 != 0) false false (!srAssigned (fld w 0 12)) (.srd (fld w 21 5) (fld w 0 12))
  | 4 => checks (fld w 21 5 != 0) false false (!srAssigned (fld w 0 12)) (.swr (fld w 16 5) (fld w 0 12))
  | 5 => checks (fld w 21 5 != 0 || fld w 16 5 != 0) false false false (.bkpt (fld w 0 12))
  | _ => .ill 2

/-- What R63 check 5 refuses of rx, sy and la: sy 0b11, rx with a sync mode, la on a relaxed store. -/
def badMod (store : Bool) (w : BitVec 32) : Bool :=
  fld w 9 2 == 3 || (fld w 11 1 == 1 && fld w 9 2 != 0) || (store && fld w 11 1 == 1 && fld w 12 4 != 0)

/-- A scalar load or store word, majors 0x1C to 0x26 (R158). -/
def decodeScalarMem (store : Bool)
    (mk : BitVec 5 → BitVec 5 → BitVec 4 → BitVec 1 → BitVec 2 → BitVec 9 → Instr) (w : BitVec 32) : Decoded :=
  checks false false (badMod store w) false
    (mk (fld w 21 5) (fld w 16 5) (fld w 12 4) (fld w 11 1) (fld w 9 2) (fld w 0 9))

/-- A vector load or store word, majors 0x27 to 0x2A (R230). -/
def decodeVecMem (store : Bool) (mk : BitVec 5 → BitVec 5 → BitVec 4 → BitVec 1 → BitVec 9 → Instr)
    (w : BitVec 32) : Decoded :=
  checks false ((fld w 21 5).toNat ≥ 16) (fld w 9 2 != 0 || badMod store w) false
    (mk (fld w 21 5) (fld w 16 5) (fld w 12 4) (fld w 11 1) (fld w 0 9))

/-- Word-state words, major 0x2C (R168). -/
def decodeWst (w : BitVec 32) : Decoded :=
  match (fld w 7 2).toNat with
  | 0 => checks false false (fld w 9 2 != 0 || fld w 11 1 != 0) false
      (.wstate (fld w 21 5) (fld w 16 5) (fld w 12 4) (fld w 0 7))
  | 1 => checks false false (fld w 9 2 != 0 || fld w 11 1 != 0) false
      (.wset (fld w 21 5) (fld w 16 5) (fld w 12 4) (fld w 0 7))
  | _ => .ill 2

/-- Decoding a word: the major of R61 selects the checks of R63. -/
def decodeWord (w : BitVec 32) : Decoded :=
  match (fld w 26 6).toNat with
  | 0x01 => decodeInt w
  | 0x02 => .ok (.addi (fld w 21 5) (fld w 16 5) (fld w 0 16))
  | 0x03 => .ok (.andi (fld w 21 5) (fld w 16 5) (fld w 0 16))
  | 0x04 => .ok (.ori (fld w 21 5) (fld w 16 5) (fld w 0 16))
  | 0x05 => .ok (.xori (fld w 21 5) (fld w 16 5) (fld w 0 16))
  | 0x06 => decodeShi w
  | 0x07 => decodeCmpi w
  | 0x08 => checks (fld w 16 5 != 0) false false false (.ldi (fld w 21 5) (fld w 0 16))
  | 0x09 => .ok (.ldih (fld w 21 5) (fld w 16 5) (fld w 0 16))
  | 0x0A => decodePtr w
  | 0x0B => .ok (.addpi (fld w 21 5) (fld w 16 5) (fld w 0 16))
  | 0x0C => decodeFlt w
  | 0x10 => .ok (.beq (fld w 21 5) (fld w 16 5) (fld w 0 16))
  | 0x11 => .ok (.bne (fld w 21 5) (fld w 16 5) (fld w 0 16))
  | 0x12 => .ok (.blt (fld w 21 5) (fld w 16 5) (fld w 0 16))
  | 0x13 => .ok (.bge (fld w 21 5) (fld w 16 5) (fld w 0 16))
  | 0x14 => .ok (.bltn (fld w 21 5) (fld w 16 5) (fld w 0 16))
  | 0x15 => .ok (.bgen (fld w 21 5) (fld w 16 5) (fld w 0 16))
  | 0x16 => .ok (.j (fld w 0 26))
  | 0x17 => .ok (.jal (fld w 0 26))
  | 0x18 => decodeJreg w
  | 0x1C => decodeScalarMem false .ldb w
  | 0x1D => decodeScalarMem false .ldh w
  | 0x1E => decodeScalarMem false .ldw w
  | 0x1F => decodeScalarMem false .ldd w
  | 0x20 => decodeScalarMem false .ldnb w
  | 0x21 => decodeScalarMem false .ldnh w
  | 0x22 => decodeScalarMem false .ldnw w
  | 0x23 => decodeScalarMem true .stb w
  | 0x24 => decodeScalarMem true .sth w
  | 0x25 => decodeScalarMem true .stw w
  | 0x26 => decodeScalarMem true .std w
  | 0x27 => decodeVecMem false .ldv w
  | 0x28 => decodeVecMem true .stv w
  | 0x29 => decodeVecMem false .ldbp w
  | 0x2A => decodeVecMem true .stbp w
  | 0x2B => decodeAmo w
  | 0x2C => decodeWst w
  | 0x2D => decodeOrd w
  | 0x2E => decodeTag w
  | 0x2F => decodeThr w
  | 0x30 => decodeLand w
  | 0x31 => decodePlt w
  | 0x32 => decodeEcmd w
  | 0x33 => decodeEctl w
  | 0x34 => decodeVop w
  | 0x35 => decodeVxf w
  | 0x36 => decodeMean w
  | 0x37 => decodeSys w
  | _ => .ill 1

/-- Decoding from the bytes at the fetch address: one little-endian word (R2, R57). -/
def decode : List (BitVec 8) → Decoded
  | b0 :: b1 :: b2 :: b3 :: _ => decodeWord (b3 ++ b2 ++ b1 ++ b0)
  | _ => .short

/-- The word of an instruction by the tables of R57 and the owning chapters; events have none. -/
def encode : Instr → Option (BitVec 32)
  | .add d a b => some (0x01#6 ++ d ++ a ++ b ++ 0x1#11)
  | .sub d a b => some (0x01#6 ++ d ++ a ++ b ++ 0x2#11)
  | .mul d a b => some (0x01#6 ++ d ++ a ++ b ++ 0x3#11)
  | .mulh d a b => some (0x01#6 ++ d ++ a ++ b ++ 0x4#11)
  | .mulhn d a b => some (0x01#6 ++ d ++ a ++ b ++ 0x5#11)
  | .div d a b => some (0x01#6 ++ d ++ a ++ b ++ 0x6#11)
  | .divn d a b => some (0x01#6 ++ d ++ a ++ b ++ 0x7#11)
  | .rem d a b => some (0x01#6 ++ d ++ a ++ b ++ 0x8#11)
  | .remn d a b => some (0x01#6 ++ d ++ a ++ b ++ 0x9#11)
  | .neg d a => some (0x01#6 ++ d ++ a ++ 0x0#5 ++ 0xA#11)
  | .and d a b => some (0x01#6 ++ d ++ a ++ b ++ 0x10#11)
  | .or d a b => some (0x01#6 ++ d ++ a ++ b ++ 0x11#11)
  | .xor d a b => some (0x01#6 ++ d ++ a ++ b ++ 0x12#11)
  | .andn d a b => some (0x01#6 ++ d ++ a ++ b ++ 0x13#11)
  | .orn d a b => some (0x01#6 ++ d ++ a ++ b ++ 0x14#11)
  | .shl d a b => some (0x01#6 ++ d ++ a ++ b ++ 0x18#11)
  | .shr d a b => some (0x01#6 ++ d ++ a ++ b ++ 0x19#11)
  | .shra d a b => some (0x01#6 ++ d ++ a ++ b ++ 0x1A#11)
  | .rotr d a b => some (0x01#6 ++ d ++ a ++ b ++ 0x1B#11)
  | .cmpeq d a b => some (0x01#6 ++ d ++ a ++ b ++ 0x20#11)
  | .cmpne d a b => some (0x01#6 ++ d ++ a ++ b ++ 0x21#11)
  | .cmplt d a b => some (0x01#6 ++ d ++ a ++ b ++ 0x22#11)
  | .cmpge d a b => some (0x01#6 ++ d ++ a ++ b ++ 0x23#11)
  | .cmpltn d a b => some (0x01#6 ++ d ++ a ++ b ++ 0x24#11)
  | .cmpgen d a b => some (0x01#6 ++ d ++ a ++ b ++ 0x25#11)
  | .min d a b => some (0x01#6 ++ d ++ a ++ b ++ 0x28#11)
  | .max d a b => some (0x01#6 ++ d ++ a ++ b ++ 0x29#11)
  | .minn d a b => some (0x01#6 ++ d ++ a ++ b ++ 0x2A#11)
  | .maxn d a b => some (0x01#6 ++ d ++ a ++ b ++ 0x2B#11)
  | .sel d a b => some (0x01#6 ++ d ++ a ++ b ++ 0x30#11)
  | .clz d a => some (0x01#6 ++ d ++ a ++ 0x0#5 ++ 0x38#11)
  | .ctz d a => some (0x01#6 ++ d ++ a ++ 0x0#5 ++ 0x39#11)
  | .popc d a => some (0x01#6 ++ d ++ a ++ 0x0#5 ++ 0x3A#11)
  | .sextb d a => some (0x01#6 ++ d ++ a ++ 0x0#5 ++ 0x40#11)
  | .sexth d a => some (0x01#6 ++ d ++ a ++ 0x0#5 ++ 0x41#11)
  | .sextw d a => some (0x01#6 ++ d ++ a ++ 0x0#5 ++ 0x42#11)
  | .zextb d a => some (0x01#6 ++ d ++ a ++ 0x0#5 ++ 0x44#11)
  | .zexth d a => some (0x01#6 ++ d ++ a ++ 0x0#5 ++ 0x45#11)
  | .zextw d a => some (0x01#6 ++ d ++ a ++ 0x0#5 ++ 0x46#11)
  | .addi d a i => some (0x02#6 ++ d ++ a ++ i)
  | .andi d a i => some (0x03#6 ++ d ++ a ++ i)
  | .ori d a i => some (0x04#6 ++ d ++ a ++ i)
  | .xori d a i => some (0x05#6 ++ d ++ a ++ i)
  | .shli d a s => some (0x06#6 ++ d ++ a ++ 0x0#10 ++ s)
  | .shri d a s => some (0x06#6 ++ d ++ a ++ 0x100#10 ++ s)
  | .shrai d a s => some (0x06#6 ++ d ++ a ++ 0x200#10 ++ s)
  | .rotri d a s => some (0x06#6 ++ d ++ a ++ 0x300#10 ++ s)
  | .cmpeqi d a i => some (0x07#6 ++ d ++ a ++ 0x0#3 ++ i)
  | .cmpnei d a i => some (0x07#6 ++ d ++ a ++ 0x1#3 ++ i)
  | .cmplti d a i => some (0x07#6 ++ d ++ a ++ 0x2#3 ++ i)
  | .cmpgei d a i => some (0x07#6 ++ d ++ a ++ 0x3#3 ++ i)
  | .cmpltni d a i => some (0x07#6 ++ d ++ a ++ 0x4#3 ++ i)
  | .cmpgeni d a i => some (0x07#6 ++ d ++ a ++ 0x5#3 ++ i)
  | .ldi d i => some (0x08#6 ++ d ++ 0x0#5 ++ i)
  | .ldih d a i => some (0x09#6 ++ d ++ a ++ i)
  | .addp d a b => some (0x0A#6 ++ d ++ a ++ b ++ 0x1#11)
  | .subp d a b => some (0x0A#6 ++ d ++ a ++ b ++ 0x2#11)
  | .idxp d a b => some (0x0A#6 ++ d ++ a ++ b ++ 0x3#11)
  | .mkp d a b => some (0x0A#6 ++ d ++ a ++ b ++ 0x4#11)
  | .getf d a => some (0x0A#6 ++ d ++ a ++ 0x0#5 ++ 0x5#11)
  | .adrp d a => some (0x0A#6 ++ d ++ a ++ 0x0#5 ++ 0x6#11)
  | .addpi d a i => some (0x0B#6 ++ d ++ a ++ i)
  | .fpadd d a b => some (0x0C#6 ++ d ++ a ++ b ++ 0x1#11)
  | .fpsub d a b => some (0x0C#6 ++ d ++ a ++ b ++ 0x2#11)
  | .fpmul d a b => some (0x0C#6 ++ d ++ a ++ b ++ 0x3#11)
  | .fpdiv d a b => some (0x0C#6 ++ d ++ a ++ b ++ 0x4#11)
  | .fpfma d a b => some (0x0C#6 ++ d ++ a ++ b ++ 0x5#11)
  | .fpsqrt d a => some (0x0C#6 ++ d ++ a ++ 0x0#5 ++ 0x6#11)
  | .fpmin d a b => some (0x0C#6 ++ d ++ a ++ b ++ 0x8#11)
  | .fpmax d a b => some (0x0C#6 ++ d ++ a ++ b ++ 0x9#11)
  | .fpabs d a => some (0x0C#6 ++ d ++ a ++ 0x0#5 ++ 0xA#11)
  | .fpneg d a => some (0x0C#6 ++ d ++ a ++ 0x0#5 ++ 0xB#11)
  | .fpcmpeq d a b => some (0x0C#6 ++ d ++ a ++ b ++ 0x10#11)
  | .fpcmplt d a b => some (0x0C#6 ++ d ++ a ++ b ++ 0x11#11)
  | .fpcmple d a b => some (0x0C#6 ++ d ++ a ++ b ++ 0x12#11)
  | .fptoi d a => some (0x0C#6 ++ d ++ a ++ 0x0#5 ++ 0x18#11)
  | .fptoiz d a => some (0x0C#6 ++ d ++ a ++ 0x0#5 ++ 0x19#11)
  | .fpton d a => some (0x0C#6 ++ d ++ a ++ 0x0#5 ++ 0x1A#11)
  | .itofp d a => some (0x0C#6 ++ d ++ a ++ 0x0#5 ++ 0x1B#11)
  | .ntofp d a => some (0x0C#6 ++ d ++ a ++ 0x0#5 ++ 0x1C#11)
  | .fptoh d a => some (0x0C#6 ++ d ++ a ++ 0x0#5 ++ 0x20#11)
  | .htofp d a => some (0x0C#6 ++ d ++ a ++ 0x0#5 ++ 0x21#11)
  | .fptob d a => some (0x0C#6 ++ d ++ a ++ 0x0#5 ++ 0x22#11)
  | .btofp d a => some (0x0C#6 ++ d ++ a ++ 0x0#5 ++ 0x23#11)
  | .beq a b o => some (0x10#6 ++ a ++ b ++ o)
  | .bne a b o => some (0x11#6 ++ a ++ b ++ o)
  | .blt a b o => some (0x12#6 ++ a ++ b ++ o)
  | .bge a b o => some (0x13#6 ++ a ++ b ++ o)
  | .bltn a b o => some (0x14#6 ++ a ++ b ++ o)
  | .bgen a b o => some (0x15#6 ++ a ++ b ++ o)
  | .j o => some (0x16#6 ++ o)
  | .jal o => some (0x17#6 ++ o)
  | .jr a => some (0x18#6 ++ 0x0#5 ++ a ++ 0x0#5 ++ 0x1#11)
  | .jalr d a => some (0x18#6 ++ d ++ a ++ 0x0#5 ++ 0x2#11)
  | .ldb d a l r s o => some (0x1C#6 ++ d ++ a ++ l ++ r ++ s ++ o)
  | .ldh d a l r s o => some (0x1D#6 ++ d ++ a ++ l ++ r ++ s ++ o)
  | .ldw d a l r s o => some (0x1E#6 ++ d ++ a ++ l ++ r ++ s ++ o)
  | .ldd d a l r s o => some (0x1F#6 ++ d ++ a ++ l ++ r ++ s ++ o)
  | .ldnb d a l r s o => some (0x20#6 ++ d ++ a ++ l ++ r ++ s ++ o)
  | .ldnh d a l r s o => some (0x21#6 ++ d ++ a ++ l ++ r ++ s ++ o)
  | .ldnw d a l r s o => some (0x22#6 ++ d ++ a ++ l ++ r ++ s ++ o)
  | .stb d a l r s o => some (0x23#6 ++ d ++ a ++ l ++ r ++ s ++ o)
  | .sth d a l r s o => some (0x24#6 ++ d ++ a ++ l ++ r ++ s ++ o)
  | .stw d a l r s o => some (0x25#6 ++ d ++ a ++ l ++ r ++ s ++ o)
  | .std d a l r s o => some (0x26#6 ++ d ++ a ++ l ++ r ++ s ++ o)
  | .ldv d a l r o => some (0x27#6 ++ d ++ a ++ l ++ r ++ 0x0#2 ++ o)
  | .stv d a l r o => some (0x28#6 ++ d ++ a ++ l ++ r ++ 0x0#2 ++ o)
  | .ldbp d a l r o => some (0x29#6 ++ d ++ a ++ l ++ r ++ 0x0#2 ++ o)
  | .stbp d a l r o => some (0x2A#6 ++ d ++ a ++ l ++ r ++ 0x0#2 ++ o)
  | .aadd d a b l => some (0x2B#6 ++ d ++ a ++ b ++ l ++ 0x1#7)
  | .aand d a b l => some (0x2B#6 ++ d ++ a ++ b ++ l ++ 0x2#7)
  | .aor d a b l => some (0x2B#6 ++ d ++ a ++ b ++ l ++ 0x3#7)
  | .axor d a b l => some (0x2B#6 ++ d ++ a ++ b ++ l ++ 0x4#7)
  | .amin d a b l => some (0x2B#6 ++ d ++ a ++ b ++ l ++ 0x5#7)
  | .amax d a b l => some (0x2B#6 ++ d ++ a ++ b ++ l ++ 0x6#7)
  | .aminn d a b l => some (0x2B#6 ++ d ++ a ++ b ++ l ++ 0x7#7)
  | .amaxn d a b l => some (0x2B#6 ++ d ++ a ++ b ++ l ++ 0x8#7)
  | .aswap d a b l => some (0x2B#6 ++ d ++ a ++ b ++ l ++ 0x9#7)
  | .acas d a b l => some (0x2B#6 ++ d ++ a ++ b ++ l ++ 0xA#7)
  | .afadd d a b l => some (0x2B#6 ++ d ++ a ++ b ++ l ++ 0xB#7)
  | .abump d a b l => some (0x2B#6 ++ d ++ a ++ b ++ l ++ 0xC#7)
  | .atmerge d a b l => some (0x2B#6 ++ d ++ a ++ b ++ l ++ 0xD#7)
  | .aaddRx a b => some (0x2B#6 ++ 0x0#5 ++ a ++ b ++ 0x0#4 ++ 0x41#7)
  | .aandRx a b => some (0x2B#6 ++ 0x0#5 ++ a ++ b ++ 0x0#4 ++ 0x42#7)
  | .aorRx a b => some (0x2B#6 ++ 0x0#5 ++ a ++ b ++ 0x0#4 ++ 0x43#7)
  | .axorRx a b => some (0x2B#6 ++ 0x0#5 ++ a ++ b ++ 0x0#4 ++ 0x44#7)
  | .aminRx a b => some (0x2B#6 ++ 0x0#5 ++ a ++ b ++ 0x0#4 ++ 0x45#7)
  | .amaxRx a b => some (0x2B#6 ++ 0x0#5 ++ a ++ b ++ 0x0#4 ++ 0x46#7)
  | .aminnRx a b => some (0x2B#6 ++ 0x0#5 ++ a ++ b ++ 0x0#4 ++ 0x47#7)
  | .amaxnRx a b => some (0x2B#6 ++ 0x0#5 ++ a ++ b ++ 0x0#4 ++ 0x48#7)
  | .afaddRx a b => some (0x2B#6 ++ 0x0#5 ++ a ++ b ++ 0x0#4 ++ 0x4B#7)
  | .atmergeRx a b => some (0x2B#6 ++ 0x0#5 ++ a ++ b ++ 0x0#4 ++ 0x4D#7)
  | .wstate d a l o => some (0x2C#6 ++ d ++ a ++ l ++ 0x0#1 ++ 0x0#2 ++ 0x0#2 ++ o)
  | .wset d a l o => some (0x2C#6 ++ d ++ a ++ l ++ 0x0#1 ++ 0x0#2 ++ 0x1#2 ++ o)
  | .fenceCore => some (0x2D#6 ++ 0x0#5 ++ 0x0#5 ++ 0x0#5 ++ 0x0#4 ++ 0x1#7)
  | .fenceNode => some (0x2D#6 ++ 0x0#5 ++ 0x0#5 ++ 0x0#5 ++ 0x0#4 ++ 0x2#7)
  | .fenceDev => some (0x2D#6 ++ 0x0#5 ++ 0x0#5 ++ 0x0#5 ++ 0x0#4 ++ 0x3#7)
  | .fencePod => some (0x2D#6 ++ 0x0#5 ++ 0x0#5 ++ 0x0#5 ++ 0x0#4 ++ 0x4#7)
  | .bclose d t => some (0x2D#6 ++ d ++ 0x0#5 ++ 0x0#5 ++ 0x0#4 ++ 0x2#5 ++ t)
  | .btest d t => some (0x2D#6 ++ d ++ 0x0#5 ++ 0x0#5 ++ 0x0#4 ++ 0x3#5 ++ t)
  | .waitany d a => some (0x2E#6 ++ d ++ a ++ 0x0#5 ++ 0x0#4 ++ 0x1#7)
  | .waitall a => some (0x2E#6 ++ 0x0#5 ++ a ++ 0x0#5 ++ 0x0#4 ++ 0x2#7)
  | .ffready d a => some (0x2E#6 ++ d ++ a ++ 0x0#5 ++ 0x0#4 ++ 0x3#7)
  | .tagclr a => some (0x2E#6 ++ 0x0#5 ++ a ++ 0x0#5 ++ 0x0#4 ++ 0x4#7)
  | .fork d a b => some (0x2F#6 ++ d ++ a ++ b ++ 0x0#4 ++ 0x1#7)
  | .spawnat d a b l => some (0x2F#6 ++ d ++ a ++ b ++ l ++ 0x2#7)
  | .join a l => some (0x2F#6 ++ 0x0#5 ++ a ++ 0x0#5 ++ l ++ 0x3#7)
  | .exit a => some (0x2F#6 ++ 0x0#5 ++ a ++ 0x0#5 ++ 0x0#4 ++ 0x4#7)
  | .yield => some (0x2F#6 ++ 0x0#5 ++ 0x0#5 ++ 0x0#5 ++ 0x0#4 ++ 0x5#7)
  | .nextw d => some (0x2F#6 ++ d ++ 0x0#5 ++ 0x0#5 ++ 0x0#4 ++ 0x6#7)
  | .sendr a b => some (0x30#6 ++ 0x0#5 ++ a ++ b ++ 0x0#4 ++ 0x1#7)
  | .sendrRl a b => some (0x30#6 ++ 0x0#5 ++ a ++ b ++ 0x0#4 ++ 0x2#7)
  | .sendrB a b t => some (0x30#6 ++ 0x0#5 ++ a ++ b ++ 0x0#4 ++ 0x4#5 ++ t)
  | .sendrRlB a b t => some (0x30#6 ++ 0x0#5 ++ a ++ b ++ 0x0#4 ++ 0x5#5 ++ t)
  | .takeG d a => some (0x30#6 ++ d ++ a ++ 0x0#5 ++ 0x0#4 ++ 0x8#7)
  | .takeV d a => some (0x30#6 ++ d ++ a ++ 0x0#5 ++ 0x0#4 ++ 0x9#7)
  | .emptyG a => some (0x30#6 ++ 0x0#5 ++ a ++ 0x0#5 ++ 0x0#4 ++ 0xA#7)
  | .emptyV a => some (0x30#6 ++ 0x0#5 ++ a ++ 0x0#5 ++ 0x0#4 ++ 0xB#7)
  | .ptestG d a => some (0x30#6 ++ d ++ a ++ 0x0#5 ++ 0x0#4 ++ 0xC#7)
  | .ptestV d a => some (0x30#6 ++ d ++ a ++ 0x0#5 ++ 0x0#4 ++ 0xD#7)
  | .self d => some (0x30#6 ++ d ++ 0x0#5 ++ 0x0#5 ++ 0x0#4 ++ 0xE#7)
  | .hreg d a b => some (0x30#6 ++ d ++ a ++ b ++ 0x0#4 ++ 0xF#7)
  | .plook d a l => some (0x31#6 ++ d ++ a ++ 0x0#5 ++ l ++ 0x1#7)
  | .pmake d a b l => some (0x31#6 ++ d ++ a ++ b ++ l ++ 0x2#7)
  | .patt d a l => some (0x31#6 ++ d ++ a ++ 0x0#5 ++ l ++ 0x3#7)
  | .pattT d a l => some (0x31#6 ++ d ++ a ++ 0x0#5 ++ l ++ 0x4#7)
  | .pdet a l => some (0x31#6 ++ 0x0#5 ++ a ++ 0x0#5 ++ l ++ 0x5#7)
  | .pseal a l => some (0x31#6 ++ 0x0#5 ++ a ++ 0x0#5 ++ l ++ 0x6#7)
  | .pevict a l => some (0x31#6 ++ 0x0#5 ++ a ++ 0x0#5 ++ l ++ 0x7#7)
  | .pfree a l => some (0x31#6 ++ 0x0#5 ++ a ++ 0x0#5 ++ l ++ 0x8#7)
  | .mmaz l => some (0x32#6 ++ 0x0#4 ++ 0x0#5 ++ 0x0#5 ++ 0x1#6 ++ l ++ 0x0#2)
  | .mma a b l g => some (0x32#6 ++ 0x0#4 ++ a ++ b ++ 0x2#6 ++ l ++ g)
  | .rfree l => some (0x32#6 ++ 0x0#4 ++ 0x0#5 ++ 0x0#5 ++ 0x3#6 ++ l ++ 0x0#2)
  | .epi a b l => some (0x32#6 ++ 0x1#4 ++ a ++ b ++ 0x1#6 ++ l ++ 0x0#2)
  | .copy a b l => some (0x32#6 ++ 0x2#4 ++ a ++ b ++ 0x1#6 ++ l ++ 0x0#2)
  | .gather a b l => some (0x32#6 ++ 0x2#4 ++ a ++ b ++ 0x2#6 ++ l ++ 0x0#2)
  | .scatter a b l => some (0x32#6 ++ 0x2#4 ++ a ++ b ++ 0x3#6 ++ l ++ 0x0#2)
  | .bins a b l => some (0x32#6 ++ 0x2#4 ++ a ++ b ++ 0x4#6 ++ l ++ 0x0#2)
  | .mcast a b l => some (0x32#6 ++ 0x2#4 ++ a ++ b ++ 0x5#6 ++ l ++ 0x0#2)
  | .freeb a l => some (0x32#6 ++ 0x2#4 ++ a ++ 0x0#5 ++ 0x6#6 ++ l ++ 0x0#2)
  | .fillw a b l => some (0x32#6 ++ 0x2#4 ++ a ++ b ++ 0x7#6 ++ l ++ 0x0#2)
  | .eset e a n => some (0x33#6 ++ e ++ a ++ n ++ 0x1#6 ++ 0x0#4 ++ 0x0#2)
  | .eget e d n => some (0x33#6 ++ e ++ d ++ n ++ 0x2#6 ++ 0x0#4 ++ 0x0#2)
  | .epop e d => some (0x33#6 ++ e ++ d ++ 0x0#5 ++ 0x3#6 ++ 0x0#4 ++ 0x0#2)
  | .ewait e d => some (0x33#6 ++ e ++ d ++ 0x0#5 ++ 0x4#6 ++ 0x0#4 ++ 0x0#2)
  | .etest e d => some (0x33#6 ++ e ++ d ++ 0x0#5 ++ 0x5#6 ++ 0x0#4 ++ 0x0#2)
  | .vadd d a b => some (0x34#6 ++ d ++ a ++ b ++ 0x0#4 ++ 0x1#10)
  | .vsub d a b => some (0x34#6 ++ d ++ a ++ b ++ 0x0#4 ++ 0x2#10)
  | .vmul d a b => some (0x34#6 ++ d ++ a ++ b ++ 0x0#4 ++ 0x3#10)
  | .vmad d a b c => some (0x34#6 ++ d ++ a ++ b ++ c ++ 0x4#10)
  | .vmin d a b => some (0x34#6 ++ d ++ a ++ b ++ 0x0#4 ++ 0x5#10)
  | .vmax d a b => some (0x34#6 ++ d ++ a ++ b ++ 0x0#4 ++ 0x6#10)
  | .vabs d a => some (0x34#6 ++ d ++ a ++ 0x0#4 ++ 0x0#4 ++ 0x7#10)
  | .vneg d a => some (0x34#6 ++ d ++ a ++ 0x0#4 ++ 0x0#4 ++ 0x8#10)
  | .vadds d a b => some (0x34#6 ++ d ++ a ++ b ++ 0x0#4 ++ 0x9#10)
  | .vsubs d a b => some (0x34#6 ++ d ++ a ++ b ++ 0x0#4 ++ 0xA#10)
  | .vmuls d a b => some (0x34#6 ++ d ++ a ++ b ++ 0x0#4 ++ 0xB#10)
  | .vand d a b => some (0x34#6 ++ d ++ a ++ b ++ 0x0#4 ++ 0x10#10)
  | .vor d a b => some (0x34#6 ++ d ++ a ++ b ++ 0x0#4 ++ 0x11#10)
  | .vxor d a b => some (0x34#6 ++ d ++ a ++ b ++ 0x0#4 ++ 0x12#10)
  | .vandn d a b => some (0x34#6 ++ d ++ a ++ b ++ 0x0#4 ++ 0x13#10)
  | .vshl d a b => some (0x34#6 ++ d ++ a ++ b ++ 0x0#4 ++ 0x18#10)
  | .vshr d a b => some (0x34#6 ++ d ++ a ++ b ++ 0x0#4 ++ 0x19#10)
  | .vshra d a b => some (0x34#6 ++ d ++ a ++ b ++ 0x0#4 ++ 0x1A#10)
  | .vcmpeq d a b => some (0x34#6 ++ d ++ a ++ b ++ 0x0#4 ++ 0x20#10)
  | .vcmpne d a b => some (0x34#6 ++ d ++ a ++ b ++ 0x0#4 ++ 0x21#10)
  | .vcmplt d a b => some (0x34#6 ++ d ++ a ++ b ++ 0x0#4 ++ 0x22#10)
  | .vcmple d a b => some (0x34#6 ++ d ++ a ++ b ++ 0x0#4 ++ 0x23#10)
  | .vsel d a b c => some (0x34#6 ++ d ++ a ++ b ++ c ++ 0x28#10)
  | .vperm d a b c => some (0x34#6 ++ d ++ a ++ b ++ c ++ 0x29#10)
  | .vcvt d a t p => some (0x34#6 ++ d ++ a ++ t ++ p ++ 0x30#10)
  | .vqscl d a b => some (0x34#6 ++ d ++ a ++ b ++ 0x0#4 ++ 0x31#10)
  | .vqnt d a b s => some (0x34#6 ++ d ++ a ++ b ++ s ++ 0x32#10)
  | .vexp2 d a l => some (0x34#6 ++ d ++ a ++ 0x0#4 ++ l ++ 0x38#10)
  | .vlog2 d a l => some (0x34#6 ++ d ++ a ++ 0x0#4 ++ l ++ 0x39#10)
  | .vrcp d a l => some (0x34#6 ++ d ++ a ++ 0x0#4 ++ l ++ 0x3A#10)
  | .vrsq d a l => some (0x34#6 ++ d ++ a ++ 0x0#4 ++ l ++ 0x3B#10)
  | .vdot d a b => some (0x34#6 ++ d ++ a ++ b ++ 0x0#4 ++ 0x40#10)
  | .vdots d a b => some (0x34#6 ++ d ++ a ++ b ++ 0x0#4 ++ 0x41#10)
  | .vrsum d a => some (0x34#6 ++ d ++ a ++ 0x0#4 ++ 0x0#4 ++ 0x48#10)
  | .vrmin d a => some (0x34#6 ++ d ++ a ++ 0x0#4 ++ 0x0#4 ++ 0x49#10)
  | .vrmax d a => some (0x34#6 ++ d ++ a ++ 0x0#4 ++ 0x0#4 ++ 0x4A#10)
  | .vsplat d a => some (0x35#6 ++ d ++ a ++ 0x0#5 ++ 0x1#11)
  | .vext d a b => some (0x35#6 ++ d ++ a ++ b ++ 0x2#11)
  | .vins d a b => some (0x35#6 ++ d ++ a ++ b ++ 0x3#11)
  | .tminit d => some (0x36#6 ++ d ++ 0x0#4 ++ 0x0#4 ++ 0x0#4 ++ 0x1#10)
  | .tmacc d a b l => some (0x36#6 ++ d ++ a ++ b ++ l ++ 0x2#10)
  | .tmmrg d a b l => some (0x36#6 ++ d ++ a ++ b ++ l ++ 0x3#10)
  | .tmfin d a l => some (0x36#6 ++ d ++ a ++ 0x0#4 ++ l ++ 0x4#10)
  | .tmload a p l => some (0x36#6 ++ 0x0#4 ++ a ++ p ++ l ++ 0x5#10)
  | .nop => some (0x37#6 ++ 0x0#5 ++ 0x0#5 ++ 0x0#16)
  | .trap a c => some (0x37#6 ++ 0x0#5 ++ a ++ 0x1#4 ++ c)
  | .rte => some (0x37#6 ++ 0x0#5 ++ 0x0#5 ++ 0x2000#16)
  | .srd d n => some (0x37#6 ++ d ++ 0x0#5 ++ 0x3#4 ++ n)
  | .swr a n => some (0x37#6 ++ 0x0#5 ++ a ++ 0x4#4 ++ n)
  | .bkpt c => some (0x37#6 ++ 0x0#5 ++ 0x0#5 ++ 0x5#4 ++ c)
  | .parkResume _ => none
  | .drainTimeout _ => none
  | .portAccept _ => none
  | .routeDeliver _ => none
  | .bankPerform _ => none
  | .waitListRetry _ => none
  | .reply _ => none
  | .targetFaultTrap _ => none
  | .fenceMarkerReturn _ _ => none
  | .summaryRequest _ _ _ => none
  | .summaryReply _ _ _ => none
  | .landingArrive _ => none
  | .landingTimeout _ _ => none
  | .routeHint _ => none
  | .routeInvalidate _ => none
  | .logAppend _ => none
  | .taskTake _ => none
  | .stealProbe _ => none
  | .stealRecordArrive _ => none
  | .stealRetry _ => none
  | .spawnArrive _ => none
  | .nodePartComplete _ _ => none
  | .doneMessage _ _ => none
  | .engineDispatch _ => none
  | .burinTake _ => none
  | .mmaComplete _ => none
  | .mmaGranuleStop _ => none
  | .epiTake _ => none
  | .epiComplete _ => none
  | .hartTake _ _ => none
  | .commandComplete _ _ => none
  | .freebArrive _ => none
  | .functionResult _ => none
  | .meanResult _ => none
  | .tableSwitch _ => none
  | .evictComplete _ _ => none
  | .plateTableStep _ => none
  | .preemptMark _ _ => none
  | .save _ => none
  | .saveComplete _ => none
  | .restore _ _ => none
  | .restoreCodeLoad _ _ => none
  | .preemptWithdraw _ => none
  | .snoopEvent _ _ => none
  | .launch _ => none
  | .placementRetry => none
  | .codeMulticast _ _ => none
  | .codeAck _ _ => none
  | .wait _ => none
  | .waitRemap _ => none
  | .waitTimeout _ => none
  | .signal _ => none
  | .plateop _ => none
  | .nopPacket _ => none
  | .packetReread _ => none
  | .download _ => none
  | .ctxset => none
  | .ctxend => none
  | .qreg => none
  | .qrestart => none
  | .qclass => none
  | .memwin => none
  | .podkey => none
  | .registerWrite _ _ => none
  | .hostMemAccess _ _ => none
  | .stateWindowRead _ => none
  | .bar2Write _ _ => none
  | .powerUpReset => none
  | .bucketPeriod _ => none
  | .thermalThrottle _ _ => none
  | .droopThrottle _ => none
  | .droopThrottleEnd _ => none
  | .thermalShutdown _ => none
  | .rotorMeeting _ _ => none
  | .relayOffer _ _ => none
  | .frameReceive _ _ _ => none
  | .podPacketArrive _ _ => none
  | .podReceipt _ _ => none
  | .podPacketExpire _ => none
  | .waitingNotice _ => none
  | .remoteReplyTimeout _ => none
  | .summaryPeerTimeout _ => none
  | .summaryResend _ _ _ => none
  | .peerLostDeclare _ => none
  | .lossNotice _ => none
  | .podJoin _ _ _ _ => none
  | .keyRotate _ _ => none
  | .keyTimeout _ _ => none
  | .wastedTurn _ => none
  | .probeEmptyReply _ => none
  | .thiefAnswer _ => none
  | .failedPresenceWindow _ _ => none
  | .installMessage _ _ => none
  | .unknownCommandCode _ => none
  | .relayDropRefusal _ => none

/-- The bytes of a word at rising addresses (R2). -/
def wordBytes (w : BitVec 32) : List (BitVec 8) :=
  [w.extractLsb' 0 8, w.extractLsb' 8 8, w.extractLsb' 16 8, w.extractLsb' 24 8]

/-- The instruction that the decoder reads from the bits `w` of a table row of `nbits` bits. -/
def decodeTableWord (nbits w : Nat) : Option Instr :=
  match decode (wordBytes (BitVec.ofNat 32 (w % 2 ^ nbits))) with
  | .ok i => some i
  | _ => none

end Sys2Proof
end

