-- ==== Sys2Proof/Machine/Turn.lean ====
section
/-! DEFINITION. A slot's turn up to the word it issues: throttling, target faults, replays, pre-emption at a safe point,
drain mode, fetch and decode (R63, R68, R73, R81, R104, R105, R161, R379, R402). -/

namespace Sys2Proof.Machine

/-! ### Safe points (R104) -/

/-- The one waiting access that a safe point in a WORD park allows: the last instruction issued (R104). -/
def waitingAcc (s : State) (sl : Nat) : Option Acc :=
  let x := s.slot sl
  match x.accs with
  | [a] => if decide (x.st = .parked) && decide (x.reason = .word) && accWaiting s a.id
      && decide (a.issued = x.cnt.get cntIssued) then some a else none
  | _ => none

/-- A tile runs a command of a thread (R104, R280), until it stops at a boundary. -/
def engineBusy (s : State) (sl : Nat) : Bool :=
  let th := (s.slot sl).th
  let t := s.tile (tileOfSlot sl)
  (match t.burin with | some j => decide (j.cmd.th = th) | none => false)
  || (match t.epi with | some j => decide (j.cmd.th = th) | none => false)

/-- A reply for an item is still due (R104, R190): the slot has not learned its outcome, which a summary brings (R185). A
record thus holds every outcome (R375, R408). -/
def itemDue (i : Item) : Bool := !i.known

/-- The ring tiles that a thread owns or that its commands reference, oldest first: a tile's number rises with its
allocation (R259). -/
def threadTiles (s : State) (sl : Nat) : List Nat :=
  let x := s.slot sl
  let cmds := (allCmds s).filter (fun c => decide (c.th = x.th) && decide (c.kind.engine ≠ 2))
  (x.owned ++ cmds.map (fun c => c.rt)).foldl insertNat []

/-- A command of the thread that still stands in the latch or in a queue of engine 0 or 1 (R280). -/
def queued01 (s : State) (sl : Nat) : Bool :=
  let k := s.core (coreOfSlot sl)
  (k.q0 ++ k.q1).any (fun c => decide (c.th = (s.slot sl).th))

/-- The slot stands at a safe point (R104): its commands of engines 0 and 1 are stopped or withdrawn (R280). -/
def safePoint (s : State) (sl : Nat) : Bool :=
  let x := s.slot sl
  let w := waitingAcc s sl
  let wid := match w with | some a => [a.id] | none => []
  let wm := match w with | some a => a.dest.mask | none => 0#48
  (decide (x.st = .running) || (decide (x.st = .parked) && decide (x.reason ≠ .idle)))
  && x.ending.isNone && x.tfault.isNone
  && (x.accs.isEmpty || w.isSome)
  && x.items.all (fun i => !itemDue i)
  && decide (incomplete s sl 2 = 0)
  && !engineBusy s sl && !queued01 s sl && x.latch.isNone
  && x.wins.all (fun v => wid.contains v.id)
  && decide (x.pend &&& ~~~wm = 0#48)

/-! ### Room for a save (R117, R374, R375) -/

/-- The first `n` numbers below `top` that are not in a list; none where there are too few. -/
def freeNumbers (used : List Nat) (top n : Nat) : Option (List Nat) :=
  let l := ((List.range top).filter (fun i => !used.contains i)).take n
  if l.length = n then some l else none

/-- The ring tile with a number, in a HELD place. -/
def ringOf (s : State) (t rt : Nat) : Option Ring :=
  (s.tile t).ring.toList.findSome? (fun p => match p with | some r => if r.rt = rt then some r else none | none => none)

/-- The ring tiles of a slot that hold places, oldest first. -/
def heldTiles (s : State) (sl : Nat) : List Nat :=
  (threadTiles s sl).filter (fun rt => (ringOf s (tileOfSlot sl) rt).isSome)

/-- The home core of a thread. -/
def homeOf (th : Thread) : Nat := coreOfSlot th.birth
/-- A thread's entry in its home core's away directory. -/
def awayOf (s : State) (th : Thread) : Option Away := (s.core (homeOf th)).away.find? (fun a => decide (a.th = th))

/-- The home directory of a thread has its entry, or a free one (R117). -/
def awayRoom (s : State) (th : Thread) : Bool :=
  (awayOf s th).isSome || decide ((s.core (homeOf th)).away.length < 32)

/-- A record and the spill areas that a slot's save needs; none where its context's pool is short. -/
def saveAreas (s : State) (sl : Nat) : Option (Nat × List Nat) :=
  match s.context (s.slot sl).ctx with
  | none => none
  | some c =>
    match freeNumbers c.usedRecs c.saveRecs 1, freeNumbers c.usedSpills c.spills (heldTiles s sl).length with
    | some [k], some js => some (k, js)
    | _, _ => none

/-- The slot's pre-emption is pending at a safe point, and its pool and home directory have room: it is saved (R105). -/
def saveReady (s : State) (sl : Nat) : Bool :=
  (s.slot sl).pre.isSome && safePoint s sl && awayRoom s (s.slot sl).th && (saveAreas s sl).isSome

/-! ### The turn -/

/-- The throttle level of a node (R402). -/
def throttleLevel (s : State) (n : Nat) : Nat :=
  let x := s.node n
  if x.droop.any (fun e => decide (e.1 ≤ s.cycle) && decide (s.cycle < e.2)) then max 4 x.level else x.level

/-- Turns of this cycle are lost to throttling at a node (R402). -/
def throttled (s : State) (n : Nat) : Bool := decide (s.cycle / 8 % 8 < throttleLevel s n)

/-- The register whose fill a replay waits for is full again (R73). -/
def replayDue (x : Slot) : Bool :=
  match x.replay with
  | some r => inMask x.pres r && !inMask x.pend r
  | none => false

/-- What a fetch finds (R63, R68, R390). -/
inductive Fetched where
  | trap (c : BitVec 8) (a f : Word)
  | ok (i : Instr)
  deriving DecidableEq, Repr

/-- The byte index of a slot's next word. -/
def fetchAddr (x : Slot) (sl : Nat) : Nat := codeBase (tileOfSlot sl) x.bank + x.pc

/-- The word at a slot's PC, in its code bank (R66). -/
def fetchBits (s : State) (sl : Nat) : List (BitVec 8) :=
  let a := fetchAddr (s.slot sl) sl
  [Memory.byte s.mem a, Memory.byte s.mem (a + 1), Memory.byte s.mem (a + 2), Memory.byte s.mem (a + 3)]

/-- Fetch and decode at a slot's PC (R63, R64, R68, R382). A correctable error of the word is corrected as the turn begins. -/
def fetch (s : State) (sl : Nat) : Fetched :=
  let x := s.slot sl
  if 4 * x.n ≤ x.pc then .trap causeFETCH (wd x.pc) 3#64
  else if s.bad.contains (fetchAddr x sl / 8) then .trap causeDEVERR (wd x.pc) (infoDev 0 1)
  else
    match decode (fetchBits s sl) with
    | .ok i => .ok i
    | .ill r => .trap causeILL 0 (infoIll r (BitVec.ofNat 32 (Memory.readNat s.mem (fetchAddr x sl) 4)))
    | .short => .trap causeFETCH (wd x.pc) 3#64

/-- What a turn comes to. -/
inductive TurnAct where
  /-- a word or an event of the table takes it -/
  | run (i : Instr)
  /-- a fetch or decode trap (R378) -/
  | trap (c : BitVec 8) (a f : Word)
  deriving DecidableEq, Repr

/-- A thread whose home directory is full runs on with no pre-emption pending (R117). -/
def Slot.keepRunning (x : Slot) (room : Bool) : Slot :=
  if x.pre.isSome && !room then { x with pre := none, drain := false } else x

/-- The slot fetches in this turn (R81, R402): what the turn comes to otherwise stands in `turnAct`. -/
def fetches (s : State) (sl : Nat) : Bool :=
  let x := s.slot sl
  !noThread x && !throttled s (nodeOfSlot sl) && x.tfault.isNone && !saveReady s sl && !replayDue x && !x.drain
    && decide (x.pc < 4 * x.n)

/-- A correctable error of the code word that a slot fetches is corrected, written back and counted (R156, R382). -/
def correctFetch (s : State) (sl : Nat) : State :=
  if fetches s sl && s.corr.contains (fetchAddr (s.slot sl) sl / 8) then s.ecc (nodeOfSlot sl) (fetchAddr (s.slot sl) sl) else s

/-- The turn begins: its slot is the current one; a target fault under INH goes to the deferred-fault record (R378); a
pre-emption that a full home directory keeps from being saved is no longer pending (R117). -/
def beginTurn (s : State) (sl : Nat) : State :=
  correctFetch ({ s with cur := sl }.updSlot sl (fun x =>
    let x := { x with turnAt := s.cycle + 1 }.keepRunning (!safePoint s sl || awayRoom s x.th)
    match x.tfault with
    | some f => if x.inh && x.ending.isNone then { x with tfault := none }.defer f else x
    | none => x)) sl

/-- What the turn of a slot comes to, once it has begun (R73, R81, R105, R379, R402). -/
def turnAct (s : State) (sl : Nat) : TurnAct :=
  let x := s.slot sl
  if noThread x || throttled s (nodeOfSlot sl) then .run (.wastedTurn sl)
  else if x.tfault.isSome then .run (.targetFaultTrap sl)
  else if saveReady s sl then .run (.save sl)
  else if replayDue x || x.drain then .run (.wastedTurn sl)
  else
    match fetch s sl with
    | .trap c a f => .trap c a f
    | .ok i => .run i

/-! ### Results that are due -/

/-- The event of the first pipeline result that is due (R222, R242). -/
def dueResult (s : State) : Option Instr :=
  match s.pipe.find? (fun p => decide (p.due ≤ s.cycle)) with
  | some p => some (if p.mean then .meanResult p.sl else .functionResult p.sl)
  | none => none

end Sys2Proof.Machine
end

