-- ==== Sys2Proof/Machine/Burin.lean ====
section
/-! DEFINITION. The Burin and the epilogue engine of a tile (R258 to R268, R276 to R281, R283): dispatch, commands that a
pre-emption withdraws, operand reads one word at a time, array steps, output writes one at a time. -/

namespace Sys2Proof.Machine

/-! ### From the latch to the queues (R206, R261, R287) -/

/-- The dispatch queue of an engine at a core. -/
def Core.queueOf (c : Core) (e : Nat) : List Cmd := if e = 0 then c.q0 else if e = 1 then c.q1 else c.q2
/-- Replaces a dispatch queue. -/
def Core.setQueue (c : Core) (e : Nat) (q : List Cmd) : Core :=
  if e = 0 then { c with q0 := q } else if e = 1 then { c with q1 := q } else { c with q2 := q }

/-- An earlier access of the slot has not been performed in the sense of R199 (R206): a plain access or relaxed load until
its reply is at the slot, a relaxed store, atomic or SENDR until it has settled. -/
def earlierOpen (s : State) (sl id : Nat) : Bool :=
  (s.slot sl).accs.any (fun a => a.counts && decide (a.id < id) && !(a.relaxed && decide (a.dest = .none)))
  || s.reqs.any (fun r => r.ofSlot sl && r.item.isSome && decide (r.id < id) && !r.stage.isReplied)

/-- Another slot of the core holds an earlier command for the engine in its latch; entries of engines 0 and 1 enter in
issue order (R261). -/
def earlierLatch (s : State) (sl : Nat) (c : Cmd) : Bool :=
  decide (c.kind.engine ≠ 2) && (slotsOfCore (coreOfSlot sl)).any (fun k =>
    match (s.slot k).latch with
    | some d => decide (d.kind.engine = c.kind.engine) && decide (d.id < c.id)
    | none => false)

/-! ### Commands that a pending pre-emption withdraws (R280, R281) -/

/-- The B-SRAM plate of a tile whose entry covers an address, with its base address (R281). -/
def coveringPlate (s : State) (tile ctx addr : Nat) : Option (Plate × Nat) :=
  let n := nodeOfTile tile
  let o := addr % 2 ^ 42
  ((List.range 64).map (fun e => s.plate n e)).findSome? (fun p =>
    let a := plateAddr n p
    if p.kind ∧ p.unit = tile % 16 ∧ p.st ≠ .free ∧ p.st ≠ .evicted ∧ p.ctx = ctx ∧ a ≤ o ∧ o < a + p.len * 2048 then
      some (p, a) else none)

/-- The command as it stands at its stop: the plate over B and the offset in it (R281, words 6 and 7). -/
def Cmd.atStop (c : Cmd) (s : State) : Cmd :=
  match (if c.kind = .mma then coveringPlate s (tileOfSlot c.sl) c.ctx (ptrAddr c.b) else none) with
  | some q => { c with plate := q.1.name, off := ptrAddr c.b % 2 ^ 42 - q.2 }
  | none => { c with plate := 0#64, off := 0 }

/-- Puts a command among others in issue order. -/
def insertCmd : List Cmd → Cmd → List Cmd
  | [], c => [c]
  | d :: l, c => if c.id < d.id then c :: d :: l else d :: insertCmd l c

/-- A command stops, or is withdrawn: it stands aside until the save, or until the pre-emption is withdrawn. -/
def stopCmd (s : State) (c : Cmd) : State :=
  s.updSlot c.sl (fun x => { x with stopped := insertCmd x.stopped (c.atStop s) })

/-- A pre-emption is pending on a command's slot, which stops the command (R280). -/
def prePending (s : State) (c : Cmd) : Bool :=
  decide ((s.slot c.sl).th = c.th) && (s.slot c.sl).pre.isSome && decide (c.kind.engine ≠ 2)

/-- Every command of the slot that its engine has not taken leaves its queue or the latch (R280). -/
def withdrawCmds (s : State) (sl : Nat) : State :=
  let core := coreOfSlot sl
  let k := s.core core
  let out := ((s.slot sl).latch.toList ++ k.q0 ++ k.q1).filter (fun c => decide (c.sl = sl) && prePending s c)
  if out = [] then s
  else
    let stays := fun (c : Cmd) => !out.contains c
    let t := s.updCore core (fun k => { k with q0 := k.q0.filter stays, q1 := k.q1.filter stays })
    let u := t.updSlot sl (fun x =>
      match x.latch with
      | some c => if stays c then x else { x.closeWin c.id with latch := none }
      | none => x)
    out.foldl stopCmd u

/-- A command enters the dispatch queue of its engine, changing its slot by `f`, where the queue has room and every earlier
access is performed (R206, R261); modules are asked for what the slot cannot see (log entry 11). -/
def enterQueue (s : State) (sl : Nat) (c : Cmd) (f : Slot → Slot) : State :=
  let k := s.core (coreOfSlot sl)
  let q := k.queueOf c.kind.engine
  if earlierOpen s sl c.id then s.updSlot sl (fun x => (List.range 4).foldl (fun y t => y.askModules t) x)
  else if 4 ≤ q.length ∨ earlierLatch s sl c then s
  else (s.setCore (coreOfSlot sl) (k.setQueue c.kind.engine (q ++ [c]))).updSlot sl f

/-- The first command that stands aside comes back once no pre-emption stops it. -/
def rejoin (s : State) (sl : Nat) : State :=
  match (s.slot sl).stopped with
  | [] => s
  | c :: rest => if prePending s c then s else enterQueue s sl c (fun y => { y with stopped := rest })

/-- ENGINE_DISPATCH (R206, R261, R280, R287): the latched command enters its queue, and its window closes. While a
pre-emption is pending a command of engine 0 or 1 is withdrawn instead; once the pre-emption is withdrawn, the commands that stand
aside come back first. -/
def execEngineDispatch (sl : Nat) (s : State) : Out :=
  match (s.slot sl).latch with
  | none => go (rejoin s sl)
  | some c =>
    if prePending s c then go (withdrawCmds s sl)
    else if c.kind.engine = 2 ∨ (s.slot sl).stopped = [] then
      go (enterQueue (rejoin s sl) sl c (fun y => { y.closeWin c.id with latch := none }))
    else go (rejoin s sl)

/-! ### Words that engines 0 and 1 read and write -/

/-- A changed word state starts its wake walk (R165). -/
def wakeWord (s : State) (loc : Nat) (before : BitVec 2) : State :=
  if isStore loc ∧ s.wordState loc ≠ before then
    startWalk s ((loc - 0x20000000000) / 32768) (loc / 8 * 8)
  else s

/-- One 64-bit word read by an engine at node `n`: the word, and the reason of R163 where it is POISON or uncorrectable
(R266, R277). It neither waits on nor changes word states. -/
def engineRead (s : State) (n loc : Nat) : State × Word × Nat :=
  let b := s.wordState loc
  let t := s.ecc n loc
  let v := wd (t.load loc 8)
  let r := if poisoned (t.wordState loc) then poisonReason t loc else 0
  (wakeWord t loc b, v, r)

/-- A fault of a running command goes to the slot's engine status word (R276), whichever thread the slot now holds. -/
def recordEngine (s : State) (c : Cmd) (reason : Nat) : State :=
  let put := fun (w : Word) =>
    if w.getLsbD 63 then w ||| (1#64 <<< 62)
    else wd (2 ^ 63 + c.pca % 65536 * 2 ^ 32 + causePOISON.toNat * 2 ^ 8 + reason)
  s.updSlot c.sl (fun x =>
    if c.kind.engine = 0 then { x with estat0 := put x.estat0 } else { x with estat1 := put x.estat1 })

/-- A completion write at a core's tag unit (R207, R278, R292). -/
def setTag (s : State) (core tag : Nat) (err : Bool) : State :=
  s.updCore core (fun c =>
    { c with tags := c.tags ||| (1#64 <<< tag), tagerr := if err then c.tagerr ||| (1#64 <<< tag) else c.tagerr })

/-! ### Ring places (R260) -/

/-- Changes a ring tile. -/
def updRing (s : State) (t rt : Nat) (f : Ring → Ring) : State :=
  s.updTile t (fun x => { x with ring := x.ring.map (fun p =>
    match p with | some r => if r.rt = rt then some (f r) else some r | none => none) })

/-- Frees the place of a ring tile. -/
def freeRing (s : State) (t rt : Nat) : State :=
  s.updTile t (fun x => { x with ring := x.ring.map (fun p =>
    match p with | some r => if r.rt = rt then none else some r | none => none) })

/-- The lowest FREE place. -/
def freePlace (s : State) (t : Nat) : Option (Fin 8) :=
  (List.finRange 8).find? (fun i => ((s.tile t).ring.get i).isNone)

/-- Puts a ring tile into a place. -/
def holdRing (s : State) (t : Nat) (i : Fin 8) (r : Ring) : State :=
  s.updTile t (fun x => { x with ring := x.ring.set i (some r) })

/-! ### The Burin takes a command (R262) -/

/-- The command whose id is `id` leaves a core's queue. -/
def leaveQueue (s : State) (core e id : Nat) : State :=
  s.updCore core (fun c => c.setQueue e ((c.queueOf e).filter (fun d => decide (d.id ≠ id))))

/-- The first takeable entry of a Burin queue; `ahead` holds the slots with an untaken MMAZ ahead. -/
def burinPick (s : State) (t : Nat) : List Nat → List Cmd → Option Cmd
  | _, [] => none
  | ahead, c :: rest =>
    if c.kind = .rfree then some c
    else if ahead.contains c.sl then burinPick s t ahead rest
    else if c.kind = .mmaz then
      if (freePlace s t).isSome then some c else burinPick s t (c.sl :: ahead) rest
    else some c

/-- The next command in core rotation; `rot` is the core to begin with. -/
def rotate (rot : Nat) (pick : Nat → Option Cmd) : Option (Nat × Cmd) :=
  [0, 1, 2, 3].findSome? (fun i => (pick ((rot + i) % 4)).map (fun c => ((rot + i) % 4, c)))

/-- An accepted MMAZ takes the lowest FREE place and completes (R260); a tile nobody owns is freed at once (R283). -/
def acceptMmaz (s : State) (t : Nat) (c : Cmd) : State :=
  match freePlace s t with
  | none => s
  | some i =>
    sweepRing (holdRing s t i { rt := c.rt, mode := c.mode, poison := false, acc := Vector.replicate 256 0#32, th := c.th }) t

/-- BURIN_TAKE (R262): the Burin is idle; an MMAZ or RFREE occupies it for the cycle. -/
def execBurinTake (tile : Nat) (s : State) : Out :=
  let x := s.tile tile
  if x.burin.isSome || decide (x.burinAt = s.cycle + 1) then go s
  else
    match rotate x.brot (fun i => burinPick s tile [] (s.core (tile * 4 + i)).q0) with
    | none => go s
    | some (i, c) =>
      let s := (leaveQueue s (tile * 4 + i) 0 c.id).updTile tile (fun y => { y with brot := (i + 1) % 4 })
      match c.kind with
      | .mmaz => go ((acceptMmaz s tile c).updTile tile (fun y => { y with burinAt := s.cycle + 1 }))
      | .rfree => go ((sweepRing s tile).updTile tile (fun y => { y with burinAt := s.cycle + 1 }))
      | _ =>
        let job : BurinJob := { cmd := c, since := s.cycle, j := c.nextJ, r := c.nextR, bw := [], aw := [] }
        go (s.updTile tile (fun y => { y with burin := some job }))

/-! ### The steps of an MMA (R264 to R268) -/

/-- Planes that a read at a format's depth and rounding fetches (R264). -/
def planesRead (f : Nat) : Nat := if fmtR f && decide (fmtK f < fmtS f) then fmtK f + 1 else fmtK f
/-- Words of one block that are read: the header and the words of those planes. -/
def wordsRead (f l : Nat) : Nat := 1 + (planesRead f * 2 ^ (l - 3) + 7) / 8

/-- q_k of element `i` of a block read as words, header first (R41 to R43). -/
def blockQ (f l : Nat) (ws : List Word) (i : Nat) : Int :=
  let q8 : Int := (List.range (planesRead f)).foldl (fun (a : Int) p =>
    let o := p * 2 ^ (l - 3) + i / 8
    let b := (nth 0#64 ws (1 + o / 8)).toNat / 2 ^ (8 * (o % 8) + i % 8) % 2
    a + (if p = 0 then -((128 * b : Nat) : Int) else ((2 ^ (7 - p) * b : Nat) : Int))) 0
  qkOf q8 (fmtK f) (fmtS f) (fmtR f)

/-- E of a block read as words. -/
def blockE (ws : List Word) : Nat := (nth 0#64 ws 0).toNat % 256

/-- The accumulator after one group (R54 to R56). -/
def addGroup (mode : Bool) (acc : BitVec 32) (fa fb l : Nat) (aw bw : List Word) : BitVec 32 :=
  let ps := (List.range (2 ^ l)).map (fun i => (blockQ fa l aw i, blockQ fb l bw i))
  if mode then BitVec.ofInt 32 (satS (acc.toInt + groupSum ps) 32)
  else BitVec.ofNat 32 (fadd acc.toNat (groupValue ps (fmtK fa) (fmtK fb) (blockE aw) (blockE bw)))

/-- A step: row r by the eight columns (R264). `bw` holds the words of the eight B blocks, `n` for each. -/
def addRow (x : Ring) (r fa fb l n : Nat) (aw bw : List Word) : Ring :=
  { x with acc := Vector.ofFn (fun (i : Fin 256) =>
      if i.val / 8 = r then addGroup x.mode (x.acc.get i) fa fb l aw ((bw.drop (i.val % 8 * n)).take n)
      else x.acc.get i) }

/-- Array time of one step (R265, R279). -/
def stepTime (s : State) (t : Nat) (c : Cmd) : Nat :=
  let one := max 1 (2 ^ (ptrL c.a) / 64) * ((fmtK (ptrFmt c.a) * fmtK (ptrFmt c.b) + 3) / 4)
  if (s.tile t).rbus = 1 then 2 * one else one

/-- Steps made since the command was taken or resumed. -/
def BurinJob.steps (x : BurinJob) : Nat :=
  x.j * extOf x.cmd.desc 0 + x.r - (x.cmd.nextJ * extOf x.cmd.desc 0 + x.cmd.nextR)

/-- The command stands at a granule boundary (R76) that lies after a step made since it was taken. -/
def BurinJob.atBoundary (x : BurinJob) : Bool :=
  decide (0 < x.steps) && x.aw.isEmpty
  && (if x.cmd.sg = 1#2 then decide (x.r = 0) && x.bw.isEmpty && decide (x.j % 16 = 0)
      else if x.cmd.sg = 2#2 then decide (x.r = 0) && x.bw.isEmpty
      else decide (x.cmd.sg = 3#2))

/-- The command must stop where it stands (R280). -/
def mustStop (s : State) (x : BurinJob) : Bool :=
  prePending s x.cmd && x.atBoundary && decide (x.j < kBlocks x.cmd.desc)

/-- The word that the command reads next, as a byte index (R266 to R268). -/
def burinNext (s : State) (t : Nat) (x : BurinJob) : Nat :=
  let c := x.cmd
  let nb := wordsRead (ptrFmt c.b) (ptrL c.b)
  if x.bw.length < 8 * nb then
    (ptrAddr c.b + x.bw.length / nb * colStride s t + x.j * blockStride (ptrL c.b) (fmtS (ptrFmt c.b))
      + 8 * (x.bw.length % nb)) % 2 ^ 42
  else ((aBlock c.a c.desc x.r x.j + 8 * x.aw.length) % (2 ^ 42 : Nat)).toNat

/-- The job after a word; with the last word of the A block the step is made. -/
def burinStep (s : State) (t : Nat) (x : BurinJob) (w : Word) : State :=
  let c := x.cmd
  let nb := wordsRead (ptrFmt c.b) (ptrL c.b)
  let na := wordsRead (ptrFmt c.a) (ptrL c.a)
  let put := fun (s : State) (y : BurinJob) => s.updTile t (fun z => { z with burin := some y })
  if x.bw.length < 8 * nb then put s { x with bw := x.bw ++ [w] }
  else
    let aw := x.aw ++ [w]
    if aw.length < na then put s { x with aw := aw }
    else
      let s := updRing s t c.rt (fun r => addRow r x.r (ptrFmt c.a) (ptrFmt c.b) (ptrL c.a) nb aw x.bw)
      let x := { x with since := max x.since s.cycle + stepTime s t c }
      if x.r + 1 < extOf c.desc 0 then put s { x with r := x.r + 1, aw := [] }
      else put s { x with j := x.j + 1, r := 0, aw := [], bw := [] }

/-- The Burin's next operand word (R266): a POISON word poisons the ring tile and is recorded. In a throttled cycle it
makes no step (R402). -/
def performBurin (s : State) (t : Nat) : State :=
  match (s.tile t).burin with
  | none => s
  | some x =>
    if mustStop s x || throttled s (nodeOfTile t) || decide (kBlocks x.cmd.desc ≤ x.j) then s
    else
      atBank s (burinNext s t x) 8 (fun s =>
        let e := engineRead s (nodeOfTile t) (burinNext s t x)
        let s := if e.2.2 = 0 then e.1
          else recordEngine (updRing e.1 t x.cmd.rt (fun r => { r with poison := true })) x.cmd e.2.2
        burinStep s t x e.2.1)

/-- Adds cycles to CONFL of the command's slot, whichever thread it now holds (R265, R272). -/
def addConfl (s : State) (c : Cmd) (n : Nat) : State :=
  s.updSlot c.sl (fun x => { x with edesc0 := x.edesc0.set 12 (x.edesc0.get 12 + wd n) })

/-- The present pass waits for a word of A (R265, R268). -/
def BurinJob.waitsA (x : BurinJob) : Bool :=
  decide (x.bw.length = 8 * wordsRead (ptrFmt x.cmd.b) (ptrL x.cmd.b)) && decide (x.j < kBlocks x.cmd.desc)

/-- A cycle passes at a tile: CONFL rises where the array is free and its pass waits for a word of A (R265, R268); a cycle
lost to throttling is none of the array's (R402), and neither is one in which words of B are read. -/
def tickBurin (s : State) (t : Nat) : State :=
  match (s.tile t).burin with
  | none => s
  | some x =>
    let late := fun (s : State) => s.updTile t (fun z => { z with burin := some { x with since := max x.since s.cycle + 1 } })
    if kBlocks x.cmd.desc ≤ x.j ∧ x.since ≤ s.cycle then s
    else if throttled s (nodeOfTile t) then late s
    else if s.cycle < x.since then s
    else if x.waitsA && !mustStop s x then addConfl (late s) x.cmd 1
    else late s

/-- MMA_COMPLETE (R265): every step is made, and the array time of the last has passed. -/
def execMmaComplete (tile : Nat) (s : State) : Out :=
  match (s.tile tile).burin with
  | none => go s
  | some x =>
    if x.j < kBlocks x.cmd.desc ∨ s.cycle < x.since then go s
    else go (sweepRing (s.updTile tile (fun y => { y with burin := none })) tile)

/-- MMA_GRANULE_STOP (R280): the command stops at the boundary, with NEXTJ and NEXTR, until the save takes it or the
pre-emption is withdrawn. -/
def execMmaGranuleStop (tile : Nat) (s : State) : Out :=
  match (s.tile tile).burin with
  | none => go s
  | some x =>
    if !mustStop s x ∨ s.cycle < x.since then go s
    else go (stopCmd (s.updTile tile (fun z => { z with burin := none })) { x.cmd with nextJ := x.j, nextR := x.r })

/-! ### The epilogue (R263, R277, R278) -/

/-- An MMA that references a ring tile has not completed, from its issue on (R263). -/
def mmaOpen (s : State) (rt : Nat) : Bool := (allCmds s).any (fun c => decide (c.kind = .mma) && decide (c.rt = rt))

/-- The first takeable EPI of a queue; `ahead` holds the slots with an EPI passed. An EPI whose tile holds no place yet, its MMAZ
being unaccepted, is not takeable either: R263 names only MMAs, and this is the model's choice (log entry 112). -/
def epiPick (s : State) (t : Nat) : List Nat → List Cmd → Option Cmd
  | _, [] => none
  | ahead, c :: rest =>
    if !ahead.contains c.sl && (ringOf s t c.rt).isSome && !mmaOpen s c.rt then some c
    else epiPick s t (c.sl :: ahead) rest

/-- EPI_TAKE (R263). -/
def execEpiTake (tile : Nat) (s : State) : Out :=
  let x := s.tile tile
  if x.epi.isSome then go s
  else
    match rotate x.erot (fun i => epiPick s tile [] (s.core (tile * 4 + i)).q1) with
    | none => go s
    | some (i, c) =>
      let job : EpiJob := { cmd := c, tw := [], writes := 0, psn := false, bad := false, busy := false }
      go ((leaveQueue s (tile * 4 + i) 1 c.id).updTile tile (fun y => { y with erot := (i + 1) % 4, epi := some job }))

/-- SBPTR and ROWSTRIDE of an EPI. -/
def epiSbp (c : Cmd) : Word := nth 0#64 c.desc 0
def epiRs (c : Cmd) : Word := nth 0#64 c.desc 1

/-- The FP32 pattern at byte `o` of the table words. -/
def epiTable (tw : List Word) (o : Nat) : Nat := (nth 0#64 tw (o / 8)).toNat / 2 ^ (8 * (o % 8)) % 2 ^ 32

/-- y of element (r, c) (R277). -/
def epiValue (x : EpiJob) (k : Ring) (r c : Nat) : Nat :=
  let acc := k.acc.get (Fin.ofNat 256 (8 * r + c))
  let v := if k.mode then r32 (Fp.ofInt acc.toInt) else acc.toNat
  let sc := if epiSbp x.cmd = 0#64 then 0x3F800000 else epiTable x.tw (4 * c)
  let bi := if epiSbp x.cmd = 0#64 then 0 else epiTable x.tw (32 + 4 * c)
  let y := r32 (Fp.sum [(f32 v).mul (f32 sc), f32 bi])
  let act := bits x.cmd.b.toNat 9 8
  if act = 1 then (if (f32 y).isNan then y else if 2 ^ 31 ≤ y then 0 else y)
  else if act = 2 then exp2Pat y else y

/-- The data of write `i` (R277). -/
def epiData (x : EpiJob) (k : Ring) (i : Nat) : Nat :=
  let f := ptrFmt x.cmd.a
  if isPlanes f then
    let n := epiBlock f
    let e := bits x.cmd.b.toNat 23 16
    if i % n = 0 then e
    else if fmtS f < i % n then 0
    else
      (List.range 32).foldl (fun a r =>
        let q := (q8Of (f32 (epiValue x k r (i / n))) e (fmtS f) % 256).toNat
        a + q / 2 ^ (7 - (i % n - 1)) % 2 * 2 ^ r) 0
  else
    let y := epiValue x k (i / 8) (i % 8)
    if f = 0x0A then y else (f32 y).encode (if f = 8 then fp16 else bf16)

/-- A request of an engine or a hart to another module (R286, R342). -/
def engineRemote (s : State) (own : Owner) (ctx node pos ea limit : Nat) (op : MemOp) : State :=
  let r : Req :=
    { id := s.nextId, stamp := s.nextId, own := own, ctx := ctx, src := node, op := op, ea := wd ea, loc := ea % 2 ^ 42,
      tgt := .remote pos, relaxed := false, rl := false, item := none, acc := s.nextId, part := 0, info := 0#64,
      limit := limit, misses := 0, stage := .sent s.cycle }
  sendPod { s with reqs := s.reqs ++ [r], nextId := s.nextId + 1 } pos (some (pctxOf s ctx)) 0
    (own.cls s) (r.packet 1 0) (some r.id)

/-- A table word has been read; a POISON one makes every write POISON (R278). -/
def EpiJob.word (x : EpiJob) (v : Word) (bad : Bool) : EpiJob :=
  { x with tw := x.tw ++ [v], psn := x.psn || bad, busy := false }

/-- One write of the epilogue (R278): the word takes state FULL, or POISON with data 0; a narrow write to a POISON word
is refused and recorded. -/
def epiPut (s : State) (t : Nat) (x : EpiJob) (k : Ring) : State :=
  let w := epiWriteAt x.cmd.a (epiRs x.cmd) x.writes
  let loc := w.1 % 2 ^ 42
  let b := s.wordState loc
  let s1 := if w.2 < 8 then s.ecc (nodeOfTile t) loc else s
  let psn := x.psn || k.poison
  let next := fun (bad : Bool) (s : State) =>
    s.updTile t (fun y => { y with epi := some { x with writes := x.writes + 1, bad := x.bad || bad } })
  if w.2 < 8 ∧ poisoned (s1.wordState loc) then
    next true (wakeWord (recordEngine s1 x.cmd (poisonReason s1 loc)) loc b)
  else if psn then next true (wakeWord (s1.poisonWord loc w.2) loc b)
  else next false (wakeWord (epiWrite s1 (nodeOfTile t) loc w.2 (epiData x k x.writes)).1 loc b)

/-- The epilogue engine's next table word or output write (R277, R278). -/
def performEpi (s : State) (t : Nat) : State :=
  match (s.tile t).epi with
  | none => s
  | some x =>
    let put := fun (s : State) (y : EpiJob) => s.updTile t (fun z => { z with epi := some y })
    if epiSbp x.cmd ≠ 0#64 ∧ x.tw.length < 8 then
      let ea := (ptrAddr (epiSbp x.cmd) + 8 * x.tw.length) % 2 ^ 52
      if x.busy then s
      else
        match checkAddr s x.cmd.ctx Need.load ea with
        | .ok (.mem loc) =>
          atBank s loc 8 (fun u => charged u (nodeOfTile t) x.cmd.ctx (targetOf loc 8) 8 (fun s =>
            let e := engineRead s (nodeOfTile t) loc
            put e.1 (x.word e.2.1 (decide (e.2.2 ≠ 0)))))
        | .ok (.remote pos) =>
          if s.pod.lost.contains pos then put s (x.word 0#64 true)
          else
            charged s (nodeOfTile t) x.cmd.ctx (.remote pos) 8 (fun s =>
              engineRemote (put s { x with busy := true }) (.epi t) x.cmd.ctx (nodeOfTile t) pos ea 256 (.load 8 0#2))
        | .error _ => put s (x.word 0#64 true)
    else
      match ringOf s t x.cmd.rt with
      | none => s
      | some k =>
        if x.writes < epiCount (ptrFmt x.cmd.a) then
          let w := epiWriteAt x.cmd.a (epiRs x.cmd) x.writes
          atBank s (w.1 % 2 ^ 42) w.2 (fun s => epiPut s t x k) else s

/-- EPI_COMPLETE (R278): the tag is set at the issuing core, after that core's own issue stage of the cycle (R307), and the ring
place is freed. -/
def execEpiComplete (tile : Nat) (s : State) : Out :=
  match (s.tile tile).epi with
  | none => go s
  | some x =>
    if x.writes < epiCount (ptrFmt x.cmd.a) ∨ stageDue s (coreOfSlot x.cmd.sl) then go s
    else
      let s := setTag s (coreOfSlot x.cmd.sl) (bits x.cmd.b.toNat 5 0) x.bad
      go ((freeRing s tile x.cmd.rt).updTile tile (fun y => { y with epi := none }))

end Sys2Proof.Machine
end

