-- ==== Sys2Proof/Machine/Land.lean ====
section
/-! DEFINITION. The LAND major (R109 to R115, R121). -/

namespace Sys2Proof.Machine

/-- The home core of a landing address (R108). -/
def homeCore (a : Word) : Nat := bits a.toNat 53 34
/-- The handle bits [63:19] of a landing address (R108). -/
def handleBits (a : Word) : BitVec 45 := a.extractLsb' 19 45

/-- A landing address fails a check of R110 that needs no table. -/
def badLanding (a : Word) : Bool :=
  decide (bits a.toNat 18 7 ≠ 0) || (decide (32 ≤ bits a.toNat 6 0) && decide (bits a.toNat 6 0 < 64))
    || decide (9 < bits a.toNat 53 50)

/-- An item that settles at its issue, known at once and without a peer (R110, R185). -/
def settledItem (t seq : Nat) (code : BitVec 8) : Item :=
  { tag := t, seq := seq, peer := none, left := 0, code := code, known := true, marker := 0, hint := false,
    viaHome := none, cores := [], nodes := [], loc := true }

/-- The route-cache core for a handle where R121 allows it: no unsettled item of the slot to that handle went by way
of the home core. -/
def routeFor (x : Slot) (h : BitVec 45) : Option Nat :=
  if x.items.any (fun i => decide (i.viaHome = some h) && decide (0 < i.left)) then none
  else (x.routes.find? (fun e => decide (e.1 = h))).map (fun e => e.2)

/-- A route-cache entry becomes the most recently used (R120). -/
def Slot.touchRoute (x : Slot) (h : BitVec 45) : Slot :=
  match x.routes.find? (fun e => decide (e.1 = h)) with
  | some e => { x with routes := e :: x.routes.filter (fun f => decide (f.1 ≠ h)) }
  | none => x

/-- The item of a landing (R185, R189): its peer is the node, or module, that it is first sent to; its scope is that of
its home core. -/
def landItem (a : Word) (peer : Peer) (direct loc : Bool) : Item :=
  { tag := 0, seq := 0, peer := some peer, left := 1, code := 0#8, known := false, marker := 0, hint := false,
    viaHome := if direct then none else some (handleBits a), cores := if loc then [homeCore a] else [],
    nodes := if loc then [nodeOfCore (homeCore a)] else [], loc := loc }

/-- A landing issues toward its target (R112, R121). -/
def sendLanding (s : State) (a v : Word) (t : Nat) (rl : Bool) (tgt : Target) (place : Place) (item : Item)
    (direct : Option Nat) : State :=
  issueAcc s { relaxed := true, rl := rl, dest := .none, fill := .zx 8, la := none, tag := some t, item := some item,
               info := 0#64, tgt := some tgt, pieces := [{ op := .landing v direct false, ea := a, place := place }] }

/-- SENDR and its forms (R112). -/
def sendrOp (i : Instr) (a b : Reg) (rl : Bool) (tag : Slot → Nat) (s : State) : Out :=
  issue i s (fun u =>
    let t := tag (u.slot u.cur)
    closeFull u t (fun u =>
      let x := u.slot u.cur
      let addr := x.rg a
      let fail := fun code => finish u (fun y => y.addItem (settledItem t (y.nextSeq t) code))
      if badLanding addr then fail landBadreg
      else
        match vdnModule u (u.context x.ctx) (bits addr.toNat 63 54) with
        | .error _ => fail landBadreg
        | .ok (some pos) =>
          if u.pod.lost.contains pos then fail landPeerlost
          else
            let c := routeFor x (handleBits addr)
            let u := if c.isSome then u.updSlot u.cur (fun y => y.touchRoute (handleBits addr)) else u
            go (sendLanding u addr (x.rg b) t rl (.remote pos) (.remote pos) (landItem addr (.module pos) c.isSome false) c)
        | .ok none =>
          match routeFor x (handleBits addr) with
          | some c =>
            let u := u.updSlot u.cur (fun y => y.touchRoute (handleBits addr))
            go (sendLanding u addr (x.rg b) t rl (.landing c) (.mem 0) (landItem addr (.node (nodeOfCore c)) true true) (some c))
          | none =>
            go (sendLanding u addr (x.rg b) t rl (.landing (homeCore addr)) (.mem 0)
              (landItem addr (.node (nodeOfCore (homeCore addr))) false true) none)))

/-- The tag in BATCH (R186). -/
def batchTag (x : Slot) : Nat := x.batch.toNat % 4

/-- SENDR (R112). -/
def execSendr (a b : Reg) (s : State) : Out := sendrOp (.sendr a b) a b false batchTag s
/-- SENDR.RL (R112). -/
def execSendrRl (a b : Reg) (s : State) : Out := sendrOp (.sendrRl a b) a b true batchTag s
/-- SENDR.B (R112). -/
def execSendrB (a b : Reg) (t : BitVec 2) (s : State) : Out := sendrOp (.sendrB a b t) a b false (fun _ => t.toNat) s
/-- SENDR.RL.B (R112). -/
def execSendrRlB (a b : Reg) (t : BitVec 2) (s : State) : Out := sendrOp (.sendrRlB a b t) a b true (fun _ => t.toNat) s

/-- Clears a register's presence bit (R114). -/
def Slot.emptied (x : Slot) (code : Nat) : Slot := { x with pres := x.pres &&& ~~~regBit code }

/-- The word retires, changes its slot, and register `code` is refilled if it is empty (R113, R114, R116). -/
def finishRefill (s : State) (code : Nat) (f : Slot → Slot) : Out :=
  go (refill (s.updSlot s.cur (fun x => f (x.retire (x.pc + 4)))) s.cur code)

/-- TAKE of a general register (R113). -/
def execTakeG (d a : Reg) (s : State) : Out :=
  issue (.takeG d a) s (fun t =>
    finishRefill t (gcode a) (fun x => (x.emptied (gcode a)).setG d (x.rg a)))
/-- TAKE of a vector register (R113). -/
def execTakeV (d a : Reg) (s : State) : Out :=
  issue (.takeV d a) s (fun t =>
    finishRefill t (wcode a) (fun x => (x.emptied (wcode a)).setW d (x.rw a)))
/-- EMPTY of a general register (R114). -/
def execEmptyG (a : Reg) (s : State) : Out :=
  issue (.emptyG a) s (fun t => finishRefill t (gcode a) (fun x => x.emptied (gcode a)))
/-- EMPTY of a vector register (R114). -/
def execEmptyV (a : Reg) (s : State) : Out :=
  issue (.emptyV a) s (fun t => finishRefill t (wcode a) (fun x => x.emptied (wcode a)))
/-- PTEST of a general register (R115). -/
def execPtestG (d a : Reg) (s : State) : Out :=
  issue (.ptestG d a) s (fun t => writeG t d (b2w (inMask (t.slot t.cur).pres (gcode a))))
/-- PTEST of a vector register (R115). -/
def execPtestV (d a : Reg) (s : State) : Out :=
  issue (.ptestV d a) s (fun t => writeG t d (b2w (inMask (t.slot t.cur).pres (wcode a))))
/-- SELF (R109, R115). -/
def execSelf (d : Reg) (s : State) : Out :=
  issue (.self d) s (fun t => writeG t d (handleWord t (t.slot t.cur).ctx (t.slot t.cur).th))
/-- HREG (R115). -/
def execHreg (d a b : Reg) (s : State) : Out :=
  issue (.hreg d a b) s (fun t =>
    let x := t.slot t.cur
    writeG t d (wd ((x.rg a).toNat / 2 ^ 19 * 2 ^ 19 + bits (x.rg b).toNat 6 0)))

end Sys2Proof.Machine
end

