-- ==== Sys2Proof/Machine/Harts.lean ====
section
/-! DEFINITION. Transfer harts and engine-2 commands (R285 to R305, R311, R327): one access at a time, and the combining
entries of routers. -/

namespace Sys2Proof.Machine

/-! ### Jobs -/

/-- The command that a job carries out. -/
def HartJob.cmd (j : HartJob) : Cmd := match j.work with | .cmd c => c | .evict _ c => c
/-- A job at its start. -/
def newJob (w : HartWork) (p : HartPhase) (dw : List Word) (todo : List Micro) : HartJob :=
  { work := w, phase := p, dw := dw, unit := 0, todo := todo, buf := [], err := 0, more := false, fcause := 0, where_ := 0,
    drops := 0, handle := 0#64, due := false, busy := false, stop := false }
/-- A descriptor word. -/
def HartJob.d (j : HartJob) (i : Nat) : Nat := (nth 0#64 j.dw i).toNat
/-- A descriptor word as a signed number. -/
def HartJob.di (j : HartJob) (i : Nat) : Int := (nth 0#64 j.dw i).toInt
/-- PSTOP and OSTOP of the control word (R289). -/
def HartJob.pstop (j : HartJob) : Bool := j.cmd.b.getLsbD 9
def HartJob.ostop (j : HartJob) : Bool := j.cmd.b.getLsbD 8

/-- Words of a command's descriptor (R288). -/
def descWords (k : CmdKind) : Nat :=
  match k with
  | .copy => 32
  | .bins => 16
  | .fillw => 4
  | .freeb => 0
  | _ => 8

/-- An error (R291): the first is recorded, later ones set MORE. -/
def HartJob.note (j : HartJob) (err where_ fc : Nat) : HartJob :=
  if j.err = 0 then { j with err := err, where_ := where_, fcause := fc } else { j with more := true }

/-- The STATUS word (R291). -/
def HartJob.status (j : HartJob) : Word :=
  wd (2 ^ 63 + b2n j.more * 2 ^ 62 + j.err % 256 * 2 ^ 48 + j.fcause % 256 * 2 ^ 40 + j.where_ % 2 ^ 40)

/-! ### Descriptors (R293 to R305) -/

/-- An address from a base and a signed offset, mod 2^52. -/
def addrAt (base off : Int) : Nat := ((base + off) % (2 ^ 52 : Nat)).toNat

/-- The low 32 bits of a descriptor word. -/
def HartJob.dl (j : HartJob) (i : Nat) : Nat := j.d i % 2 ^ 32

/-- The dimensions of a COPY in use: extent, source and destination stride (R295). EXT_i [63:32] are reserved bits without a check
of their own, so that they are ignored (R7, log entry 98). -/
def copyDims (j : HartJob) : List (Nat × Int × Int) :=
  (List.range (bits (j.d 2) 3 0)).map (fun i => (j.dl (4 + 3 * i), j.di (5 + 3 * i), j.di (6 + 3 * i)))
/-- Element size of a COPY. -/
def copySize (j : HartJob) : Nat := 2 ^ bits (j.d 2) 6 4
/-- Product of the extents. -/
def copyTotal (j : HartJob) : Nat := (copyDims j).foldl (fun a e => a * e.1) 1

/-- Source and destination of element `n` (R296): i_0 changes fastest. -/
def copyAddrs (j : HartJob) (n : Nat) : Nat × Nat :=
  let r := (copyDims j).foldl (fun (a : Nat × Int × Int) e =>
    let i : Int := (a.1 % e.1 : Nat)
    (a.1 / e.1, a.2.1 + i * e.2.1, a.2.2 + i * e.2.2)) (n, (0 : Int), (0 : Int))
  (addrAt (j.d 0) r.2.1, addrAt (j.d 1) r.2.2)

/-- A COPY descriptor is invalid (R295). -/
def badCopy (j : HartJob) : Bool :=
  let ctl := j.d 2
  let es := copySize j
  let ds := copyDims j
  decide (bits ctl 63 10 ≠ 0) || decide (bits ctl 7 7 ≠ 0) || decide (1 < bits ctl 9 8) || decide (5 < bits ctl 6 4)
  || decide (bits ctl 3 0 = 0) || decide (9 < bits ctl 3 0)
  || ds.any (fun e => decide (e.1 = 0) || decide (2 ^ 20 < e.1) || decide (e.2.1 % es ≠ 0) || decide (e.2.2 % es ≠ 0))
  || decide (j.d 0 % es ≠ 0) || decide (j.d 1 % es ≠ 0) || decide (2 ^ 20 < copyTotal j * es)

/-- A GATHER or SCATTER descriptor is invalid (R298). -/
def badGather (j : HartJob) : Bool :=
  decide (j.d 3 = 0) || decide (131072 < j.d 3) || decide (j.d 5 % 8 ≠ 0) || decide (j.d 5 < 8) || decide (8192 < j.d 5)
  || decide (j.d 2 % 8 ≠ 0) || decide (bits (j.d 6) 2 0 ≠ 0) || decide (bits (j.d 6) 34 32 ≠ 0)
  || decide (2 ^ 20 < j.d 3 * j.d 5)

/-- A BINS descriptor is invalid (R300). -/
def badBins (j : HartJob) : Bool :=
  let row := j.dl 3
  decide (j.dl 2 = 0) || decide (131072 < j.dl 2) || decide (row % 8 ≠ 0) || decide (row < 8) || decide (8192 < row)
  || decide (j.dl 4 = 0) || decide (4096 < j.dl 4) || decide (j.dl 5 = 0) || decide (2 ^ 20 < j.dl 2 * row)
  || [0, 1, 6, 7].any (fun i => decide (j.d i % 8 ≠ 0))
  || (decide (j.dl 9 ≠ 0) && [8, 10, 11].any (fun i => decide (j.d i % 8 ≠ 0)))
  || decide (j.d 12 % 8 ≠ 0)

/-- A FILLW descriptor is invalid (R305). That NWORDS out of its range and a DST that is no multiple of 8 count as invalid too
is read from the layout (log entry 98); CTL [63:34] is ignored (R7). -/
def badFillw (j : HartJob) : Bool :=
  let st := bits (j.d 1) 33 32
  decide (j.d 0 % 8 ≠ 0) || decide (j.dl 1 = 0) || decide (131072 < j.dl 1) || decide (st = 3) || (decide (st ≠ 1) && decide (bits (j.d 0) 41 38 ≠ 0b1000))

/-- The receivers of an MCAST, in logical-node order (R302). -/
def receivers (j : HartJob) : List Nat := (List.range (j.d 3 / 2 ^ 32)).map (fun i => j.dl 3 + i)

/-- RCPT, and whether it names no receipt word. -/
def receiptOff (j : HartJob) : Nat := bits (j.d 4) 20 0
def noReceipt (j : HartJob) : Bool := decide (receiptOff j = 2 ^ 21 - 1)

/-- An MCAST descriptor is invalid (R302). The bits above BYTES and RCPT are ignored (R7). -/
def badMcast (j : HartJob) : Bool :=
  let n := j.d 3 / 2 ^ 32
  decide (j.d 0 % 8 ≠ 0) || decide (j.dl 1 < 8) || decide (2 ^ 20 < j.dl 1) || decide (j.dl 1 % 8 ≠ 0)
  || decide (2 ^ 21 ≤ j.d 2) || decide (j.d 2 % 8 ≠ 0) || decide (2 ^ 21 < j.d 2 + j.dl 1)
  || decide (n = 0) || decide (1024 < n) || decide (nodeCount ≤ j.dl 3)
  || decide ((j.dl 3 + n - 1) / 1024 ≠ j.dl 3 / 1024)
  || (!noReceipt j && decide (receiptOff j % 8 ≠ 0))
  || (decide (j.d 5 ≠ 0) && (decide (j.d 5 % 8 ≠ 0) || decide (bits (j.d 5) 41 38 ≠ 0b1000)))

/-- The descriptor of a job is invalid. -/
def badDesc (j : HartJob) : Bool :=
  match j.cmd.kind with
  | .copy => badCopy j
  | .gather => badGather j
  | .scatter => badGather j
  | .bins => badBins j
  | .mcast => badMcast j
  | .fillw => badFillw j
  | _ => false

/-- How many units a job has. -/
def unitsOf (j : HartJob) : Nat :=
  match j.cmd.kind with
  | .copy => copyTotal j
  | .gather => j.d 3
  | .scatter => j.d 3
  | .bins => j.dl 2
  | .fillw => j.dl 1
  | .mcast => j.dl 1 / 8 + 1
  | _ => 0

/-! ### What a job does next -/

/-- The accesses that copy a row in words of 8 bytes (R299, R301). -/
def rowCopies (src dst len : Nat) : List Micro :=
  (List.range (len / 8)).flatMap (fun k =>
    [Micro.read 8 ((src + 8 * k) % 2 ^ 52) false, Micro.copy 8 ((dst + 8 * k) % 2 ^ 52) k false])

/-- The unit begins: its phase and accesses. -/
def HartJob.begin (j : HartJob) : HartJob :=
  let j := { j with buf := [] }
  match j.cmd.kind with
  | .copy =>
    let es := copySize j
    let w := min es 8
    let a := copyAddrs j j.unit
    let parts := List.range (es / w)
    { j with phase := .rows,
             todo := parts.map (fun i => Micro.read w ((a.1 + i * w) % 2 ^ 52) false)
               ++ parts.map (fun i => Micro.copy w ((a.2 + i * w) % 2 ^ 52) i (decide (bits (j.d 2) 9 8 = 1))) }
  | .bins => { j with phase := .key, todo := [Micro.read 8 (addrAt (j.d 1) (8 * j.unit : Nat)) true] }
  | .fillw => { j with phase := .rows, todo := [Micro.fill (addrAt (j.d 0) (8 * j.unit : Nat)) (nth 0#64 j.dw 2)
      (BitVec.ofNat 2 (bits (j.d 1) 33 32))] }
  | .mcast =>
    let at_ := fun (n off : Nat) => 0x3FF * 2 ^ 42 + storeBase (n * 64) + off
    if j.unit < j.dl 1 / 8 then
      { j with phase := .rows,
               todo := Micro.read 8 (addrAt (j.d 0) (8 * j.unit : Nat)) false
                 :: (receivers j).map (fun n => Micro.copy 8 (at_ n (j.d 2 + 8 * j.unit)) 0 false) }
    else
      { j with phase := .rows,
               todo := if noReceipt j then [] else (receivers j).map (fun n => Micro.put (at_ n (receiptOff j)) j.handle true) }
  | _ => { j with phase := .index, todo := [Micro.read 8 (addrAt (j.d 2) (8 * j.unit : Nat)) true] }

/-- The row of an index word (R299). -/
def HartJob.indexed (j : HartJob) : HartJob :=
  let v := nth (0#64, false) j.buf 0
  let gather := decide (j.cmd.kind = .gather)
  let row := j.d 5
  let lin := addrAt (j.d 1) ((j.unit : Int) * sextNat (j.d 6 / 2 ^ 32) 32)
  let tab := addrAt (j.d 0) ((v.1.toNat : Int) * sextNat (j.d 6) 32)
  let words := (List.range (row / 8)).map (fun k => (lin + 8 * k) % 2 ^ 52)
  let j := { j with phase := .rows, buf := [], todo := [] }
  if v.2 then { j.note 5 j.unit 0 with todo := if gather then words.map Micro.poison else [] }
  else if j.d 4 ≤ v.1.toNat then
    if j.ostop then { j.note 4 j.unit 0 with stop := true }
    else { j.note 3 j.unit 0 with todo := if gather then words.map (fun a => Micro.put a 0#64 false) else [] }
  else { j with todo := if gather then rowCopies tab lin row else rowCopies lin tab row }

/-- The write of the position of item `unit` (R301). -/
def HartJob.posWrite (j : HartJob) (v : Nat) : List Micro :=
  if j.d 12 = 0 then [] else [Micro.put (addrAt (j.d 12) (8 * j.unit : Nat)) (wd v) false]

/-- The item of a key word (R301). -/
def HartJob.keyed (j : HartJob) : HartJob :=
  let v := nth (0#64, false) j.buf 0
  let j := { j with buf := [] }
  if v.2 then { j.note 5 j.unit 0 with phase := .rows, todo := j.posWrite (2 ^ 63) }
  else if j.dl 4 ≤ v.1.toNat then
    if j.ostop then { j.note 4 j.unit 0 with phase := .rows, stop := true }
    else { j.note 3 j.unit 0 with phase := .rows, todo := j.posWrite (2 ^ 63) }
  else { j with phase := .bump v.1.toNat, todo := [Micro.bump (addrAt (j.d 7) (8 * v.1.toNat : Nat)) (j.dl 5)] }

/-- The item is dropped (R301). -/
def HartJob.dropped (j : HartJob) : HartJob :=
  { j.note 9 j.unit 0 with phase := .rows, drops := j.drops + 1, todo := j.posWrite (2 ^ 63) }

/-- The counter of bin `k` has answered (R301). With OVFCAP 0 there is no overflow list (R300): the ABUMP at OVFCNT, of limit 0,
refuses every item, if it does not fault. -/
def HartJob.bumped (j : HartJob) (k : Nat) : HartJob :=
  let r := (nth (0#64, false) j.buf 0).1.toNat
  let j := { j with buf := [] }
  let place := r % 2 ^ 63
  let row := j.dl 3
  if r < 2 ^ 63 then
    { j with phase := .rows,
             todo := rowCopies (addrAt (j.d 0) (j.unit * row : Nat)) (addrAt (j.d 6) ((k * j.dl 5 + place) * row : Nat)) row
               ++ j.posWrite (k * j.dl 5 + place) }
  else { j with phase := .ovf k, todo := [Micro.bump (j.d 10 % 2 ^ 52) (j.dl 9)] }

/-- The overflow counter has answered for an item of bin `k` (R301). -/
def HartJob.overflowed (j : HartJob) (k : Nat) : HartJob :=
  let r := (nth (0#64, false) j.buf 0).1.toNat
  let j := { j with buf := [] }
  let row := j.dl 3
  if r < 2 ^ 63 then
    { j with phase := .rows,
             todo := rowCopies (addrAt (j.d 0) (j.unit * row : Nat)) (addrAt (j.d 8) (r * row : Nat)) row
               ++ Micro.put (addrAt (j.d 11) (8 * r : Nat)) (wd (k * 2 ^ 32 + j.unit)) false :: j.posWrite (2 ^ 62 + r) }
  else j.dropped

/-- The completion writes (R291, R292, R301); an eviction has none. -/
def HartJob.finishing (j : HartJob) : HartJob :=
  match j.work with
  | .evict _ _ => { j with phase := .tag, todo := [] }
  | .cmd c =>
    let last := addrAt (ptrAddr c.a) (8 * (descWords c.kind - 1) : Nat)
    let st := Micro.put last j.status false
    { j with phase := .wrote, buf := [],
             todo := if c.kind = .bins then [Micro.put (addrAt (ptrAddr c.a) 0x68) (wd j.drops) false, st] else [st] }

/-! ### MCAST at its start (R302, R303) -/

/-- The first receiver outside the allotment. -/
def badReceiver (s : State) (j : HartJob) : Option Nat :=
  match s.context j.cmd.ctx with
  | none => some 0
  | some c => ((receivers j).zipIdx.find? (fun e => !c.allots e.1)).map (fun e => e.2)

/-- The handle H (R303). -/
def mcastHandle (s : State) (n : Nat) (j : HartJob) : Word := wd (j.d 5 % 2 ^ 42 + (s.node n).mq.toNat * 2 ^ 48)

/-- The root's install message leaves the hart (R303). A CNTR that fails the address check ends the command with ERR 7,
FCAUSE ACCESS and WHERE 0, before any install: the model's choice (log entry 99). -/
def startMcast (s : State) (n h : Nat) (j : HartJob) : State × HartJob :=
  match badReceiver s j with
  | some k => (s, { j.note 7 k causeACCESS.toNat with phase := .status })
  | none =>
    let hd := mcastHandle s n j
    if j.d 5 = 0 then (s, { j with phase := .unit, handle := hd })
    else
      match checkAddr s j.cmd.ctx Need.atomic (0x3FF * 2 ^ 42 + j.d 5 % 2 ^ 42) with
      | .error _ => (s, { j.note 7 0 causeACCESS.toNat with phase := .status })
      | .ok _ =>
        let comb : Comb := { handle := hd, ctx := j.cmd.ctx, parent := none, expect := (receivers j).length, seen := 0,
                             root := n, h := h, due := [] }
        let t := { s with ctls := s.ctls ++ [Ctl.install s.nextId (nodePos s n) comb (receivers j)], nextId := s.nextId + 1 }
        (t.updNode n (fun x => { x with mq := x.mq + 1#4 }), { j with phase := .install, handle := hd, due := true })

/-- Moves a job whose accesses are made to its next phase. -/
def advance (s : State) (n h : Nat) (j : HartJob) : State × HartJob :=
  if j.todo ≠ [] then (s, j)
  else
    match j.phase with
    | .desc =>
      let j := { j with dw := j.buf.map (fun e => e.1), buf := [] }
      if badDesc j then (s, { j.note 6 0 0 with phase := .status })
      else if j.cmd.kind = .mcast then startMcast s n h j
      else (s, { j with phase := .unit })
    | .install => if j.due then (s, j) else (s, { j with phase := .unit })
    | .unit => if unitsOf j ≤ j.unit then (s, { j with phase := .status }) else (s, j.begin)
    | .index => (s, j.indexed)
    | .key => (s, j.keyed)
    | .bump k => (s, j.bumped k)
    | .ovf k => (s, j.overflowed k)
    | .rows => if j.stop then (s, { j with phase := .status }) else (s, { j with phase := .unit, unit := j.unit + 1 })
    | .status => (s, j.finishing)
    | .wrote => (s, { j with phase := .tag })
    | .tag => (s, j)

/-- Advances up to the next access, or to a phase that has none. -/
def advanceAll (s : State) (n h : Nat) (j : HartJob) : State × HartJob :=
  iter (fun (p : State × HartJob) => advance p.1 n h p.2) 6 (s, j)

/-! ### One access (R286, R296, R297, R301, R305) -/

/-- The answer to an access. -/
inductive Ans where
  | value (v : Word) (bad : Bool)
  | done
  | refused
  | fault (c : BitVec 8)
  deriving DecidableEq, Repr

/-- WHERE of an error met at an access (R291, R303): a receiver for a write of an MCAST, else the unit. -/
def HartJob.whereAt (j : HartJob) (m : Micro) : Nat :=
  if j.cmd.kind = .mcast then
    match m with
    | .copy _ a _ _ => (a % 2 ^ 38) / 2 ^ 21 - j.dl 3
    | .put a _ _ => (a % 2 ^ 38) / 2 ^ 21 - j.dl 3
    | _ => 0
  else j.unit

/-- A POISON source word has been read (R297): recorded once for an element; under STOP only the element's own writes
follow. -/
def HartJob.poisonRead (j : HartJob) (m : Micro) : HartJob :=
  let again := decide (j.cmd.kind = .copy) && j.buf.any (fun e => e.2)
  let k := if again then j else j.note (if j.pstop then 2 else 1) (j.whereAt m) 0
  if !j.pstop then k
  else if j.cmd.kind = .copy ∨ j.cmd.kind = .mcast then { k with stop := true }
  else { k with stop := true, todo := k.todo.take 1 }

/-- The first access of the list is answered. -/
def HartJob.answer (j : HartJob) (a : Ans) : HartJob :=
  match j.todo with
  | [] => j
  | m :: rest =>
    let k := { j with todo := rest, busy := false }
    match a with
    | .done => k
    | .value v bad =>
      if j.phase = .desc then
        if bad then { k with err := 7, phase := .tag, todo := [] } else { k with buf := k.buf ++ [(v, false)] }
      else
        let idx := match m with | .read _ _ i => i | _ => true
        let k := if bad && !idx then k.poisonRead m else k
        { k with buf := k.buf ++ [(v, bad)] }
    | .refused => if j.phase = .wrote then { k with err := 7, phase := .tag, todo := [] } else k.note 8 (j.whereAt m) 0
    | .fault c =>
      if j.phase = .desc ∨ j.phase = .wrote then { k with err := 7, phase := .tag, todo := [] }
      else { k.note 7 (j.whereAt m) c.toNat with phase := .status, todo := [] }

/-- The address that an access names, its bytes, its need, and its operation. -/
def Micro.shape (j : HartJob) : Micro → Nat × Nat × Need × MemOp
  | .read n a _ => (a, n, Need.load, .peek n)
  | .copy n a i sf =>
    let e := nth (0#64, false) j.buf i
    (a, n, { Need.store with sync := sf && !e.2 }, if e.2 then .mark n else .hput n sf e.1)
  | .put a v sf => (a, 8, { Need.store with sync := sf }, .hput 8 sf v)
  | .poison a => (a, 8, Need.store, .mark 8)
  | .fill a v st => (a, 8, Need.store, .fillw v st)
  | .bump a lim => (a, 8, Need.atomic, .amo 0x0C#6 1#64 (wd lim) 0#64)

/-- What a request's outcome tells the hart (R157, R286, R297, R299, R349): a read answers with the word's state; a write
refused on a POISON word, and any other fault. -/
def Micro.ans (m : Micro) (v : Vec) (f : Option FaultInfo) : Ans :=
  let st := (v >>> 64).setWidth 2
  match f, m with
  | some f, .bump _ _ => .fault f.cause
  | some f, _ => if f.cause = causePOISON then .refused else .fault f.cause
  | none, .read _ _ idx => .value (v.setWidth 64) (poisoned st || (idx && decide (st = stEmpty)))
  | none, .bump _ _ => .value (v.setWidth 64) false
  | none, _ => .done

/-- A request of a hart at a unit of this module; WAITLIM is 256 (R286). -/
def hartRequest (s : State) (node h ctx ea loc : Nat) (op : MemOp) : State :=
  let r : Req :=
    { id := s.nextId, stamp := s.nextId, own := .hart node h, ctx := ctx, src := node, op := op, ea := wd ea, loc := loc,
      tgt := targetOf loc op.size, relaxed := false, rl := false, item := none, acc := s.nextId, part := 0, info := 0#64,
      limit := 256, misses := 0, stage := .route }
  { s with reqs := s.reqs ++ [r], nextId := s.nextId + 1 }

/-- Writes a hart's job. -/
def setHart (s : State) (n h : Nat) (j : HartJob) : State :=
  s.updNode n (fun x => { x with harts := Tab.put x.harts h j })

/-- Where an access lies, or the fault that it has in the hart: the checks of R181, alignment, a lost module (R286, R350). -/
def hartPlace (s : State) (j : HartJob) (m : Micro) : Except (BitVec 8) Place :=
  let sh := m.shape j
  match accessCheck s j.cmd.ctx sh.2.2.1.byHart (sh.1 % 2 ^ 52) sh.2.1 with
  | .error f => .error f.1
  | .ok p => .ok p

/-- The target of a place. -/
def Place.target (p : Place) (n : Nat) : Target :=
  match p with
  | .mem loc => targetOf loc n
  | .remote pos => .remote pos

/-- The hart issues its next access: the checks, the context's bucket (R193, R286), then the request. -/
def hartAccess (s : State) (n h : Nat) (j : HartJob) (m : Micro) : State :=
  let sh := m.shape j
  let ea := sh.1 % 2 ^ 52
  match hartPlace s j m with
  | .error c => setHart s n h (j.answer (.fault c))
  | .ok p =>
    charged s n j.cmd.ctx (p.target sh.2.1) sh.2.1 (fun s =>
      let t := setHart s n h { j with busy := true }
      match p with
      | .remote pos => engineRemote t (.hart n h) j.cmd.ctx n pos ea 256 sh.2.2.2
      | .mem loc => hartRequest t n h j.cmd.ctx ea loc sh.2.2.2)

/-! ### The harts' turns (R285) -/

/-- A hart's command stands inside an element, row, item or word (R311). -/
def midUnit (j : HartJob) : Bool :=
  match j.phase with
  | .index => true
  | .key => true
  | .bump _ => true
  | .ovf _ => true
  | .rows => decide (j.todo ≠ []) || j.busy
  | _ => false

/-- The transfer core offers the turn of this cycle to hart `h`, which has not used it. -/
def hartTurn (s : State) (n h : Nat) : Bool := decide (s.cycle % 8 = h) && decide ((s.node n).hartAt ≤ s.cycle)

/-- A hart slot whose engine program, which the spec does not give, has run an instruction: registers, PC, presence bits and
counters are free values, and with them CHANGES (log entry 100). -/
def freeHartSlot (x : Slot) (k : Nat) : Slot :=
  { x with st := .running, pc := (Config.freeWord k).toNat % 4096 * 4,
           pres := (Config.freeWord (k + 1)).setWidth 48,
           g := Vector.ofFn (fun (i : Fin 32) => Config.freeWord (k + 2 + i.val)),
           v := Vector.ofFn (fun (i : Fin 16) => ((Config.freeWord (k + 34 + 4 * i.val) ++ Config.freeWord (k + 35 + 4 * i.val)
             ++ Config.freeWord (k + 36 + 4 * i.val) ++ Config.freeWord (k + 37 + 4 * i.val) : BitVec 256))),
           cnt := Vector.ofFn (fun (i : Fin 16) => Config.freeWord (k + 98 + i.val)),
           changes := (Config.freeWord (k + 114)).setWidth 16 }

/-- Hart `h` takes its turn (R285). -/
def useTurn (s : State) (n h : Nat) : State :=
  let t := s.updNode n (fun x =>
    { x with hartAt := s.cycle + 1, hslots := Tab.put x.hslots h (freeHartSlot (Tab.get Slot.reset x.hslots h) s.freeCtr) })
  { t with freeCtr := s.freeCtr + 115 }

/-- Firmware's work for a node is done by a free hart on its turn (R287, log entry 100); it waits where there is none. -/
def byHart (s : State) (n : Nat) (k : State → Out) : Out :=
  let h := s.cycle % 8
  if hartTurn s n h && (Tab.look (s.node n).harts h).isNone then k (useTurn s n h) else go s

/-- BANK_PERFORM of a hart: its turn, in which it issues its next access (R285, R286). At a boundary of its units it stops while
its context is ended (R311). -/
def performHart (s : State) (n h : Nat) : State :=
  match Tab.look (s.node n).harts h with
  | none => s
  | some j =>
    if j.busy || !hartTurn s n h || (decide (s.mbox.ending = some j.cmd.ctx) && !midUnit j) then s
    else
      let p := advanceAll (useTurn s n h) n h j
      let t := setHart p.1 n h p.2
      match p.2.todo with
      | [] => t
      | m :: _ => hartAccess t n h p.2 m

/-- The reply to a hart's request (R202, R286). -/
def hartReply (s : State) (n h : Nat) (v : Vec) (f : Option FaultInfo) : State :=
  match Tab.look (s.node n).harts h with
  | none => s
  | some j =>
    match j.todo with
    | m :: _ => if j.busy then setHart s n h (j.answer (m.ans v f)) else s
    | [] => s

/-! ### Routers (R303, R304) -/

/-- The number of a message. -/
def Ctl.no : Ctl → Nat
  | .install id _ _ _ => id
  | .answer id _ _ _ _ => id
  | .ready id _ _ _ _ => id
  | .freeb id _ _ _ _ _ => id
/-- The context of a message. -/
def Ctl.ctx : Ctl → Nat
  | .install _ _ c _ => c.ctx
  | .answer _ _ _ _ c => c
  | .ready _ _ _ _ c => c
  | .freeb _ _ _ _ c _ => c

/-- Removes a message. -/
def dropCtl (s : State) (id : Nat) : State := { s with ctls := s.ctls.filter (fun c => decide (c.no ≠ id)) }
/-- A message sets out; `m` takes its number. -/
def sendCtl (s : State) (m : Nat → Ctl) : State := { s with ctls := s.ctls ++ [m s.nextId], nextId := s.nextId + 1 }

/-- The combining entries of a router. -/
def State.router (s : State) (pos : Nat) : List Comb := Tab.get [] s.routers pos
/-- Replaces them. -/
def State.setRouter (s : State) (pos : Nat) (l : List Comb) : State := { s with routers := Tab.write [] s.routers pos l }

/-- The entry's router answers its parent, or the hart (R303). -/
def answerUp (s : State) (pos : Nat) (c : Comb) : State :=
  match c.parent with
  | some p => sendCtl s (fun id => .answer id p pos c.handle c.ctx)
  | none => sendCtl s (fun id => .ready id pos c.root c.h c.ctx)

/-- The router's children on the way to the receivers: X first, then Y (R20, R194, R303). -/
def childrenOf (s : State) (pos : Nat) (recv : List Nat) : List Nat :=
  ((recv.map (fun n => hopTo pos (nodePos s n))).filter (fun p => decide (p ≠ pos))).foldl insertNat []

/-- A router installs its entry and forwards the message to its children, each with the receivers of its subtree; one
without children answers (R303). -/
def installAt (s : State) (pos : Nat) (c : Comb) (recv : List Nat) : State :=
  let kids := childrenOf s pos recv
  let e := { c with due := kids }
  let t := s.setRouter pos (s.router pos ++ [e])
  if kids = [] then answerUp t pos e
  else
    kids.foldl (fun t k =>
      let sub := recv.filter (fun n => decide (nodePos s n ≠ pos) && decide (hopTo pos (nodePos s n) = k))
      sendCtl t (fun id => .install id k { c with parent := some pos, expect := sub.length } sub)) t

/-- Changes the first entry that meets a test. -/
def updFirst (p : Comb → Bool) (f : Comb → Comb) : List Comb → List Comb
  | [] => []
  | c :: l => if p c then f c :: l else c :: updFirst p f l

/-- A child has answered (R303): the router answers in turn once every child has. -/
def childAnswered (s : State) (pos from_ : Nat) (handle : Word) (ctx : Nat) : State :=
  let mine := fun (c : Comb) => decide (c.handle = handle) && decide (c.ctx = ctx) && c.due.contains from_
  match (s.router pos).find? mine with
  | none => s
  | some c =>
    let e := { c with due := c.due.filter (fun k => decide (k ≠ from_)) }
    let t := s.setRouter pos (updFirst mine (fun _ => e) (s.router pos))
    if e.due = [] then answerUp t pos e else t

/-- The whole tree has answered: the hart may send data (R303). -/
def treeReady (s : State) (n h : Nat) : State :=
  s.updNode n (fun x =>
    match Tab.look x.harts h with
    | some j => { x with harts := Tab.put x.harts h { j with due := false } }
    | none => x)

/-- INSTALL_MESSAGE (R303): at a module position, a router installs its entry, or holds the message while its 16 are taken;
an answer reaches a router, or the hart. -/
def execInstallMessage (pos id : Nat) (s : State) : Out :=
  match s.ctls.find? (fun c => decide (c.no = id)) with
  | some (.install _ p c recv) =>
    if p ≠ pos ∨ 16 ≤ (s.router pos).length then go s else go (installAt (dropCtl s id) pos c recv)
  | some (.answer _ p k hd ctx) => if p = pos then go (childAnswered (dropCtl s id) pos k hd ctx) else go s
  | some (.ready _ p n h _) => if p = pos then go (treeReady (dropCtl s id) n h) else go s
  | _ => go s

/-- The root's relaxed AADD of 1 on CNTR at its bank (R304); no hart waits for its reply. -/
def bumpCounter (s : State) (node ctx : Nat) (handle : Word) : State :=
  let loc := handle.toNat % 2 ^ 42
  hartRequest s node 8 ctx (0x3FF * 2 ^ 42 + loc) loc (.amo 0x01#6 1#64 0#64 0#64)

/-- FREEB_ARRIVE (R304). A forwarded FREEB counts for every receiver of the subtree it comes from (log entry 13). -/
def execFreebArrive (id : Nat) (s : State) : Out :=
  match s.ctls.find? (fun c => decide (c.no = id)) with
  | some (.freeb _ pos n handle ctx weight) =>
    let t := dropCtl s id
    let mine := fun (c : Comb) => decide (c.handle = handle) && decide (c.ctx = ctx)
    match (s.router pos).find? mine with
    | none => go (t.updNode n (fun x => { x with freebDrops := x.freebDrops + 1 }))
    | some c =>
      if c.seen + weight < c.expect then
        go (t.setRouter pos (updFirst mine (fun d => { d with seen := d.seen + weight }) (s.router pos)))
      else
        let u := t.setRouter pos (eraseFirst mine (s.router pos))
        match c.parent with
        | some p => go (sendCtl u (fun id => .freeb id p n handle ctx c.expect))
        | none => go (bumpCounter u c.root ctx handle)
  | _ => go s

/-! ### Completion (R292, R304) -/

/-- COMMAND_COMPLETE (R292): the fence finds every access of the hart answered; the tag is set at the issuing core, after that
core's own issue stage of the cycle (R307). A FREEB has been handed to the node's router. -/
def execCommandComplete (node h : Nat) (s : State) : Out :=
  match Tab.look (s.node node).harts h with
  | none => go s
  | some j =>
    let p := advanceAll s node h j
    if j.busy ∨ p.2.todo ≠ [] ∨ p.2.phase ≠ .tag then go s
    else
      match p.2.work with
      | .evict _ _ => go s
      | .cmd c =>
        let t := p.1.updNode node (fun x => { x with harts := Tab.drop x.harts h })
        if c.kind = .freeb then
          go (sendCtl t (fun id => .freeb id (nodePos t (nodeOfSlot c.sl)) (nodeOfSlot c.sl) c.a c.ctx 1))
        else if stageDue s (coreOfSlot c.sl) then go s
        else go (setTag t (coreOfSlot c.sl) (bits c.b.toNat 5 0) (decide (p.2.err ≠ 0)))

end Sys2Proof.Machine
end

