-- ==== Sys2Proof/Machine/Branch.lean ====
section
/-! DEFINITION. Branches and jumps (R147 to R149); their FETCH traps are precise (R68). -/

namespace Sys2Proof.Machine

/-- A FETCH trap at the issuing word (R68): the target in FADDR, the reason in FINFO. -/
def fetchTrap (s : State) (target : Word) (reason : Nat) : Out := go (trapHere s causeFETCH target (wd reason))

/-- The current slot's word retires to the byte offset `t`, changing its slot by `f`. -/
def jumpTo (s : State) (t : Nat) (f : Slot → Slot) : Out := go (s.updSlot s.cur (fun x => f (x.retire t)))

/-- A PC-relative target, as a signed byte offset (R147, R148). -/
def relTarget (x : Slot) (o : Int) : Int := (x.pc : Int) + 4 + 4 * o

/-- Control passes to a PC-relative target, or traps FETCH with reason 2 (R147, R148). -/
def goRel (s : State) (o : Int) (f : Slot → Slot) : Out :=
  let x := s.slot s.cur
  let t := relTarget x o
  if t < 0 ∨ (4 * x.n : Int) ≤ t then fetchTrap s (wi t) 2 else jumpTo s t.toNat f

/-- Control passes to the offset in a register, or traps FETCH with reason 1 or 2 (R149). -/
def goReg (s : State) (t : Word) (f : Slot → Slot) : Out :=
  let x := s.slot s.cur
  if t.toNat % 4 ≠ 0 then fetchTrap s t 1 else if 4 * x.n ≤ t.toNat then fetchTrap s t 2 else jumpTo s t.toNat f

/-- A compare-and-branch (R147). -/
def branch (i : Instr) (o : BitVec 16) (rel : Slot → Bool) (s : State) : Out :=
  issue i s (fun t => if rel (t.slot t.cur) then goRel t o.toInt id else finish t id)

/-- BEQ (R147). -/
def execBeq (a b : Reg) (o : BitVec 16) (s : State) : Out := branch (.beq a b o) o (fun x => decide (x.rg a = x.rg b)) s
/-- BNE (R147). -/
def execBne (a b : Reg) (o : BitVec 16) (s : State) : Out := branch (.bne a b o) o (fun x => decide (x.rg a ≠ x.rg b)) s
/-- BLT (R147). -/
def execBlt (a b : Reg) (o : BitVec 16) (s : State) : Out := branch (.blt a b o) o (fun x => (x.rg a).slt (x.rg b)) s
/-- BGE (R147). -/
def execBge (a b : Reg) (o : BitVec 16) (s : State) : Out := branch (.bge a b o) o (fun x => (x.rg b).sle (x.rg a)) s
/-- BLTN (R147). -/
def execBltn (a b : Reg) (o : BitVec 16) (s : State) : Out := branch (.bltn a b o) o (fun x => (x.rg a).ult (x.rg b)) s
/-- BGEN (R147). -/
def execBgen (a b : Reg) (o : BitVec 16) (s : State) : Out := branch (.bgen a b o) o (fun x => (x.rg b).ule (x.rg a)) s
/-- J (R148). -/
def execJ (o : BitVec 26) (s : State) : Out := issue (.j o) s (fun t => goRel t o.toInt id)
/-- JAL (R148). -/
def execJal (o : BitVec 26) (s : State) : Out :=
  issue (.jal o) s (fun t => goRel t o.toInt (fun x => x.setG 31#5 (wd ((t.slot t.cur).pc + 4))))
/-- JR (R149). -/
def execJr (a : Reg) (s : State) : Out := issue (.jr a) s (fun t => goReg t ((t.slot t.cur).rg a) id)
/-- JALR (R149). -/
def execJalr (d a : Reg) (s : State) : Out :=
  issue (.jalr d a) s (fun t => goReg t ((t.slot t.cur).rg a) (fun x => x.setG d (wd ((t.slot t.cur).pc + 4))))

end Sys2Proof.Machine
end

