-- ==== Sys2Proof/Machine/Thread.lean ====
section
/-! DEFINITION. The THR major but JOIN and EXIT (R95 to R100): task records, schedule table, YIELD. A deque lists its
records from the top to the bottom. -/

namespace Sys2Proof.Machine

/-- A core's deque is full (R90). -/
def dequeFull (s : State) (c : Nat) : Bool := decide (32 ≤ (s.core c).deque.length)

/-- Adds a record at the bottom of a core's deque (R90); the idle slots of its launch may probe again at once (R92). -/
def pushTask (s : State) (c : Nat) (r : Task) : State :=
  (slotsOfCore c).foldl (fun s i => if (s.slot i).launch = r.launch then s.updSlot i (fun x => { x with retryAt := 0 }) else s)
    (s.updCore c (fun k => { k with deque := k.deque ++ [r], dequeAt := s.cycle + 1 }))

/-- The record that FORK and SPAWNAT make (R95, R96). -/
def taskOf (s : State) (x : Slot) (pc : Nat) (b : Reg) : Task :=
  { pc := pc, w0 := x.rg b, w1 := x.rg (regNext b 1), w2 := x.rg (regNext b 2), w3 := x.rg (regNext b 3),
    launch := x.launch, parent := handleWord s x.ctx x.th, transit := false, stolen := false }

/-- The PC check of FORK and SPAWNAT (R96, R97). -/
def taskPc (s : State) (pc : Word) (k : Out) : Out :=
  if pc.toNat % 4 ≠ 0 then fetchTrap s pc 1
  else if 4 * (s.slot s.cur).n ≤ pc.toNat then fetchTrap s pc 2 else k

/-- FORK (R96). -/
def execFork (d a b : Reg) (s : State) : Out :=
  issue (.fork d a b) s (fun t =>
    let x := t.slot t.cur
    let c := coreOfSlot t.cur
    taskPc t (x.rg a) (
      if dequeFull t c then finish t (fun y => (y.setG d 1#64).count cntInline)
      else finish (pushTask t c (taskOf t x (x.rg a).toNat b)) (fun y => (y.setG d 0#64).count cntForks)))

/-- The core that the address word of SPAWNAT names (R97). -/
def spawnCore (w : Word) : Nat := bits w.toNat 53 34

/-- SPAWNAT (R97). -/
def execSpawnat (d a b : Reg) (l : BitVec 4) (s : State) : Out :=
  issue (.spawnat d a b l) s (fun t =>
    let x := t.slot t.cur
    let w := x.rg a
    taskPc t (wd (bits w.toNat 13 0)) (
      let own := match vdnModule t (t.context x.ctx) (bits w.toNat 63 54) with | .ok none => true | _ => false
      if !own || decide (9 < bits w.toNat 53 50) then finish t (fun y => (y.setG d 2#64).count cntInline)
      else
        go (issueAcc t
          { relaxed := false, dest := .g d, fill := .status, la := some l.toNat, info := 0#64,
            tgt := some (.deque (spawnCore w)),
            pieces := [{ op := .spawn (taskOf t x (bits w.toNat 13 0) b), ea := w, place := .mem 0 }] })))

/-- YIELD (R100, R105): drain mode where a pre-emption is pending; the slot's summaries are then asked for (R377). -/
def execYield (s : State) : Out :=
  issue .yield s (fun t => finish t (fun x =>
    if x.pre.isSome then (List.range 4).foldl (fun y k => y.askTag k) { x with drain := true } else x))

/-- NEXTW (R99). -/
def execNextw (d : Reg) (s : State) : Out :=
  issue (.nextw d) s (fun t =>
    let c := coreOfSlot t.cur
    let k := t.core c
    if k.owner = some (t.slot t.cur).launch ∧ k.cursor < k.sched.length then
      finish (t.setCore c { k with cursor := k.cursor + 1 })
        (fun x => (x.setG d ((nth 0#32 k.sched k.cursor).setWidth 64)).count cntNexts)
    else writeG t d onesW)

end Sys2Proof.Machine
end

