-- ==== Sys2Proof/Machine/Deliver.lean ====
section
/-! DEFINITION. The steps of the network and the targets (R85 to R93 for spawned records, R116 to R121, R164, R185, R189,
R196 to R204, R406): ports, paths, performs, settlements, summaries, landings. -/

namespace Sys2Proof.Machine

/-! ### Ports, paths and performs -/

/-- PORT_ACCEPT (R199). -/
def execPortAccept (sl : Nat) (s : State) : Out := go (acceptOldest s sl)

/-- ROUTE_DELIVER (R200). -/
def execRouteDeliver (id : Nat) (s : State) : Out := go (deliverRoute s id)

/-- BANK_PERFORM (R196, R201): one perform of a request, a hart, a Burin or an epilogue engine. -/
def execBankPerform (p : Performer) (s : State) : Out :=
  match p with
  | .request id => go (bankRequest s id)
  | .hart n h => go (performHart s n h)
  | .burin t => go (performBurin s t)
  | .epilogue t => go (performEpi s t)

/-- WAIT_LIST_RETRY (R164): the access is sent again. -/
def execWaitListRetry (id : Nat) (s : State) : Out :=
  match s.req? id with
  | none => go s
  | some r =>
    match r.stage with
    | .retry at_ => if at_ ≤ s.cycle then go (s.stageReq id .route) else go s
    | _ => go s

/-! ### Fence markers and summaries (R185, R189, R190) -/

/-- What the marker of an item waits for has come (R189, R203): the item has settled, or all its words in the fence's scope
have and none of them faulted; a fault has been told. -/
def markerDue (s : State) (sl : Nat) (i : Item) : Bool :=
  decide (i.marker = 1) && (decide (i.left = 0) || (i.fault.isNone && !scopeOpen s sl i.scope i)) && !faultDue s sl i.tag i.seq

/-- FENCE_MARKER_RETURN (R189): the marker of item `id` (tag × 64 + number) returns. -/
def execFenceMarkerReturn (sl id : Nat) (s : State) : Out :=
  let mine := fun (i : Item) => decide (i.tag = id / 64) && decide (i.seq = id % 64) && markerDue s sl i
  go (s.updSlot sl (fun x => { x with items := mapIf mine (fun i => { i with marker := 2 }) x.items }))

/-- Every item that an ask covers has settled, its hint is acknowledged, and its fault has been told (R185, R406). -/
def askSettled (s : State) (sl : Nat) (a : Ask) : Bool :=
  (s.slot sl).items.all (fun i => !a.covers i || (decide (i.left = 0) && !i.hint && !faultDue s sl i.tag i.seq))

/-- Replaces the first ask of a tag and peer that meets a test. -/
def Slot.stepAsk (x : Slot) (p : Ask → Bool) (st : Asked) : Slot :=
  match x.asked.find? p with
  | none => x
  | some a => { x with asked := x.asked.map (fun b => if b = a then { b with st := st } else b) }

/-- Changes the first ask that meets a test. -/
def updFirstAsk (p : Ask → Bool) (f : Ask → Ask) : List Ask → List Ask
  | [] => []
  | a :: l => if p a then f a :: l else a :: updFirstAsk p f l

/-- The ask of a tag and peer in a state that meets the test. -/
def Ask.is (tag : BitVec 2) (peer : Peer) (p : Asked → Bool) (a : Ask) : Bool :=
  decide (a.tag = tag.toNat) && decide (a.peer = peer) && p a.st

/-- The request is still on its way. -/
def Asked.isSent : Asked → Bool | .sent => true | _ => false
/-- The reply is on its way. -/
def Asked.isAnswered : Asked → Bool | .answered => true | _ => false
/-- The request has left for another module, at least `n` cycles before `now`. -/
def Asked.postedSince (now n : Nat) : Asked → Bool | .posted t => decide (t + n ≤ now) | _ => false

/-- The items that an ask lists: those it covers whose outcome is unknown (R347). -/
def listedItems (x : Slot) (a : Ask) : List Nat := (x.items.filter (fun i => a.covers i && !i.known)).map (fun i => i.seq)

/-- A summary request leaves for another module, with the items that it lists and their batch (R347). -/
def postSummary (s : State) (sl : Nat) (a : Ask) (pos batch : Nat) (items : List Nat) : State :=
  let x := s.slot sl
  sendPod s pos (some (pctxOf s x.ctx)) 3 (some x.cls) (.summaryRequest sl (BitVec.ofNat 2 a.tag) batch items) none

/-- The ask once its request has left. -/
def Ask.leave (a : Ask) (now batch : Nat) (items : List Nat) : Ask := { a with st := .posted now, items := items, batch := batch }

/-- The ask without the items that are still in their slot's outbound queue: the port sends it behind what it lists
(log entry 71). -/
def askGone (s : State) (sl : Nat) (a : Ask) : Ask :=
  let unsent := (s.slot sl).items.filter (fun i => a.covers i && s.reqs.any (fun r =>
    r.ofSlot sl && decide (r.item = some (i.tag, i.seq)) && decide (r.stage = .outbound)))
  { a with upto := (unsent.map (fun i => i.seq)).foldl Nat.min a.upto }

/-- The ask lists an item that no ask under way lists. -/
def askFresh (s : State) (sl : Nat) (a : Ask) : Bool :=
  (s.slot sl).items.any (fun i => a.covers i && !i.known
    && !(s.slot sl).asked.any (fun b => b.covers i && decide (b.st ≠ .sent)))

/-- A slot's request for a summary (R185, R347): a node answers once the items have settled; a request for another
module goes to the ports behind the items it lists; a lost module's items are answered for at once (R349). None where
nothing can be done yet. -/
def askStep (s : State) (sl : Nat) (a : Ask) (p : Ask → Bool) : Option State :=
  match a.peer with
  | .node _ => if askSettled s sl a then some (s.updSlot sl (fun x => x.stepAsk p .answered)) else none
  | .module pos =>
    if s.pod.lost.contains pos then some (s.updSlot sl (fun x => x.stepAsk p .answered))
    else
      let b := askGone s sl a
      let l := listedItems (s.slot sl) b
      let k := (s.slot sl).batchNo a.tag
      if b.upto = a.upto then some ((postSummary s sl a pos k l).updSlot sl (fun x =>
        { x with asked := updFirstAsk p (fun c => c.leave s.cycle k l) x.asked }))
      else if askFresh s sl b then
        some ((postSummary s sl b pos k l).updSlot sl (fun x => { x with asked := x.asked ++ [b.leave s.cycle k l] }))
      else none

/-- A listed item of another module has settled here, its hint acknowledged (R347, R406). -/
def peerSettled (s : State) (a : PeerAsk) (seq : Nat) : Bool :=
  s.pod.items.any (fun i => PeerItem.is a.pos a.sl a.tag.toNat seq a.batch i && decide (i.left = 0) && !i.hint)

/-- The request lists the item. -/
def PeerAsk.lists (a : PeerAsk) (i : PeerItem) : Bool := a.items.contains i.seq && PeerItem.is a.pos a.sl a.tag.toNat i.seq a.batch i

/-- The failures that a summary reports: number, code, and the fault if there is one. -/
def peerFails (s : State) (a : PeerAsk) : List (Nat × Nat × Option (Nat × Nat)) :=
  (s.pod.items.filter (fun i => a.lists i && decide (i.code ≠ 0#8))).map (fun i => (i.seq, i.code.toNat, i.fault))

/-- This module answers another module's summary request once every listed item has settled (R185, R347). -/
def answerPeer (s : State) (sl : Nat) (tag : BitVec 2) (pos : Nat) : State :=
  match s.pod.asks.find? (fun a => decide (a.pos = pos) && decide (a.sl = sl) && decide (a.tag = tag)) with
  | none => s
  | some a =>
    if a.items.all (peerSettled s a) then
      sendPod { s with pod := { s.pod with asks := eraseFirst (fun b => decide (b.id = a.id)) s.pod.asks } } pos none 3 none
        (.summary sl tag a.batch a.items (peerFails s a)) none
    else s

/-- SUMMARY_REQUEST (R185): the request of a slot here; failing that, the answer to a request of module `peer`. -/
def execSummaryRequest (sl : Nat) (tag : BitVec 2) (peer : Peer) (s : State) : Out :=
  let p := Ask.is tag peer Asked.isSent
  match (match (s.slot sl).asked.find? p with | some a => askStep s sl a p | none => none) with
  | some t => go t
  | none =>
    match peer with
    | .module pos => go (answerPeer s sl tag pos)
    | .node _ => go s

/-- A summary arrives (R185): the slot knows the outcomes of the items it covers. -/
def Slot.learn (x : Slot) (a : Ask) : Slot :=
  let known := mapIf a.covers (fun i => { i with known := true }) x.items
  { x with asked := eraseFirst (fun b => decide (b = a)) x.asked, items := known }

/-- SUMMARY_REPLY (R185). -/
def execSummaryReply (sl : Nat) (tag : BitVec 2) (peer : Peer) (s : State) : Out :=
  match (s.slot sl).asked.find? (Ask.is tag peer Asked.isAnswered) with
  | none => go s
  | some a => go (s.updSlot sl (fun x => x.learn a))

/-! ### Landings (R116, R118, R120, R121) -/

/-- The register code of R71's order that a landing code names. -/
def landReg (code : BitVec 7) : Nat := if code.toNat < 32 then code.toNat else 32 + code.toNat / 4 % 16

/-- A landing buffer has a free entry beside those reserved for a restore (R116, R119). -/
def bufferRoom (s : State) (c : Nat) : Bool := decide ((s.core c).lbuf.length + (s.core c).reserve < 32)

/-- Sends a route hint or an invalidation toward the sender of a landing (R120, R406). -/
def sendHint (s : State) (r : Req) (core : Option Nat) : State :=
  let h : Hint := { id := s.nextId, own := r.own, posted := false, handle := handleBits r.ea, core := core, item := r.item }
  { s with hints := s.hints ++ [h], nextId := s.nextId + 1 }

/-- Marks or clears an item's wait for a hint's acknowledgement (R406). -/
def markHint (s : State) (own : Owner) (item : Option (Nat × Nat)) (v : Bool) : State :=
  match own, item with
  | .slot sl th, some (tag, seq) =>
    if (s.slot sl).th = th then
      let mine := fun (i : Item) => decide (i.tag = tag) && decide (i.seq = seq)
      s.updSlot sl (fun x => { x with items := mapIf mine (fun i => { i with hint := v }) x.items })
    else s
  | .remote pos rid _ batch, some (tag, seq) =>
    let items := mapIf (PeerItem.is pos rid tag seq batch) (fun i => { i with hint := v }) s.pod.items
    { s with pod := { s.pod with items := items } }
  | _, _ => s

/-- The value stays in a core's landing buffer. -/
def holdLanding (s : State) (r : Req) (v : Word) (c : Nat) : State :=
  let e : Held := { id := r.id, th := addrThread r.ea, addr := r.ea, code := r.ea.setWidth 7, val := v, since := s.cycle }
  (s.updCore c (fun k => { k with lbuf := k.lbuf ++ [e] })).stageReq r.id (.held c)

/-- The register of a resident thread fills, if it is empty and not pending; otherwise the value is held (R118). None
where the buffer has no room. -/
def deliverOrHold (s : State) (r : Req) (v : Word) (sl c : Nat) : Option State :=
  let x := s.slot sl
  let code : BitVec 7 := r.ea.setWidth 7
  let reg := landReg code
  if inMask x.pres reg || inMask x.pend reg then
    if bufferRoom s c then some (holdLanding s r v c) else none
  else some ((s.setSlot sl (x.land code v)).settleLanding r.id 0#8)

/-- The value goes on toward a core. It keeps its place in the order of entry, ahead of the values that its slot has sent since, so
that those wait for it and never it for them (R121, R204; log entry 113). -/
def forwardLanding (s : State) (r : Req) (v : Word) (c : Nat) (fwd : Bool) (src : Nat) : State :=
  s.updReq r.id (fun q =>
    { q with op := .landing v none fwd, tgt := .landing c, src := pathSrc src (.landing c), stage := .route })

/-- The home core's table for an arriving value (R118); none where the value must wait in the network. -/
def homeLanding (s : State) (r : Req) (v : Word) (c : Nat) : Option State :=
  let th := addrThread r.ea
  if (s.slot th.birth).holds th then deliverOrHold s r v th.birth c
  else
    match (s.core c).away.find? (fun a => decide (a.th = th)) with
    | none => some (s.settleLanding r.id landExited)
    | some a =>
      match a.st with
      | .moved k => some (forwardLanding s r v k true c)
      | .saved => some (s.stageReq r.id .log)
      | _ => if bufferRoom s c then some (holdLanding s r v c) else none

/-- The slot of a core where a thread is resident. -/
def residentSlot (s : State) (c : Nat) (th : Thread) : Option Nat := (slotsOfCore c).find? (fun k => (s.slot k).holds th)

/-- A forwarded or direct value at a core (R118, R120): delivered or held where its thread is resident, with a hint if
it was forwarded; otherwise returned to the home core, with an invalidation if it was direct. -/
def awayLanding (s : State) (r : Req) (v : Word) (c : Nat) (fwd : Bool) : Option State :=
  match residentSlot s c (addrThread r.ea) with
  | some sl =>
    let t := if fwd then markHint (sendHint s r (some c)) r.own r.item true else s
    deliverOrHold t r v sl c
  | none =>
    let t := if fwd then s else sendHint s r none
    some (forwardLanding t r v (homeCore r.ea) false c)

/-- Another value, bound for a full buffer, is at the head of the landing virtual channel into the node of core `c`, so
that other landings to the node wait behind it (R116). -/
def landingStalled (s : State) (r : Req) (c : Nat) : Bool :=
  match (s.node (nodeOfCore c)).landHead with
  | none => false
  | some h =>
    match s.req? h with
    | some q =>
      decide (h ≠ r.id) && decide (q.stage = .route) &&
        match q.tgt with | .landing k => decide (nodeOfCore k = nodeOfCore c) | _ => false
    | none => false

/-- An earlier value of the same slot for the same landing address is still under way within the module: this one waits, so
that the two settle in issue order (R121, R204). -/
def landingBehind (s : State) (r : Req) : Bool :=
  match r.own with
  | .slot _ _ =>
    s.reqs.any (fun q => decide (q.own = r.own) && q.op.isLanding && decide (q.ea = r.ea) && decide (q.id < r.id)
      && decide (q.stage = .route))
  | _ => false

/-- The slot where the value's thread is resident may still issue in this cycle: its instruction comes first (R107). -/
def landingEarly (s : State) (r : Req) (c : Nat) (away : Bool) : Bool :=
  let th := addrThread r.ea
  let sl := if away then residentSlot s c th else if (s.slot th.birth).holds th then some th.birth else none
  sl.any (issueDue s)

/-- LANDING_ARRIVE (R107, R116, R118): the front value of its path reaches its core. A value that finds the buffer full
stays at the head of the landing virtual channel into the node. -/
def execLandingArrive (id : Nat) (s : State) : Out :=
  match s.req? id with
  | none => go s
  | some r =>
    match r.op, r.tgt with
    | .landing v direct fwd, .landing c =>
      let away := fwd || direct.isSome
      if r.stage ≠ .route ∨ !frontOfPath s r ∨ landingStalled s r c ∨ landingBehind s r ∨ landingEarly s r c away then go s
      else
        match (if away then awayLanding s r v c fwd else homeLanding s r v c) with
        | some t => go (t.updNode (nodeOfCore c) (fun n => { n with landHead := none }))
        | none => go (s.updNode (nodeOfCore c) (fun n => { n with landHead := some id }))
    | _, _ => go s

/-- LANDING_TIMEOUT (R116). -/
def execLandingTimeout (core id : Nat) (s : State) : Out :=
  match (s.core core).lbuf.find? (fun e => decide (e.id = id)) with
  | none => go s
  | some e =>
    if s.cycle < e.since + 1750000 then go s
    else
      go ((s.updCore core (fun k => { k with lbuf := k.lbuf.filter (fun h => decide (h.id ≠ id)) })).settleLanding id
        landTimeout)

/-- A sender's slot installs a hint, or removes an entry (R120). -/
def Slot.installRoute (x : Slot) (h : BitVec 45) (core : Option Nat) : Slot :=
  let rest := x.routes.filter (fun e => decide (e.1 ≠ h))
  match core with
  | some c => { x with routes := ((h, c) :: rest).take 16 }
  | none => { x with routes := rest }

/-- Two values have one sender, whatever their batches. -/
def Owner.sameSender : Owner → Owner → Bool
  | .remote p sl g _, .remote q sm h _ => decide (p = q) && decide (sl = sm) && decide (g = h)
  | a, b => decide (a = b)

/-- An earlier hint or invalidation for the same sender and handle is still on its way: they arrive in order (R120, R406). -/
def hintBehind (s : State) (h : Hint) : Bool :=
  s.hints.any (fun k => k.own.sameSender h.own && decide (k.handle = h.handle) && decide (k.id < h.id) && !k.posted)

/-- A hint or an invalidation reaches its sender's node, or the ports where the sender is in another module; the item no
longer waits for a hint once that is acknowledged (R120, R406). -/
def hintStep (s : State) (install : Bool) (id : Nat) : State :=
  match s.hints.find? (fun h => decide (h.id = id) && decide (h.core.isSome = install) && !hintBehind s h) with
  | none => s
  | some h =>
    match h.own with
    | .slot sl th =>
      let t := if (s.slot sl).th = th then s.updSlot sl (fun x => x.installRoute h.handle h.core) else s
      let t := { t with hints := t.hints.filter (fun k => decide (k.id ≠ id)) }
      if install then markHint t h.own h.item false else t
    | .remote pos sl gen _ =>
      if h.posted then s
      else
        let left := s.hints.filter (fun k => decide (k.id ≠ id))
        let hints := if install then mapIf (fun k => decide (k.id = id)) (fun k => { k with posted := true }) s.hints else left
        sendPod { s with hints := hints } pos none 3 none (.hint id sl gen h.handle h.core) none
    | _ => s

/-- ROUTE_HINT (R120, R406). -/
def execRouteHint (id : Nat) (s : State) : Out := go (hintStep s true id)
/-- ROUTE_INVALIDATE (R120). -/
def execRouteInvalidate (id : Nat) (s : State) : Out := go (hintStep s false id)

/-! ### Landing logs (R119, R375) -/

/-- Physical address of a save record of a context (R375, R394). -/
def recordAddr (s : State) (ctx k : Nat) : Nat :=
  match s.context ctx with
  | some c => c.saveBase + k * 2048
  | none => 0

/-- A word of a record or spill area as firmware reads it: a word that ECC finds uncorrectable is POISON for the reader
(R156), and what firmware then has is open (log entry 96). -/
def recWord (s : State) (a off : Nat) : Word :=
  if s.bad.contains ((a + off) / 8) then Config.lostWord ((a + off) / 8) else wd (s.load (a + off) 8)

/-- Entries in a record's landing log. -/
def logCount (s : State) (a : Nat) : Nat := (recWord s a 0x578).toNat % 64

/-- A hart of node `node` appends a landing to the log of a record, or finds the log full (R119, R375); it reads the count first, a
word that ECC checks (R156). Whether the entry is in the log. -/
def logLanding (s : State) (node rec_ : Nat) (a v : Word) : State × Bool :=
  let n := logCount s rec_
  let s := s.ecc node (rec_ + 0x578)
  if 32 ≤ n then (s, false)
  else
    let put := fun (s : State) (o w : Nat) => (s.store (rec_ + o) 8 w).cleanWord (rec_ + o)
    (put (put (put s (0x600 + 16 * n) a.toNat) (0x608 + 16 * n) v.toNat) 0x578 (n + 1), true)

/-- A value for a SAVED thread is appended or refused (R119), by a hart of its home core's node. -/
def appendLanding (s : State) (r : Req) (v : Word) (a : Away) : State :=
  let p := logLanding s (nodeOfCore (homeCore r.ea)) (recordAddr s a.ctx a.recNo) r.ea v
  p.1.settleLanding r.id (if p.2 then 0#8 else landFull)

/-- LOG_APPEND (R119): in arrival order. A restore waits for the values that the hart has been passed (RESTORE); a value whose
thread is not SAVED goes back to the home core's table, which the spec does not say and no run reaches (log entry 95). -/
def execLogAppend (id : Nat) (s : State) : Out :=
  match s.req? id with
  | none => go s
  | some r =>
    let th := addrThread r.ea
    let earlier := s.reqs.any (fun q => decide (q.stage = .log) && decide (addrThread q.ea = th) && decide (q.stamp < r.stamp))
    match r.op with
    | .landing v _ _ =>
      if r.stage ≠ .log ∨ earlier then go s
      else
        match (s.core (homeCore r.ea)).away.find? (fun a => decide (a.th = th)) with
        | some a =>
          if a.st = .saved then byHart s (nodeOfCore (homeCore r.ea)) (fun s => go (appendLanding s r v a)) else go (forwardLanding s r v (homeCore r.ea) false (homeCore r.ea))
        | none => go (forwardLanding s r v (homeCore r.ea) false (homeCore r.ea))
    | _ => go s

/-! ### Spawned records (R93, R97) -/

/-- A slot of the core is bound to the launch, whose part on the core's node is not complete (R93, R432). A SPAWNAT that names its
own core is judged so too: from a thread on a node outside the placement, or whose part is complete, it is refused with status 2,
where R97 also says that it behaves as FORK; the model's choice (log entry 112). -/
def boundTo (s : State) (c k : Nat) : Bool :=
  (match s.part? k (nodeOfCore c) with | some p => !p.complete | none => false)
  && (slotsOfCore c).any (fun i =>
    decide ((s.slot i).st ≠ .free) && decide ((s.slot i).st ≠ .disabled) && decide ((s.slot i).launch = k))

/-- SPAWN_ARRIVE (R90, R93, R97): the target core pushes the record, or answers that it cannot. Where no slot is bound and the deque
is full, the answer is status 2: which comes first is the model's choice (log entry 112). -/
def execSpawnArrive (id : Nat) (s : State) : Out :=
  match s.req? id with
  | none => go s
  | some r =>
    match r.op, r.tgt with
    | .spawn task, .deque c =>
      if r.stage ≠ .queued ∨ !headOfQueue s r ∨ !dequeReady s c then go s
      else
        if !boundTo s c task.launch then go (finishReq s r 2#256 none)
        else if dequeFull s c then go (finishReq s r 1#256 none)
        else go (finishReq (pushTask s c task) r 0#256 none)
    | _, _ => go s

end Sys2Proof.Machine
end

