-- ==== Sys2Proof/Machine/Sched.lean ====
section
/-! DEFINITION. Slots between instructions (R3, R73, R81, R105, R161, R209, R379), task deques and stealing (R90 to R92),
and the end of a launch's part on a node (R103, R370, R432). -/

namespace Sys2Proof.Machine

/-! ### Turns without an issue, parks and drain mode -/

/-- An unhandled thread whose accesses are performed has ended (R209, R381). -/
def endIfQuiet (s : State) (sl : Nat) : State :=
  match (s.slot sl).ending with
  | some c => if quiet s sl then finishEnd s sl (wd (c.toNat * 2 ^ 56 + 2 ^ 32)) else s
  | none => s

/-- WASTED_TURN (R81, R84): WASTED rises while the slot is bound; a due replay is forgone with this turn (R73), unless
throttling takes it (R402). -/
def execWastedTurn (sl : Nat) (s : State) : Out :=
  let x := s.slot sl
  let forgo := replayDue x && !noThread x && !throttled s (nodeOfSlot sl)
  let y := if forgo then { x with replay := none } else x
  if x.st = .free ∨ x.st = .disabled then go s else go (endIfQuiet (s.setSlot sl (y.count cntWasted)) sl)

/-- TARGET_FAULT_TRAP (R161, R378): the resume offset is that of the first instruction that has not issued. A turn of a park or of
drain mode is wasted by it (R84). -/
def execTargetFaultTrap (sl : Nat) (s : State) : Out :=
  let x := s.slot sl
  let t := if x.st = .parked ∨ x.drain then s.updSlot sl (fun y => y.count cntWasted) else s
  match x.tfault with
  | some f => go (takeTrap t sl f.cause f.faddr f.finfo x.pc)
  | none => go s

/-- PARK_RESUME (R3, R79, R80): the slot's word fails no check of R75, so the slot is RUNNING; the park lasts until it
issues. -/
def execParkResume (sl : Nat) (s : State) : Out :=
  let x := s.slot sl
  if x.st ≠ .parked ∨ x.reason = .idle then go s
  else if x.ending.isSome then go (endIfQuiet s sl)
  else
    let ready := match fetch s sl with | .ok i => (stallOf s sl i).isNone | .trap _ _ _ => true
    if ready then go (s.setSlot sl { x with st := .running, reason := .none }) else go s

/-- DRAIN_TIMEOUT (R105): drain mode, in which the slot's summaries are asked for (R377). -/
def execDrainTimeout (sl : Nat) (s : State) : Out :=
  let x := s.slot sl
  match x.pre with
  | some t =>
    if s.cycle < t + 4096 ∨ x.drain then go s
    else go (s.setSlot sl ((List.range 4).foldl (fun y k => y.askTag k) { x with drain := true }))
  | none => go s

/-! ### Task deques (R90, R91) -/

/-- The slot waits for work of a launch. -/
def idleFor (x : Slot) (k : Nat) : Bool := decide (x.st = .parked) && decide (x.reason = .idle) && decide (x.launch = k)

/-- The tile holds the whole code of a launch (R370). -/
def hasCode (s : State) (t k : Nat) : Bool :=
  (match (s.tile t).hold0 with | some h => decide (h.launch = k) && h.loaded | none => false)
  || (match (s.tile t).hold1 with | some h => decide (h.launch = k) && h.loaded | none => false)

/-- The bottom-most record that meets a test and is not in transit. -/
def bottomTask (l : List Task) (p : Task → Bool) : Option Task := l.reverse.find? (fun r => !r.transit && p r)

/-- Removes the bottom-most copy of a record. -/
def dropTask (l : List Task) (r : Task) : List Task := (eraseFirst (fun q => decide (q = r)) l.reverse).reverse

/-- The taker of a record of core `c`, and the record (R91): an IDLE slot of the record's launch, else a FREE slot. -/
def taskChoice (s : State) (c : Nat) : Option (Nat × Task) :=
  let d := (s.core c).deque
  let idle := (slotsOfCore c).findSome? (fun i =>
    let x := s.slot i
    if idleFor x x.launch then (bottomTask d (fun r => decide (r.launch = x.launch))).map (fun r => (i, r)) else none)
  match idle with
  | some p => some p
  | none =>
    match (slotsOfCore c).find? (fun i => decide ((s.slot i).st = .free)) with
    | some i => (bottomTask d (fun r => hasCode s (tileOfCore c) r.launch)).map (fun r => (i, r))
    | none => none

/-- TASK_TAKE (R90, R91): a thread is born from the record. -/
def execTaskTake (core : Nat) (s : State) : Out :=
  match (if dequeReady s core then taskChoice s core else none) with
  | none => go s
  | some (sl, r) =>
    let keep := decide ((s.slot sl).st ≠ .free)
    let t := s.updCore core (fun k => { k with deque := dropTask k.deque r, dequeAt := s.cycle + 1 })
    let u := birth t sl r.launch r.pc [r.parent, r.w0, r.w1, r.w2, r.w3] keep
    go (if r.stolen then u.updSlot sl (fun x => x.count cntStolen) else u)

/-! ### Stealing (R92) -/

/-- The other cores of a core's node at one level, from `i` on and wrapping: tile (4), group (16), node (64). -/
def levelCores (c size inner : Nat) : List (List Nat) :=
  let n := nodeOfCore c * 64
  let i := c % 64
  (((List.range 63).map (fun j => (i + 1 + j) % 64)).filter (fun x =>
    decide (x / size = i / size) && (decide (inner = 0) || decide (x / inner ≠ i / inner)))).map (fun x => [n + x])

/-- The nodes beyond the core's own that a launch's domain gives the probe generator to choose from: those of the
context's allotment on the die, or in the module. -/
def domainNodes (s : State) (c ctx domain : Nat) : List Nat :=
  match s.context ctx with
  | none => []
  | some x => (List.range nodeCount).filter (fun n => x.allots n && decide (n ≠ nodeOfCore c)
      && (decide (domain = 5) || decide (dieOfNode n = dieOfNode (nodeOfCore c))))

/-- The targets of a round: cores of the node in order of distance, then 8 nodes that the generator chooses. -/
def probeTargets (s : State) (c ctx domain : Nat) : List (List Nat) × Nat :=
  let near := (if 1 ≤ domain then levelCores c 4 0 else []) ++ (if 2 ≤ domain then levelCores c 16 4 else [])
    ++ (if 3 ≤ domain then levelCores c 64 16 else [])
  if domain < 4 then (near, s.freeCtr)
  else
    let ns := domainNodes s c ctx domain
    let far := (List.range 8).filterMap (fun i =>
      if ns = [] then none else some (coresOfNode (nth 0 ns (Config.probeNode (s.freeCtr + i) % ns.length))))
    (near ++ far, s.freeCtr + 8)

/-- The round goes on with its next target, or ends; after an empty round the slot probes again 1,024 cycles later. A
round also ends once its slot is no longer idle. -/
def nextProbe (s : State) (c sl k : Nat) (rest : List (List Nat)) : State :=
  if rest = [] then
    (s.updCore c (fun x => { x with probe := none })).updSlot sl (fun x =>
      if idleFor x k then { x with retryAt := s.cycle + 1024 } else x)
  else s.updCore c (fun x => { x with probe := if idleFor (s.slot sl) k then some (.asked sl k rest) else none })

/-- STEAL_RETRY (R92): an IDLE slot begins a round of probes. -/
def execStealRetry (sl : Nat) (s : State) : Out :=
  let x := s.slot sl
  let c := coreOfSlot sl
  let k := s.core c
  match s.launch? x.launch with
  | none => go s
  | some l =>
    if !idleFor x x.launch || decide (s.cycle < x.retryAt) || k.probe.isSome || decide (l.pkt.domain = 0)
        || k.deque.any (fun r => decide (r.launch = x.launch)) then go s
    else
      let t := probeTargets s c l.ctx l.pkt.domain
      go (nextProbe { s with freeCtr := t.2 } c sl x.launch t.1)

/-- The first core of a target that has a record to give, and its top-most such record. -/
def victimOf (s : State) (k : Nat) (cores : List Nat) : Option (Nat × Task) :=
  cores.findSome? (fun v => ((s.core v).deque.find? (fun r => !r.transit && decide (r.launch = k))).map (fun r => (v, r)))

/-- Changes the first record of a list that equals `r`. -/
def markTask (l : List Task) (r q : Task) : List Task :=
  match l with
  | [] => []
  | h :: t => if h = r then q :: t else h :: markTask t r q

/-- STEAL_PROBE (R92): the probed core marks its top-most record of the launch and sends it, or replies empty. -/
def execStealProbe (core : Nat) (s : State) : Out :=
  match (s.core core).probe with
  | some (.asked sl k (t :: rest)) =>
    match victimOf s k t with
    | some (v, r) =>
      let u := s.updCore v (fun x => { x with deque := markTask x.deque r { r with transit := true } })
      go (u.updCore core (fun x => { x with probe := some (.record sl k rest v r) }))
    | none => go (s.updCore core (fun x => { x with probe := some (.empty sl k rest) }))
  | _ => go s

/-- PROBE_EMPTY_REPLY (R92). -/
def execProbeEmptyReply (core : Nat) (s : State) : Out :=
  match (s.core core).probe with
  | some (.empty sl k rest) => go (nextProbe s core sl k rest)
  | _ => go s

/-- STEAL_RECORD_ARRIVE (R90, R92): the thief core accepts the record, or refuses it while its deque is full. -/
def execStealRecordArrive (core : Nat) (s : State) : Out :=
  match (if dequeReady s core then (s.core core).probe else none) with
  | some (.record sl k rest v r) =>
    let ok := !dequeFull s core
    let t := s.updCore core (fun x => { x with answers := x.answers ++ [(v, r, ok)] })
    if ok then go (pushTask (t.updCore core (fun x => { x with probe := none })) core { r with stolen := true })
    else go (nextProbe t core sl k rest)
  | _ => go s

/-- THIEF_ANSWER (R90, R92): the answer of thief core `core` reaches its victim; an accepted record is a removal. -/
def execThiefAnswer (core : Nat) (s : State) : Out :=
  match (s.core core).answers with
  | [] => go s
  | (v, r, ok) :: rest =>
    let t := s.updCore core (fun x => { x with answers := rest })
    let q := { r with transit := true }
    if !ok then go (t.updCore v (fun x => { x with deque := markTask x.deque q r }))
    else if dequeReady s v then
      go (t.updCore v (fun x =>
        { x with deque := eraseFirst (fun e => decide (e = q)) x.deque, dequeAt := s.cycle + 1 }))
    else go s

/-! ### A node's part of a launch (R103, R432) -/

/-- The probe is one for the launch. -/
def Probe.isFor (k : Nat) : Probe → Bool
  | .asked _ l _ => decide (l = k)
  | .record _ l _ _ _ => decide (l = k)
  | .empty _ l _ => decide (l = k)

/-- The slots of a node bound to a launch. -/
def boundSlots (s : State) (node k : Nat) : List Nat :=
  (s.slots.filter (fun e => decide (nodeOfSlot e.1 = node) && decide (e.2.launch = k) && decide (e.2.st ≠ .free)
    && decide (e.2.st ≠ .disabled))).map (fun e => e.1)

/-- A contribution due at its birth node has left: every command of its thread has completed (R432). -/
def contribReady (s : State) (th : Thread) : Bool := (allCmds s).all (fun c => decide (c.th ≠ th))

/-- A launch's part on a node is complete (R103): every share is seeded, every bound slot is IDLE, no record, probe, away
thread or command of the launch is left on the node, and every contribution due has left. -/
def partOver (s : State) (node k : Nat) (p : Part) : Bool :=
  p.shares.all (fun h => h.seeded)
  && (boundSlots s node k).all (fun i => idleFor (s.slot i) k)
  && s.cores.all (fun e => decide (nodeOfCore e.1 ≠ node)
      || (e.2.deque.all (fun r => decide (r.launch ≠ k)) && (match e.2.probe with | some q => !q.isFor k | none => true)
          && e.2.away.all (fun a => decide (a.launch ≠ k))))
  && (allCmds s).all (fun c => decide (c.launch ≠ k) || decide (nodeOfSlot c.sl ≠ node))
  && s.contribs.all (fun c => decide (c.1 ≠ k) || decide (c.2.1 ≠ node) || contribReady s c.2.2.1)

/-- Removes the placement pins of a part (R333). -/
def unpin (s : State) (node : Nat) (pins : List Nat) : State :=
  pins.foldl (fun s e => let p := s.plate node e; s.setPlate node e { p with pins := p.pins - 1#16 }) s

/-- What a launch holds on a node is released: schedule tables, placement pins, code banks (R94, R333, R370). -/
def releasePart (s : State) (node k : Nat) (pins : List Nat) : State :=
  let s := unpin s node pins
  let s := (coresOfNode node).foldl (fun s c =>
    if (s.core c).owner = some k then s.updCore c (fun x => { x with owner := none }) else s) s
  (tilesOfNode node).foldl freeBanks s

/-- NODE_PART_COMPLETE (R103): contributions that are due are combined (R102), the bound slots become FREE, and what the
launch holds on the node is released. -/
def execNodePartComplete (node seq : Nat) (s : State) : Out :=
  match s.part? seq node with
  | none => go s
  | some p =>
    if p.complete || !partOver s node seq p then go s
    else
      let mine := fun (c : Nat × Nat × Thread × Word) => decide (c.1 = seq) && decide (c.2.1 = node)
      let t := (s.contribs.filter mine).foldl (fun s c => s.addStatus seq node c.2.2.2) s
      let t := { t with contribs := t.contribs.filter (fun c => !mine c) }
      let t := (boundSlots t node seq).foldl (fun s i => s.updSlot i (fun x => { x with st := .free, reason := .none })) t
      go (releasePart (t.updPart seq node (fun q => { q with complete := true })) node seq p.pins)

end Sys2Proof.Machine
end

