-- ==== Sys2Proof/Machine/Vector.lean ====
section
/-! DEFINITION. The vector datapath: VOP (R215 to R227) and VXF (R228, R229), by lanes of the format in EFMT (R212). -/

namespace Sys2Proof.Machine

/-! ### Lanes -/

/-- The lanes of a vector under a code, lowest first, as their bits. -/
def lanesList (e : Nat) (v : Vec) : List Nat := (List.range (lanesOf e)).map (laneBits e v)

/-- A vector from lane bits of width `w`, lowest first; zero above (R37, R212). -/
def packLanes (w : Nat) (l : List Nat) : Vec :=
  BitVec.ofNat 256 (l.zipIdx.foldl (fun a x => a + x.1 % 2 ^ w * 2 ^ (w * x.2)) 0)

/-- One lane of width `w` replaced. -/
def setLaneW (w : Nat) (v : Vec) (i n : Nat) : Vec :=
  (v &&& ~~~(BitVec.ofNat 256 (2 ^ w - 1) <<< (w * i))) ||| (BitVec.ofNat 256 (n % 2 ^ w) <<< (w * i))

/-- Under INT6 the bits above the lanes are written 0 (R212). -/
def clearInt6 (e : Nat) (v : Vec) : Vec := if e = 1 then v &&& BitVec.ofNat 256 (2 ^ 252 - 1) else v

/-- The integer of a lane: unsigned under NAT8, signed under every other code (R216). -/
def laneInt (e n : Nat) : Int := if e = 3 then (n : Int) else sextNat n (laneWidth e)

/-- An integer as lane bits, mod 2^w. -/
def toLane (e : Nat) (i : Int) : Nat := (i % (2 ^ laneWidth e : Nat)).toNat

/-- Saturation to a lane: Sat, or SatN for NAT8 (R216). -/
def satLane (e : Nat) (i : Int) : Nat := toLane e (if e = 3 then satU i 8 else satS i (laneWidth e))

/-- A code of an FP format (R51). -/
def isFp (e : Nat) : Bool := decide (6 ≤ e)
/-- The format of an FP code. -/
def laneFmt (e : Nat) : Fmt := if e = 6 then fp16 else if e = 7 then bf16 else fp32

/-- A word of VOP or VXF issues with EFMT's code (R52, R213). -/
def vecOp (i : Instr) (s : State) (k : Nat → Slot → State → Out) : Out :=
  issue i s (fun t => withEfmt t (fun e => k e (t.slot t.cur) t))

/-- One lane-wise result of two sources. -/
def map2 (e : Nat) (f : Nat → Nat → Nat) (a b : Vec) : Vec :=
  packLanes (laneWidth e) (((lanesList e a).zip (lanesList e b)).map (fun p => f p.1 p.2))

/-- One lane-wise result of three sources. -/
def map3 (e : Nat) (f : Nat → Nat → Nat → Nat) (a b c : Vec) : Vec :=
  packLanes (laneWidth e) (((lanesList e a).zip ((lanesList e b).zip (lanesList e c))).map (fun p => f p.1 p.2.1 p.2.2))

/-- One lane-wise result of one source. -/
def map1 (e : Nat) (f : Nat → Nat) (a : Vec) : Vec := packLanes (laneWidth e) ((lanesList e a).map f)

/-- A word with two vector sources, lane by lane. -/
def lanes2 (i : Instr) (d a b : VReg) (f : Nat → Nat → Nat → Nat) (s : State) : Out :=
  vecOp i s (fun e x t => writeV t d (map2 e (f e) (x.rv a) (x.rv b)))

/-- A word with one vector source, lane by lane. -/
def lanes1 (i : Instr) (d a : VReg) (f : Nat → Nat → Nat) (s : State) : Out :=
  vecOp i s (fun e x t => writeV t d (map1 e (f e) (x.rv a)))

/-- A word on all 256 bits; under INT6 the top bits are written 0 (R212, R216; log entry 10). -/
def bits2 (i : Instr) (d a b : VReg) (f : Vec → Vec → Vec) (s : State) : Out :=
  vecOp i s (fun e x t => writeV t d (clearInt6 e (f (x.rv a) (x.rv b))))

/-! ### Lane functions (R216, R217) -/

/-- VADD. -/
def laneAdd (e a b : Nat) : Nat :=
  if isFp e then (Fp.sum [laneValue e a, laneValue e b]).encode (laneFmt e) else toLane e (laneInt e a + laneInt e b)
/-- VSUB. -/
def laneSub (e a b : Nat) : Nat :=
  if isFp e then (Fp.sum [laneValue e a, (laneValue e b).neg]).encode (laneFmt e) else toLane e (laneInt e a - laneInt e b)
/-- VMUL. -/
def laneMul (e a b : Nat) : Nat :=
  if isFp e then ((laneValue e a).mul (laneValue e b)).encode (laneFmt e) else toLane e (laneInt e a * laneInt e b)
/-- VMAD. -/
def laneMad (e a b c : Nat) : Nat :=
  if isFp e then (Fp.sum [(laneValue e a).mul (laneValue e b), laneValue e c]).encode (laneFmt e)
  else toLane e (laneInt e a * laneInt e b + laneInt e c)
/-- VMIN, or VMAX where `mx`. -/
def laneMinMax (mx : Bool) (e a b : Nat) : Nat :=
  if isFp e then fpMinMax (laneFmt e) mx a b
  else if mx then (if laneInt e a < laneInt e b then b else a) else (if laneInt e b < laneInt e a then b else a)
/-- VABS. -/
def laneAbs (e a : Nat) : Nat :=
  if isFp e then (if (laneValue e a).isNan then (laneFmt e).nanPat else a % (laneFmt e).signPat)
  else toLane e (laneInt e a).natAbs
/-- VNEG. -/
def laneNeg (e a : Nat) : Nat :=
  if isFp e then
    (if (laneValue e a).isNan then (laneFmt e).nanPat else (a + (laneFmt e).signPat) % (2 * (laneFmt e).signPat))
  else toLane e (-laneInt e a)
/-- VSHL. -/
def laneShl (e a b : Nat) : Nat := if laneWidth e ≤ b then 0 else a * 2 ^ b
/-- VSHR. -/
def laneShr (e a b : Nat) : Nat := if laneWidth e ≤ b then 0 else a / 2 ^ b
/-- VSHRA: an integer form, unsigned under NAT8 alone. -/
def laneShra (e a b : Nat) : Nat := toLane e (laneInt e a / (2 ^ min b (laneWidth e) : Nat))
/-- A compare's lane: all ones where the relation holds (R218). -/
def laneRel (p : Ordering → Bool) (nan : Bool) (e a b : Nat) : Nat :=
  let r :=
    if isFp e then
      (if (laneValue e a).isNan || (laneValue e b).isNan then nan else p ((laneValue e a).cmp (laneValue e b)))
    else p (compare (laneInt e a) (laneInt e b))
  if r then 2 ^ laneWidth e - 1 else 0

/-- VADD (R216, R217). -/
def execVadd (d a b : VReg) (s : State) : Out := lanes2 (.vadd d a b) d a b laneAdd s
/-- VSUB (R216, R217). -/
def execVsub (d a b : VReg) (s : State) : Out := lanes2 (.vsub d a b) d a b laneSub s
/-- VMUL (R216, R217). -/
def execVmul (d a b : VReg) (s : State) : Out := lanes2 (.vmul d a b) d a b laneMul s
/-- VMAD (R216, R217). -/
def execVmad (d a b c : VReg) (s : State) : Out :=
  vecOp (.vmad d a b c) s (fun e x t => writeV t d (map3 e (laneMad e) (x.rv a) (x.rv b) (x.rv c)))
/-- VMIN (R216, R217). -/
def execVmin (d a b : VReg) (s : State) : Out := lanes2 (.vmin d a b) d a b (laneMinMax false) s
/-- VMAX (R216, R217). -/
def execVmax (d a b : VReg) (s : State) : Out := lanes2 (.vmax d a b) d a b (laneMinMax true) s
/-- VABS (R216, R217). -/
def execVabs (d a : VReg) (s : State) : Out := lanes1 (.vabs d a) d a laneAbs s
/-- VNEG (R216, R217). -/
def execVneg (d a : VReg) (s : State) : Out := lanes1 (.vneg d a) d a laneNeg s
/-- VADDS (R216). -/
def execVadds (d a b : VReg) (s : State) : Out :=
  lanes2 (.vadds d a b) d a b (fun e p q => satLane e (laneInt e p + laneInt e q)) s
/-- VSUBS (R216). -/
def execVsubs (d a b : VReg) (s : State) : Out :=
  lanes2 (.vsubs d a b) d a b (fun e p q => satLane e (laneInt e p - laneInt e q)) s
/-- VMULS (R216). -/
def execVmuls (d a b : VReg) (s : State) : Out :=
  lanes2 (.vmuls d a b) d a b (fun e p q => satLane e (laneInt e p * laneInt e q)) s
/-- VAND (R216). -/
def execVand (d a b : VReg) (s : State) : Out := bits2 (.vand d a b) d a b (fun p q => p &&& q) s
/-- VOR (R216). -/
def execVor (d a b : VReg) (s : State) : Out := bits2 (.vor d a b) d a b (fun p q => p ||| q) s
/-- VXOR (R216). -/
def execVxor (d a b : VReg) (s : State) : Out := bits2 (.vxor d a b) d a b (fun p q => p ^^^ q) s
/-- VANDN (R216). -/
def execVandn (d a b : VReg) (s : State) : Out := bits2 (.vandn d a b) d a b (fun p q => p &&& ~~~q) s
/-- VSHL (R216). -/
def execVshl (d a b : VReg) (s : State) : Out := lanes2 (.vshl d a b) d a b laneShl s
/-- VSHR (R216). -/
def execVshr (d a b : VReg) (s : State) : Out := lanes2 (.vshr d a b) d a b laneShr s
/-- VSHRA (R216). -/
def execVshra (d a b : VReg) (s : State) : Out := lanes2 (.vshra d a b) d a b laneShra s
/-- VCMPEQ (R218). -/
def execVcmpeq (d a b : VReg) (s : State) : Out := lanes2 (.vcmpeq d a b) d a b (laneRel (fun o => decide (o = .eq)) false) s
/-- VCMPNE (R218). -/
def execVcmpne (d a b : VReg) (s : State) : Out := lanes2 (.vcmpne d a b) d a b (laneRel (fun o => decide (o ≠ .eq)) true) s
/-- VCMPLT (R218). -/
def execVcmplt (d a b : VReg) (s : State) : Out := lanes2 (.vcmplt d a b) d a b (laneRel (fun o => decide (o = .lt)) false) s
/-- VCMPLE (R218). -/
def execVcmple (d a b : VReg) (s : State) : Out := lanes2 (.vcmple d a b) d a b (laneRel (fun o => decide (o ≠ .gt)) false) s
/-- VSEL (R218). -/
def execVsel (d a b c : VReg) (s : State) : Out :=
  vecOp (.vsel d a b c) s (fun e x t =>
    writeV t d (map3 e (fun p q m => if m ≠ 0 then p else q) (x.rv a) (x.rv b) (x.rv c)))

/-- Byte `j` of VPERM's result (R218). -/
def permByte (a b c : Vec) (j : Nat) : Nat :=
  let k := c.toNat / 2 ^ (8 * j) % 256
  if 128 ≤ k then 0
  else
    let n := k % 64
    if n < 32 then a.toNat / 2 ^ (8 * n) % 256 else b.toNat / 2 ^ (8 * (n - 32)) % 256

/-- VPERM (R218). -/
def execVperm (d a b c : VReg) (s : State) : Out :=
  vecOp (.vperm d a b c) s (fun e x t =>
    writeV t d (clearInt6 e (packLanes 8 ((List.range 32).map (permByte (x.rv a) (x.rv b) (x.rv c))))))

/-! ### Conversion and quantisation (R219 to R221) -/

/-- One lane converted from code `e` to code `t` (R40, R219). -/
def convLane (e t n : Nat) : Nat :=
  if t ≤ 5 then
    let lo : Int := if t = 3 then 0 else -(2 ^ (laneWidth t - 1) : Nat)
    let hi : Int := if t = 3 then 255 else (2 ^ (laneWidth t - 1) : Nat) - 1
    toLane t ((laneValue e n).toIntSat false lo hi)
  else (laneValue e n).encode (laneFmt t)

/-- VCVT's result: the window of lanes converted, the rest kept (R219). -/
def convert (e t p : Nat) (v x : Vec) : Vec :=
  let ns := lanesOf e
  let nt := lanesOf t
  let m := min ns nt
  let s0 := if nt < ns then p * m else 0
  let d0 := if ns < nt then p * m else 0
  clearInt6 t ((List.range m).foldl (fun x i =>
    if s0 + i < ns ∧ d0 + i < nt then setLaneW (laneWidth t) x (d0 + i) (convLane e t (laneBits e v (s0 + i))) else x) x)

/-- VCVT (R219). -/
def execVcvt (d a : VReg) (t p : BitVec 4) (s : State) : Out :=
  vecOp (.vcvt d a t p) s (fun e x u => writeV u d (convert e t.toNat p.toNat (x.rv a) (x.rv d)))

/-- floor(log2 M) of the greatest magnitude of finite, not all zero, values (R220). -/
def topExp (l : List Fp) : Int :=
  let es := l.filterMap (fun v => match v with | .fin _ m e => if m = 0 then none else some (e + Nat.log2 m) | _ => none)
  match es with
  | [] => 0
  | h :: t => t.foldl max h

/-- The scale code of a register (R220). -/
def scaleCode (l : List Fp) : Nat :=
  if l.any Fp.isNan then 0xFF
  else if l.any (fun v => v.isInf true || v.isInf false) then 0xFE
  else if l.all (fun v => v.isZero true || v.isZero false) then 0
  else (min (max (topExp l + 128) 0) 0xFD).toNat

/-- VQSCL (R220). -/
def execVqscl (d a b : VReg) (s : State) : Out :=
  vecOp (.vqscl d a b) s (fun e x t =>
    writeV t d (BitVec.ofNat 256 (max (scaleCode ((lanesList e (x.rv a)).map (laneValue e))) ((x.rv b).toNat % 256))))

/-- VQNT (R221). -/
def execVqnt (d a b : VReg) (k : BitVec 4) (s : State) : Out :=
  vecOp (.vqnt d a b k) s (fun e x t =>
    let sc := (x.rv b).toNat % 256
    writeV t d (packLanes 8 (((lanesList e (x.rv a)).take (min (lanesOf e) 32)).map (fun n =>
      (q8Of (laneValue e n) sc k.toNat % 256).toNat))))

/-! ### Function conversions (R222 to R225) -/

/-- A function on FP32 patterns applied to a lane of any code (R225). -/
def funcLane (f : Nat → Nat) (e n : Nat) : Nat :=
  let y := f (if e = 8 then n else (laneValue e n).encode fp32)
  if e ≤ 5 then convLane 8 e y else (f32 y).encode (laneFmt e)

/-- A pipeline result joins the core's pipeline (R222, R242): the destination is pending until cycle `due`. -/
def pipeOp (s : State) (d : VReg) (v : Vec) (la : BitVec 4) (delay : Nat) (mean : Bool) : Out :=
  let sl := s.cur
  let x := s.slot sl
  let id := s.nextId
  let y := (((x.retire (x.pc + 4)).pending (regBit (vcode d))).openWin id la.toNat (regBit (vcode d)))
  let p : Pipe := { id := id, due := s.cycle + delay, sl := sl, th := x.th, mean := mean, dest := d, val := v }
  go { s.setSlot sl y with pipe := s.pipe ++ [p], nextId := id + 1 }

/-- A function conversion issues (R222). -/
def funcOp (i : Instr) (d a : VReg) (l : BitVec 4) (f : Nat → Nat) (s : State) : Out :=
  vecOp i s (fun e x t => pipeOp t d (map1 e (funcLane f e) (x.rv a)) l 20 false)

/-- VEXP2 (R223). -/
def execVexp2 (d a : VReg) (l : BitVec 4) (s : State) : Out := funcOp (.vexp2 d a l) d a l exp2Pat s
/-- VLOG2 (R223). -/
def execVlog2 (d a : VReg) (l : BitVec 4) (s : State) : Out := funcOp (.vlog2 d a l) d a l log2Pat s
/-- VRCP (R224). -/
def execVrcp (d a : VReg) (l : BitVec 4) (s : State) : Out := funcOp (.vrcp d a l) d a l rcpPat s
/-- VRSQ (R224). -/
def execVrsq (d a : VReg) (l : BitVec 4) (s : State) : Out := funcOp (.vrsq d a l) d a l rsqrtPat s

/-! ### Dot products and reductions (R226, R227) -/

/-- Lanes of group `j` (R226). -/
def groupLanes (e j : Nat) : List Nat :=
  let g := (lanesOf e + 7) / 8
  ((List.range g).map (fun i => j * g + i)).filter (fun i => decide (i < lanesOf e))

/-- Lane `j` of VDOT and VDOTS. -/
def dotLane (sat : Bool) (e : Nat) (a b dst : Vec) (j : Nat) : Nat :=
  let dj := laneBits 8 dst j
  let ls := groupLanes e j
  if isFp e then
    r32 (Fp.sum (f32 dj :: ls.map (fun i => (laneValue e (laneBits e a i)).mul (laneValue e (laneBits e b i)))))
  else
    let v := sextNat dj 32 + ls.foldl (fun (z : Int) i => z + laneInt e (laneBits e a i) * laneInt e (laneBits e b i)) 0
    toLane 5 (if sat then satS v 32 else v)

/-- VDOT and VDOTS: a group without lanes leaves its lane as it is (R226). -/
def dotOp (sat : Bool) (e : Nat) (a b dst : Vec) : Vec :=
  (List.range 8).foldl (fun v j => if groupLanes e j = [] then v else setLaneW 32 v j (dotLane sat e a b dst j)) dst

/-- VDOT (R226). -/
def execVdot (d a b : VReg) (s : State) : Out :=
  vecOp (.vdot d a b) s (fun e x t => writeV t d (dotOp false e (x.rv a) (x.rv b) (x.rv d)))
/-- VDOTS (R226). -/
def execVdots (d a b : VReg) (s : State) : Out :=
  vecOp (.vdots d a b) s (fun e x t => writeV t d (dotOp true e (x.rv a) (x.rv b) (x.rv d)))

/-- VRSUM's result (R227). -/
def reduceSum (e : Nat) (v : Vec) : Vec :=
  if isFp e then BitVec.ofNat 256 (r32 (Fp.sum ((lanesList e v).map (laneValue e))))
  else (wi ((lanesList e v).foldl (fun (z : Int) n => z + laneInt e n) 0)).setWidth 256

/-- VRMIN's or VRMAX's result (R227). -/
def reduceMinMax (mx : Bool) (e : Nat) (v : Vec) : Vec :=
  match lanesList e v with
  | [] => 0#256
  | h :: t =>
    let r := t.foldl (laneMinMax mx e) h
    if isFp e then BitVec.ofNat 256 ((laneValue e r).encode fp32) else (wi (laneInt e r)).setWidth 256

/-- VRSUM (R227). -/
def execVrsum (d a : VReg) (s : State) : Out := vecOp (.vrsum d a) s (fun e x t => writeV t d (reduceSum e (x.rv a)))
/-- VRMIN (R227). -/
def execVrmin (d a : VReg) (s : State) : Out := vecOp (.vrmin d a) s (fun e x t => writeV t d (reduceMinMax false e (x.rv a)))
/-- VRMAX (R227). -/
def execVrmax (d a : VReg) (s : State) : Out := vecOp (.vrmax d a) s (fun e x t => writeV t d (reduceMinMax true e (x.rv a)))

/-! ### VXF (R228, R229) -/

/-- VSPLAT (R229). -/
def execVsplat (d a : Reg) (s : State) : Out :=
  vecOp (.vsplat d a) s (fun e x t =>
    writeV t (d.setWidth 4) (packLanes (laneWidth e) (List.replicate (lanesOf e) (x.rg a).toNat)))

/-- A 64-bit word of a vector. -/
def vecWord (v : Vec) (k : Nat) : Word := BitVec.ofNat 64 (v.toNat / 2 ^ (64 * k))

/-- VEXT (R229). -/
def execVext (d a b : Reg) (s : State) : Out :=
  vecOp (.vext d a b) s (fun e x t =>
    let q := x.rg b
    let v := x.rw a
    if q.getLsbD 7 then writeG t d (vecWord v (q.toNat % 4))
    else
      let n := laneBits e v (q.toNat % 128 % lanesOf e)
      writeG t d (if e = 3 ∨ isFp e then wd n else wi (laneInt e n)))

/-- VINS (R229). -/
def execVins (d a b : Reg) (s : State) : Out :=
  vecOp (.vins d a b) s (fun e x t =>
    let q := x.rg b
    let v := x.rw d
    writeV t (d.setWidth 4) (clearInt6 e
      (if q.getLsbD 7 then setLane v (q.toNat % 4) (x.rg a)
       else setLaneW (laneWidth e) v (q.toNat % 128 % lanesOf e) (x.rg a).toNat)))

end Sys2Proof.Machine
end

