-- ==== Sys2Proof/Machine/Mean.lean ====
section
/-! DEFINITION. The mean unit: TMINIT, TMACC, TMMRG, TMFIN, TMLOAD (R241 to R249, R254, R255), the switch of a table
pair, and the results of the core's two pipelines (R222, R242). -/

namespace Sys2Proof.Machine

/-- The image of a pair of the current slot's tile (R251); the ROM pairs have none. -/
def pairImage (s : State) (t p : Nat) : Option (List Word) :=
  if p = 2 then (s.tile t).pair2 else if p = 3 then (s.tile t).pair3 else some []

/-- A pair that names nothing, or is UNLOADED on the current tile (R243, R244). -/
def noPair (s : State) (p : Nat) : Bool := decide (4 ≤ p) || (pairImage s (tileOfSlot s.cur) p).isNone

/-- The image of a pair that is there. -/
def imageOf (s : State) (p : Nat) : List Word := (pairImage s (tileOfSlot s.cur) p).getD []

/-- A trap of the mean unit (R252). -/
def meanTrap (s : State) (c : BitVec 8) (lane p reason : Nat) : Out := go (trapHere s c 0#64 (infoMean lane p reason))

/-- The first checks on a record or on TMINIT's registers: σ, then the pair. -/
def meanChecks (s : State) (sig p : Nat) (k : Out) : Out :=
  if badSigma sig then meanTrap s causeDOMAIN 0 p 3
  else if noPair s p then meanTrap s causeTABLE 0 p 7 else k

/-- TMINIT (R243). -/
def execTminit (d : VReg) (s : State) : Out :=
  vecOp (.tminit d) s (fun _ x t =>
    let p := x.tmsel.toNat % 4
    let g := bits x.shape.toNat 31 12
    meanChecks t (g * 2 ^ 12) p (
      let g := if g = 0x80000 then 0 else g
      let r : Rec := { sigt := g, pair := p, empty := true, skip := false, nans := false, n := 0, sum := 0,
                       m := if g = 0 then 0 else 0xFF800000 }
      writeV t d (BitVec.ofNat 256 r.toNat)))

/-- TMSEL's policy; 3 acts as TRAP (R239). -/
def Slot.policy (x : Slot) : Nat := if bits x.tmsel.toNat 5 4 = 3 then 0 else bits x.tmsel.toNat 5 4

/-- The selected lanes with their FP32 terms (R244). -/
def selected (e : Nat) (v m : Vec) : List (Nat × Nat) :=
  ((List.range (lanesOf e)).filter (fun i => decide (laneBits e m i ≠ 0))).map (fun i =>
    (i, if e = 8 then laneBits e v i else (laneValue e (laneBits e v i)).encode fp32))

/-- The first lane whose fate is a trap, with the reason. -/
def firstTrap : List (Nat × Fate) → Option (Nat × Nat)
  | [] => none
  | (i, .trap r) :: _ => some (i, r)
  | _ :: rest => firstTrap rest

/-- TMACC (R244, R245). -/
def execTmacc (d a b : VReg) (l : BitVec 4) (s : State) : Out :=
  vecOp (.tmacc d a b l) s (fun e x t =>
    let r := Rec.ofNat ((x.rv d).toNat % 2 ^ 128)
    meanChecks t r.sigma r.pair (
      let fates := (selected e (x.rv a) (x.rv b)).map (fun p =>
        (p.1, classify (imageOf t r.pair) r.sigma r.pair x.policy p.2))
      match firstTrap fates with
      | some (i, k) => meanTrap t causeDOMAIN i r.pair k
      | none =>
        pipeOp t d (BitVec.ofNat 256 (applyFates r.sigma (fates.map (fun f => f.2)) r).toNat) l 40 true))

/-- TMMRG (R246, R247). -/
def execTmmrg (d a b : VReg) (l : BitVec 4) (s : State) : Out :=
  vecOp (.tmmrg d a b l) s (fun _ x t =>
    let p := Rec.ofNat ((x.rv a).toNat % 2 ^ 128)
    match p.merge (Rec.ofNat ((x.rv b).toNat % 2 ^ 128)) with
    | none => meanTrap t causeTABLE 0 p.pair 1
    | some r => pipeOp t d (BitVec.ofNat 256 r.toNat) l 24 true)

/-- TMFIN (R249). -/
def execTmfin (d a : VReg) (l : BitVec 4) (s : State) : Out :=
  vecOp (.tmfin d a l) s (fun _ x t =>
    let r := Rec.ofNat ((x.rv a).toNat % 2 ^ 128)
    meanChecks t r.sigma r.pair (pipeOp t d (BitVec.ofNat 256 (r.finish (imageOf t r.pair))) l 40 true))

/-- TMLOAD (R254, R255). FADDR of the ACCESS trap is the address of the first failing read, not B: R254 does not say, and this is
the model's choice (log entry 112). -/
def execTmload (a p l : BitVec 4) (s : State) : Out :=
  vecOp (.tmload a p l) s (fun _ x t =>
    let b := (x.rv a).toNat % 2 ^ 52
    let info := infoAcc x.pc 0 5 0 0x36
    let reads := (List.range 32).map (fun i => (b + 32 * i) % 2 ^ 52)
    match checkWords t x.ctx Need.load reads with
    | .error (f, r) => accTrap t causeACCESS r f info
    | .ok ps =>
      if b % 32 ≠ 0 then accTrap t causeALIGN 1 b info
      else if ps.any (lostPlace t) then accTrap t causePEERLOST 3 b info
      else
        let tile := tileOfSlot t.cur
        let u := t.updTile tile (fun y => { y with tload := some t.nextId })
        go (issueAcc u
          { relaxed := false, dest := .none, fill := .table tile p.toNat b, la := some l.toNat, info := info,
            pieces := (reads.zip ps).map (fun w => { op := .loadV, ea := wd w.1, place := w.2 }) }))

/-! ### The switch of a pair (R254) -/

/-- The slots of a tile. -/
def slotsOfTile (t : Nat) : List Nat := (List.range 32).map (fun i => t * 32 + i)

/-- The table load of a tile whose 32 reads have all answered without fault. -/
def loadedTable (s : State) (t : Nat) : Option (Nat × Acc) :=
  (slotsOfTile t).findSome? (fun sl =>
    ((s.slot sl).accs.find? (fun a => decide (some a.id = (s.tile t).tload) && decide (a.left = 0))).map (fun a => (sl, a)))

/-- The image words of a table load, from its 32-byte reads. -/
def tableWords (a : Acc) : List Word :=
  (List.range 32).flatMap (fun i => (List.range 4).map (fun k => vecWord (Tab.get 0#256 a.data i) k))

/-- A reply on its way to a slot's access. -/
def replyFor (s : State) (sl : Nat) (a : Acc) (part : Nat) (v : Vec) (f : Option FaultInfo) : State :=
  let x := s.slot sl
  let r : Req :=
    { id := s.nextId, stamp := s.nextId, own := .slot sl x.th, ctx := x.ctx, src := 0, op := .loadV, ea := 0#64, loc := 0,
      tgt := .deque 0, relaxed := false, rl := false, item := none, acc := a.id, part := part, info := 0#64, limit := 0,
      misses := 0, stage := .replied v f }
  { s with reqs := s.reqs ++ [r], nextId := s.nextId + 1 }

/-- No slot of a tile has had its turn of this cycle yet, so that what it issues in the cycle comes after (R255). -/
def beforeTurns (s : State) (tile : Nat) : Bool :=
  (coresOfTile tile).all (fun c => decide ((s.slot (turnSlot s c)).turnAt ≠ s.cycle + 1))

/-- TABLE_SWITCH (R254, R255): the tile checks the image, switches the pair and replies, before any instruction of its slots
issues in the cycle. -/
def execTableSwitch (tile : Nat) (s : State) : Out :=
  match loadedTable s tile with
  | none => go s
  | some (sl, a) =>
    match a.fill with
    | .table t p b =>
      if s.reqs.any (fun r => decide (r.acc = a.id)) || !beforeTurns s t then go s
      else
        let img := tableWords a
        let k := imageCheck img
        let f : FaultInfo := { cause := causeTABLE, faddr := wd b, finfo := withReason (infoAcc a.pca 0 5 0 0x36) k }
        if k ≠ 0 then go (replyFor s sl a 32 0#256 (some f))
        else
          go (replyFor (s.updTile t (fun y => if p = 2 then { y with pair2 := some img } else { y with pair3 := some img }))
            sl a 32 0#256 none)
    | _ => go s

/-! ### Pipeline results (R222, R242) -/

/-- The first due result of a slot, of the function pipeline or of the mean stage, fills its destination. -/
def pipeResult (s : State) (sl : Nat) (mean : Bool) : Out :=
  let mine := fun (p : Pipe) => decide (p.sl = sl) && decide (p.mean = mean) && decide (p.due ≤ s.cycle)
  match s.pipe.find? mine with
  | none => go s
  | some p =>
    let s := { s with pipe := s.pipe.filter (fun q => decide (q.id ≠ p.id)) }
    if (s.slot sl).th = p.th then go (s.updSlot sl (fun x => (x.closeWin p.id).setV p.dest p.val)) else go s

/-- FUNCTION_RESULT (R222). -/
def execFunctionResult (sl : Nat) (s : State) : Out := pipeResult s sl false
/-- MEAN_RESULT (R242). -/
def execMeanResult (sl : Nat) (s : State) : Out := pipeResult s sl true

end Sys2Proof.Machine
end

