-- ==== Sys2Proof/Machine/System.lean ====
section
/-! DEFINITION. The SYS major (R383 to R389) and the special registers. -/

namespace Sys2Proof.Machine

/-- A slot's current position, in the fields of R387. -/
def whereWord (s : State) (sl : Nat) : Word :=
  let p := nodeXY s (nodeOfSlot sl)
  wd (ownVdn s (s.slot sl).ctx * 2 ^ 54 + sl * 2 ^ 31 + p.1 * 2 ^ 15 + p.2 * 2 ^ 10)

/-- CAPS of a slot (R388). -/
def capsWord (s : State) (sl : Nat) : Word :=
  let en := (slotsOfCore (coreOfSlot sl)).foldl (fun a k => a + b2n (decide ((s.slot k).st ≠ .disabled)) * 2 ^ (k % 8)) 0
  let g := match s.context (s.slot sl).ctx with | some c => c.plateG | none => 0
  wd (en * 2 ^ 48 + (s.tile (tileOfSlot sl)).rbus * 2 ^ 46 + g)

/-- BSTAT as read (R186). -/
def bstatWord (x : Slot) : Word :=
  wd ((List.range 4).foldl (fun a t => a + (x.tagItems t).length * 2 ^ (32 + 8 * t)) 0 + x.bstat.toNat)

/-- LANDST as read (R122). -/
def landstWord (s : State) (sl : Nat) : Word :=
  let x := s.slot sl
  let held := ((s.core (coreOfSlot sl)).lbuf.filter (fun e => decide (e.th = x.th))).length
  wd (x.routes.length * 2 ^ 16 + x.logged * 2 ^ 8 + held)

/-- The value of special register `n` in slot `sl` (R386). -/
def readSpecial (s : State) (sl n : Nat) : Word :=
  let x := s.slot sl
  if n = 0x001 then handleWord s x.ctx x.th
  else if n = 0x002 then whereWord s sl
  else if n = 0x003 then capsWord s sl
  else if n = 0x004 then wd s.cycle
  else if n = 0x005 then Config.revn
  else if n = 0x010 then x.efmt
  else if n = 0x011 then x.shape
  else if n = 0x012 then x.tmsel
  else if n = 0x018 then x.batch
  else if n = 0x019 then bstatWord x
  else if n = 0x01A then x.btrap
  else if n = 0x020 then (s.core (coreOfSlot sl)).tags
  else if n = 0x021 then (s.core (coreOfSlot sl)).tagerr
  else if n = 0x028 then landstWord s sl
  else if n = 0x030 then x.tvec
  else if n = 0x031 then x.epc
  else if n = 0x032 then x.fcause
  else if n = 0x033 then x.faddr
  else if n = 0x034 then x.finfo
  else if n = 0x038 then x.waitlim
  else if 0x050 ≤ n ∧ n < 0x060 then x.cnt.get (Fin.ofNat 16 (n - 0x050))
  else 0#64

/-- Writes the writable fields of special register `n` (R385, R386); a read-only register keeps its value. -/
def Slot.writeSpecial (x : Slot) (n : Nat) (v : Word) : Slot :=
  if n = 0x010 then { x with efmt := v &&& 0xF#64 }
  else if n = 0x011 then { x with shape := v &&& 0xFFFFF000#64 }
  else if n = 0x012 then { x with tmsel := v &&& 0x33#64 }
  else if n = 0x018 then { x with batch := v &&& 0x3#64 }
  else if n = 0x019 then { x with bstat := v.setWidth 16 }
  else if n = 0x01A then { x with btrap := v &&& 0xF#64 }
  else if n = 0x028 then (if v.getLsbD 32 then { x with routes := [] } else x)
  else if n = 0x030 then { x with tvec := v &&& 0x7FFF#64 }
  else if n = 0x031 then { x with epc := v &&& 0x7FFF#64 }
  else if n = 0x032 then { x with fcause := v &&& 0x80000000000000FF#64 }
  else if n = 0x033 then { x with faddr := v }
  else if n = 0x034 then { x with finfo := v }
  else if n = 0x038 then { x with waitlim := v &&& 0xFFFF#64 }
  else x

/-- NOP (R383). -/
def execNop (s : State) : Out := issue .nop s (fun t => finish t id)
/-- TRAP (R383): SWTRAP with the register, the code and the next offset. -/
def execTrap (a : Reg) (c : BitVec 12) (s : State) : Out :=
  issue (.trap a c) s (fun t =>
    let x := t.slot t.cur
    go (takeTrap t t.cur causeSWTRAP (x.rg a) (c.setWidth 64) (x.pc + 4)))
/-- RTE (R384). While a window of count 0 is open the slot parks LOOK first, as for any instruction (R71, R75), so that RTE closes
only windows that still count, where R74 has it close windows without waiting: the model's choice (log entry 112). -/
def execRte (s : State) : Out := issue .rte s (fun t => go (returnFromTrap t))
/-- SRD (R385). -/
def execSrd (d : Reg) (n : BitVec 12) (s : State) : Out :=
  issue (.srd d n) s (fun t => writeG t d (readSpecial t t.cur n.toNat))
/-- SWR (R385). -/
def execSwr (a : Reg) (n : BitVec 12) (s : State) : Out :=
  issue (.swr a n) s (fun t => finish t (fun x => x.writeSpecial n.toNat (x.rg a)))
/-- BKPT (R383): BKPT with address word 0, the code and the next offset. -/
def execBkpt (c : BitVec 12) (s : State) : Out :=
  issue (.bkpt c) s (fun t => go (takeTrap t t.cur causeBKPT 0#64 (c.setWidth 64) ((t.slot t.cur).pc + 4)))

end Sys2Proof.Machine
end

