-- ==== Sys2Proof/Machine/Saves.lean ====
section
/-! DEFINITION. Pre-emption, saves and restores (R104, R105, R117, R119, R280 to R282, R310, R374 to R377). A save record
is written to and read from the context's save pool byte by byte of memory. -/

namespace Sys2Proof.Machine

/-! ### Records and areas of a save pool (R375, R394) -/

/-- Correctable words of a record or spill area are corrected and counted at node `n` as they are read (R156). -/
def readAreas (s : State) (n a words : Nat) : State := (List.range words).foldl (fun s i => s.ecc n (a + 8 * i)) s
/-- Writes a word of a record. -/
def putRec (s : State) (a off : Nat) (v : Word) : State := (s.store (a + off) 8 v.toNat).cleanWord (a + off)
/-- Writes words of a record from an offset on. -/
def putRecs (s : State) (a off : Nat) (ws : List Word) : State :=
  (ws.zipIdx).foldl (fun s e => putRec s a (off + 8 * e.2) e.1) s

/-- Physical address of spill area `j` (R394). -/
def spillAddr (s : State) (ctx j : Nat) : Nat :=
  match s.context ctx with
  | some c => c.saveBase + c.saveRecs * 2048 + j * 1024
  | none => 0

/-- Changes a live context. -/
def State.updCtx (s : State) (c : Nat) (f : Ctx → Ctx) : State :=
  match s.context c with
  | some x => { s with ctxs := Tab.put s.ctxs c (f x) }
  | none => s

/-- Changes the entry. -/
def State.updAway (s : State) (th : Thread) (f : Away → Away) : State :=
  s.updCore (homeOf th) (fun c => { c with away := mapIf (fun a => decide (a.th = th)) f c.away })
/-- Frees the entry. -/
def dropAway (s : State) (th : Thread) : State :=
  s.updCore (homeOf th) (fun c => { c with away := c.away.filter (fun a => decide (a.th ≠ th)) })

/-! ### Marking and withdrawing (R374, R377) -/

/-- NOPRE of a slot's launch. -/
def slotNopre (s : State) (x : Slot) : Bool := match s.launch? x.launch with | some l => l.pkt.nopre | none => true

/-- Firmware may mark a slot (R117, R374): it holds a thread that has not ended, the thread's home directory is not full, and the
save pool has a free record. A slot whose home directory fills before its save goes on without a pre-emption (R117). -/
def roomToMark (s : State) (sl : Nat) : Bool :=
  let x := s.slot sl
  (decide (x.st = .running) || (decide (x.st = .parked) && decide (x.reason ≠ .idle))) && x.ending.isNone && x.pre.isNone
  && awayRoom s x.th
  && (match s.context x.ctx with
      | some k => decide (k.usedRecs.length < k.saveRecs)
      | none => false)

/-- A launch of class `c` may have the slot marked (R374): its launch has a higher class number and no NOPRE. -/
def markable (s : State) (c sl : Nat) : Bool :=
  roomToMark s sl && decide (c < (s.slot sl).cls) && !slotNopre s (s.slot sl)

/-- The slot of a core that is marked next: highest class number, then lowest slot. -/
def markNext (s : State) (c core : Nat) : Option Nat :=
  leastBy (fun sl => (3 - (s.slot sl).cls) * 8 + sl % 8) ((slotsOfCore core).filter (markable s c))

/-- Slots of a core that are FREE or will be: their pre-emption is pending. -/
def freeSoon (s : State) (core : Nat) : Nat :=
  ((slotsOfCore core).filter (fun i => decide ((s.slot i).st = .free) || (s.slot i).pre.isSome)).length

/-- Pre-emption is marked on a slot (R105): its summaries are asked for (R377), and the commands that no engine has taken are
withdrawn (R280). -/
def markSlot (s : State) (sl : Nat) : State :=
  withdrawCmds (s.updSlot sl (fun x =>
    (List.range 4).foldl (fun y t => y.askTag t) { x with pre := some s.cycle })) sl

/-- Context end marks pre-emption on the context's slots of launches without NOPRE (R363, R374); which other mailbox commands mark,
and what, the spec does not say, and none does here (log entry 102). -/
def markContext (s : State) (ctx : Nat) : State :=
  (s.slots.filter (fun e => decide (e.2.ctx = ctx) && !slotNopre s e.2)).foldl (fun t e =>
    if roomToMark t e.1 then markSlot t e.1 else t) s

/-- Marks slots until enough will free. -/
def markSlots (s : State) (c core need : Nat) : Nat → State
  | 0 => s
  | k + 1 =>
    if need ≤ freeSoon s core then s
    else
      match markNext s c core with
      | none => s
      | some sl => markSlots (markSlot s sl) c core need k

/-- PREEMPT_MARK (R374): for the share of launch `seq` that waits for slots on a core. -/
def execPreemptMark (seq core : Nat) (s : State) : Out :=
  match s.launch? seq, s.part? seq (nodeOfCore core) with
  | some l, some p =>
    match p.shares.find? (fun h => decide (h.core = core) && !h.seeded) with
    | some h => go (markSlots s l.cls core h.slots 8)
    | none => go s
  | _, _ => go s

/-- PREEMPT_WITHDRAW (R377): 1 ms after the mark, counted in the node. -/
def execPreemptWithdraw (sl : Nat) (s : State) : Out :=
  let x := s.slot sl
  match x.pre with
  | some t =>
    if s.cycle < t + 1750000 ∨ x.st = .saving then go s
    else
      let u := s.setSlot sl { x with pre := none, drain := false }
      go (u.updNode (nodeOfSlot sl) (fun n => { n with withdrawn := n.withdrawn + 1 }))
  | none => go s

/-! ### Ring tiles of a save (R281) -/

/-- Commands of the slot's own thread that stand aside: those of a thread that has ended in the slot run on (R283). -/
def stoppedOf (s : State) (sl : Nat) : List Cmd := (s.slot sl).stopped.filter (fun c => decide (c.th = (s.slot sl).th))

/-- A tile reference word (R281). -/
def tileRef (s : State) (sl rt : Nat) (mode : Bool) (spill : Nat) : Word :=
  let v := b2n ((s.slot sl).owned.contains rt) * 2 ^ 63
  match ringOf s (tileOfSlot sl) rt with
  | some r => wd (v + b2n r.mode * 2 ^ 62 + b2n r.poison * 2 ^ 61 + 2 ^ 60 + spill)
  | none => wd (v + b2n mode * 2 ^ 62)

/-- The reference of a ring tile of the slot; `spills` are the spill areas of those that hold places, in their order. -/
def refOfTile (s : State) (sl : Nat) (spills : List Nat) (rt : Nat) : Word :=
  let mode := (stoppedOf s sl).any (fun c => decide (c.rt = rt) && c.mode)
  let spill := (((heldTiles s sl).zip spills).findSome? (fun e =>
    if e.1 = rt then some (spillAddr s (s.slot sl).ctx e.2) else none)).getD 0
  tileRef s sl rt mode spill

/-- The reference of the oldest of three ring tiles, 0 where there are fewer: the Burin area has room for two (R281), and the home
core keeps the third with its away entry (log entry 45). -/
def thirdRef (s : State) (sl : Nat) (spills : List Nat) : Word :=
  match threadTiles s sl with
  | [rt, _, _] => refOfTile s sl spills rt
  | _ => 0#64

/-! ### The save begins (R104, R117, R280) -/

/-- The waiting access of a WORD park is withdrawn at its bank and counts as not issued (R104). -/
def withdrawAcc (s : State) (sl : Nat) (a : Acc) : State :=
  let s := (s.reqs.filter (fun r => decide (r.acc = a.id))).foldl (fun s r =>
    match r.stage with
    | .waiting c => leaveList (s.dropReq r.id) c r.id
    | _ => s.dropReq r.id) s
  let m := a.dest.mask
  s.updSlot sl (fun x =>
    let y := { x.closeWin a.id with accs := [], pend := x.pend &&& ~~~m, pres := (x.pres &&& ~~~m) ||| a.oldPres }
    { y with pc := a.pca, cnt := y.cnt.set cntIssued (y.cnt.get cntIssued - 1#64) })

/-- The away entry at the begin of a save: allocated unless the thread has one (R117). -/
def savingEntry (s : State) (sl k : Nat) (spills : List Nat) : State :=
  let x := s.slot sl
  let a : Away := { th := x.th, st := .saving, recNo := k, spills := spills, ctx := x.ctx, launch := x.launch, slot := sl,
                    from_ := coreOfSlot sl, code := none, third := thirdRef s sl spills }
  match awayOf s x.th with
  | some _ => s.updAway x.th (fun _ => a)
  | none => s.updCore (homeOf x.th) (fun c => { c with away := c.away ++ [a] })

/-- SAVE (R376): the slot at a safe point enters SAVING with a record and spill areas of its context's pool, where the
pool and the home directory have room. A turn of a park or of drain mode is wasted by it (R84). -/
def execSave (sl : Nat) (s : State) : Out :=
  let x := s.slot sl
  match (if saveReady s sl then saveAreas s sl else none) with
  | none => go s
  | some (k, js) =>
    let t := s.updCtx x.ctx (fun y => { y with usedRecs := y.usedRecs ++ [k], usedSpills := y.usedSpills ++ js })
    let u := match waitingAcc t sl with | some a => withdrawAcc t sl a | none => t
    let v := savingEntry u sl k js
    go (v.updSlot sl (fun y =>
      let y := if x.st = .parked ∨ x.drain then y.count cntWasted else y
      { y with st := .saving, reason := .none, inPark := false, replay := none }))

/-! ### The record (R281, R375) -/

/-- KIND of a progress record (R281). -/
def CmdKind.code : CmdKind → Nat
  | .mmaz => 1
  | .mma => 2
  | .rfree => 3
  | .epi => 4
  | _ => 0

/-- A signed stride as 32 bits. -/
def low32 (w : Word) : Nat := w.toNat % 2 ^ 32

/-- The eight words of a progress record (R281); `ref` is the command's tile reference. -/
def progressRecord (sl : Nat) (c : Cmd) (ref : Nat) : List Word :=
  let t := tileOfSlot sl
  let n := nodeOfSlot sl
  let w0 := wd (c.kind.code * 2 ^ 60 + c.sg.toNat * 2 ^ 58 + c.pca % 65536 * 2 ^ 32 + c.nextJ * 2 ^ 20 + c.nextR * 2 ^ 15)
  let at_ := dieOfNode n * 2 ^ 60 + n % 1024 * 2 ^ 50 + t % 16 * 2 ^ 46 + ref * 2 ^ 44
  let d := fun i => nth 0#64 c.desc i
  match c.kind with
  | .mma =>
    [w0, c.a, c.b, wd ((d 0).toNat + (d 1).toNat * 2 ^ 16 + (d 2).toNat * 2 ^ 32 + (d 3).toNat * 2 ^ 48),
     wd (low32 (d 4) + low32 (d 5) * 2 ^ 32), wd (low32 (d 6) + low32 (d 7) * 2 ^ 32), c.plate, wd (at_ + c.off * 2 ^ 20)]
  | .epi => [w0, c.a, c.b, d 0, d 1, 0#64, 0#64, wd at_]
  | _ => [w0, 0#64, 0#64, 0#64, 0#64, 0#64, 0#64, wd at_]

/-- The Burin area: two tile references, two progress records. With three ring tiles the references are those of the younger two,
and the records of the oldest name none, 3 (log entry 45). -/
def burinArea (s : State) (sl : Nat) (spills : List Nat) : List Word :=
  let cmds := stoppedOf s sl
  let ts := (threadTiles s sl).drop ((threadTiles s sl).length - 2)
  let refs := (ts.map (refOfTile s sl spills) ++ [0#64, 0#64]).take 2
  let no := fun rt => ((ts.zipIdx).findSome? (fun e => if e.1 = rt then some e.2 else none)).getD 3
  let recs := cmds.map (fun c => progressRecord sl c (no c.rt))
  refs ++ ((recs ++ [List.replicate 8 0#64, List.replicate 8 0#64]).take 2).flatten

/-- A deferred-fault record as three words (R375). -/
def dfrWords (d : Option FaultInfo) : List Word :=
  match d with
  | some f => [(1#64 <<< 63) ||| f.cause.setWidth 64, f.faddr, f.finfo]
  | none => [0#64, 0#64, 0#64]

/-- The words of one v register, lowest first. -/
def vecWords (v : Vec) : List Word := (List.range 4).map (fun i => (v >>> (64 * i)).setWidth 64)

/-- The registers of a slot in the layout of a save record, by offset, without Burin area and landing log (R375): `names` are
the words that name the thread, `land` is LANDST, `tags` are TAGS and TAGERR. -/
def Slot.segs (x : Slot) (names : List Word) (land : Word) (tags : List Word) : List (Nat × List Word) :=
  [(0x000, x.g.toList), (0x100, x.v.toList.flatMap vecWords), (0x300, [x.pres.setWidth 64, wd x.pc] ++ names),
   (0x320, [x.efmt, x.shape, x.tmsel, x.batch, bstatWord x, x.btrap, land, x.tvec, x.epc, x.fcause, x.faddr, x.finfo,
            x.waitlim]),
   (0x388, dfrWords x.dfr), (0x3A0, (List.range 4).map x.failMap), (0x3C0, x.cnt.toList),
   (0x440, x.edesc0.toList.take 9 ++ [x.edesc0.get 12]), (0x490, x.edesc1.toList ++ [x.estat0, x.estat1]),
   (0x540, x.named :: tags), (0x558, (x.attach ++ List.replicate 4 0#64).take 4)]

/-- A slot in the layout of a save record (R375, R404). -/
def recordSegs (s : State) (sl : Nat) : List (Nat × List Word) :=
  let x := s.slot sl
  let c := s.core (coreOfSlot sl)
  x.segs [handleWord s x.ctx x.th, wd (x.ctx * 2 ^ 48 + x.launch % 2 ^ 32)] (landstWord s sl) [c.tags, c.tagerr]

/-- Writes a record with an empty landing log (R375); its unnamed bytes, and the log's entries, are written zero (R7). -/
def writeRecord (s : State) (sl k : Nat) (spills : List Nat) : State :=
  let a := recordAddr s (s.slot sl).ctx k
  let segs := recordSegs s sl ++ [(0x4B0, burinArea s sl spills), (0x578, List.replicate 81 0#64)]
  segs.foldl (fun s e => putRecs s a e.1 e.2) s

/-- Writes a ring tile to its spill area and frees its place (R280, R281). -/
def spillTile (s : State) (sl rt j : Nat) : State :=
  let t := tileOfSlot sl
  match ringOf s t rt with
  | none => s
  | some r =>
    let a := spillAddr s (s.slot sl).ctx j
    let s := (List.finRange 256).foldl (fun s i => s.store (a + 4 * i.val) 4 (r.acc.get i).toNat) s
    let s := (List.range 128).foldl (fun s i => s.cleanWord (a + 8 * i)) s
    freeRing s t rt

/-! ### The end of a save (R119, R376) -/

/-- A hart of node `n` moves a core's held values of a thread into its log, oldest first; a full log refuses (R119). -/
def logHeld (s : State) (n : Nat) (th : Thread) (a c : Nat) : State :=
  let mine := (s.core c).lbuf.filter (fun e => decide (e.th = th))
  let s := mine.foldl (fun s e =>
    let p := logLanding s n a e.addr e.val
    p.1.settleLanding e.id (if p.2 then 0#8 else landFull)) s
  s.updCore c (fun k => { k with lbuf := k.lbuf.filter (fun e => decide (e.th ≠ th)) })

/-- The slot is FREE again once its record is written; commands of a thread that ended in it before run on (R283). -/
def Slot.vacate (x : Slot) : Slot :=
  { x with st := .free, reason := .none, inPark := false, wins := [], dfr := none, accs := [], items := [], asked := [],
           latch := none, stopped := x.stopped.filter (fun c => decide (c.th ≠ x.th)), owned := [], attach := [], routes := [],
           replay := none, pre := none, drain := false, tfault := none, pend := 0#48 }

/-- A hart writes the record and the spill areas, and the values held for the thread go to its log (R119, R376). -/
def endSave (s : State) (sl : Nat) (a : Away) : State :=
  let x := s.slot sl
  let core := coreOfSlot sl
  let s := s.updSlot sl (fun y => y.count cntSaves)
  let t := writeRecord s sl a.recNo a.spills
  let t := ((heldTiles s sl).zip a.spills).foldl (fun t e => spillTile t sl e.1 e.2) t
  let addr := recordAddr s x.ctx a.recNo
  let t := logHeld t (nodeOfSlot sl) x.th addr core
  let t := if homeOf x.th = core then t else logHeld t (nodeOfSlot sl) x.th addr (homeOf x.th)
  let t := (t.updAway x.th (fun b => { b with st := .saved })).updSlot sl Slot.vacate
  freeBanks t (tileOfSlot sl)

/-- SAVE_COMPLETE (R119, R280, R376): record, spills and log are written; the entry becomes SAVED and the slot FREE. -/
def execSaveComplete (sl : Nat) (s : State) : Out :=
  let x := s.slot sl
  match awayOf s x.th with
  | none => go s
  | some a =>
    if x.st ≠ .saving ∨ a.st ≠ .saving ∨ a.slot ≠ sl then go s
    else byHart s (nodeOfSlot sl) (fun s => go (endSave s sl a))

/-! ### Where a thread is restored (R282, R376) -/

/-- KIND of a record's progress record `i`, and its words. -/
def progWord (s : State) (a i w : Nat) : Word := recWord s a (0x4C0 + 64 * i + 8 * w)
def progKind (s : State) (a i : Nat) : Nat := bits (progWord s a i 0).toNat 63 60
/-- A tile reference of a record. -/
def refOf (s : State) (a i : Nat) : Word := recWord s a (0x4B0 + 8 * i)
/-- A tile reference names a tile to be given back: owned, or spilled (R281); its reserved bits are ignored (R7). -/
def refLive (w : Word) : Bool := w.getLsbD 63 || w.getLsbD 60
/-- The record of a thread holds Burin state. -/
def hasBurin (s : State) (w : Away) : Bool :=
  let a := recordAddr s w.ctx w.recNo
  refLive w.third || [0, 1].any (fun i => refLive (refOf s a i) || decide (progKind s a i ≠ 0))
/-- The tile where a progress record stopped. -/
def originTile (s : State) (a i : Nat) : Nat :=
  let w := (progWord s a i 7).toNat
  (bits w 63 60 * 1024 + bits w 59 50) * 16 + bits w 49 46

/-- A B-SRAM entry of a tile that holds a plate name (R282). -/
def plateOn (s : State) (tile ctx : Nat) (name : Word) : Option Plate :=
  let n := nodeOfTile tile
  ((List.range 64).map (fun e => s.plate n e)).find? (fun p =>
    decide (p.st ≠ .free) && decide (p.st ≠ .evicted) && p.kind && decide (p.unit = tile % 16) && decide (p.name = name)
      && decide (p.ctx = ctx))

/-- A tile may take the record's Burin state, saved on tile `origin` (R282). -/
def burinFits (s : State) (a ctx origin tile : Nat) : Bool :=
  decide (origin = tile)
  || (decide ((s.tile tile).rbus = (s.tile origin).rbus)
      && [0, 1].all (fun i => decide (progKind s a i ≠ 2)
        || (decide (progWord s a i 6 ≠ 0#64) && (plateOn s tile ctx (progWord s a i 6)).isSome)))

/-- The cores that firmware tries for a restore, in order (R376). -/
def restoreOrder (s : State) (birth ctx : Nat) : List Nat :=
  let b := coreOfSlot birth
  let n := nodeOfCore b
  b :: (coresOfNode n).filter (fun c => decide (c ≠ b))
    ++ (match s.context ctx with
        | some x => ((List.range nodeCount).filter (fun m => x.allots m && decide (m ≠ n))).flatMap coresOfNode
        | none => [])

/-- A FREE bank of a tile, the lower-numbered first (R370). -/
def freeBank (s : State) (t : Nat) : Option Nat :=
  if (s.tile t).hold0 = none then some 0 else if (s.tile t).hold1 = none then some 1 else none

/-- The tile holds, or is receiving, the code of a launch. -/
def holdsLaunch (s : State) (t k : Nat) : Bool :=
  (match (s.tile t).hold0 with | some h => decide (h.launch = k) | none => false)
  || (match (s.tile t).hold1 with | some h => decide (h.launch = k) | none => false)

/-- A core meets the conditions of a restore (R376). -/
def restoreFits (s : State) (w : Away) (c : Nat) : Bool :=
  let a := recordAddr s w.ctx w.recNo
  let t := tileOfCore c
  (slotsOfCore c).any (fun i => decide ((s.slot i).st = .free))
  && (hasCode s t w.launch || (freeBank s t).isSome)
  && decide ((s.core c).lbuf.length + (s.core c).reserve + logCount s a ≤ 32)
  && (!hasBurin s w || burinFits s a w.ctx (tileOfCore w.from_) t)

/-- The core of a restore: the first that fits, after the one whose code load has failed. -/
def restoreCore (s : State) (w : Away) : Option Nat :=
  let l := restoreOrder s w.th.birth w.ctx
  let l := match w.code with
    | some (c, 2) => (l.dropWhile (fun k => decide (k ≠ c))).drop 1
    | _ => l
  l.find? (restoreFits s w)

/-! ### Who goes first on a core (R373) -/

/-- The FREE slots of a core. -/
def freeSlots (s : State) (c : Nat) : List Nat := (slotsOfCore c).filter (fun i => decide ((s.slot i).st = .free))

/-- A share can be seeded: it owns its table, its tile holds the code, and its core has enough FREE slots (R85, R370). -/
def seedable (s : State) (k : Nat) (h : Share) : Bool :=
  !h.seeded && h.owns && hasCode s (tileOfCore h.core) k && decide (h.slots ≤ (freeSlots s h.core).length)

/-- A saved thread of a launch with a class number below `b` can be restored onto a core. -/
def restoresBelow (s : State) (core b : Nat) : Bool :=
  s.cores.any (fun e => e.2.away.any (fun a => decide (a.st = .saved)
    && (match s.launch? a.launch with | some l => decide (l.cls < b) | none => false) && decide (restoreCore s a = some core)))

/-- A launch with a class number below `b` can be seeded on a core. -/
def seedsBelow (s : State) (core b : Nat) : Bool :=
  s.launches.any (fun e => decide (e.2.st = .placed) && decide (e.2.cls < b)
    && e.2.parts.any (fun p => p.shares.any (fun h => decide (h.core = core) && seedable s e.1 h)))

/-- The restore of a thread onto a core waits: a lower class number goes first (R373). -/
def restoreHeld (s : State) (w : Away) (c : Nat) : Bool :=
  match s.launch? w.launch with
  | some l => seedsBelow s c l.cls || restoresBelow s c l.cls
  | none => false

/-! ### Code images (R371) -/

/-- Physical address of a launch's code; none where the context's windows do not admit it. -/
def codePhys (s : State) (l : Launch) : Option Nat :=
  match checkAddr s l.ctx Need.load (l.pkt.code % 2 ^ 52) with
  | .ok (.mem loc) => some loc
  | _ => none

/-- Words of a launch's image, padded to whole 64-bit words (R371). -/
def imageWords (l : Launch) : Nat := (l.pkt.n + 1) / 2

/-- The image cannot be read: a word is uncorrectable, or an access faults (R371). -/
def imageFails (s : State) (l : Launch) : Bool :=
  match checkRange s l.ctx Need.load (l.pkt.code % 2 ^ 52) 8 (imageWords l), codePhys s l with
  | none, some a => (List.range (imageWords l)).any (fun i => s.bad.contains (a / 8 + i))
  | _, _ => true

/-- Word `i` of the image; the half beyond an odd length is zero. -/
def imageWord (s : State) (l : Launch) (a i : Nat) : Nat :=
  if 2 * i + 1 < l.pkt.n then s.load (a + 8 * i) 8 else s.load (a + 8 * i) 4

/-- Reads the image once at node `n`: correctable words are corrected and counted (R156). -/
def readImage (s : State) (n : Nat) (l : Launch) : State :=
  match codePhys s l with
  | some a => (List.range (imageWords l)).foldl (fun s i => s.ecc n (a + 8 * i)) s
  | none => s

/-- Writes the image into a bank of a tile and records its holder (R370, R371). -/
def loadBank (s : State) (l : Launch) (k t bank : Nat) : State :=
  match codePhys s l with
  | none => s
  | some a =>
    let b := codeBase t bank
    let s := (List.range (imageWords l)).foldl (fun s i => (s.store (b + 8 * i) 8 (imageWord s l a i)).cleanWord (b + 8 * i)) s
    let h : Holder := { launch := k, loaded := true }
    s.updTile t (fun x => if bank = 0 then { x with hold0 := some h } else { x with hold1 := some h })

/-- The code load that a saved thread's restore waits for (R376): the launch, the chosen core, and the bank of its tile. -/
def codeLoadDue (s : State) (w : Away) : Option (Launch × Nat × Nat) :=
  match s.launch? w.launch, (if w.st = .saved then restoreCore s w else none) with
  | some l, some c =>
    if hasCode s (tileOfCore c) w.launch then none else (freeBank s (tileOfCore c)).map (fun b => (l, c, b))
  | _, _ => none

/-- RESTORE_CODE_LOAD (R376): the tile of the chosen core receives the launch's code into a FREE bank. A load that fails
leaves the thread SAVED, and firmware goes on with the next core. -/
def execRestoreCodeLoad (birth gen : Nat) (s : State) : Out :=
  let th : Thread := { birth := birth, gen := BitVec.ofNat 12 gen }
  match awayOf s th with
  | none => go s
  | some w =>
    match codeLoadDue s w with
    | none => go s
    | some (l, c, b) =>
      byHart s (nodeOfCore c) (fun s =>
        if imageFails s l then go (s.updAway th (fun a => { a with code := some (c, 2) }))
        else
          let t := loadBank (readImage s (nodeOfCore c) l) l w.launch (tileOfCore c) b
          go (t.updAway th (fun a => { a with code := some (c, b) })))

/-! ### The restore (R119, R282, R310, R376) -/

/-- The restore begins: the entry becomes RESTORING, the slot SAVING, and buffer room is reserved. -/
def beginRestore (s : State) (w : Away) (c : Nat) : State :=
  match (slotsOfCore c).find? (fun i => decide ((s.slot i).st = .free)) with
  | none => s
  | some sl =>
    let n := logCount s (recordAddr s w.ctx w.recNo)
    let t := s.updAway w.th (fun a => { a with st := .restoring, slot := sl, code := none })
    let t := t.updSlot sl (fun x => { x with st := .saving, reason := .none, th := w.th, ctx := w.ctx, launch := w.launch })
    t.updCore c (fun k => { k with reserve := k.reserve + n })

/-- Items of a tag as a restored slot knows them: how many, and which failed; a failed item's code is a free value. -/
def restoredItems (s : State) (tag n : Nat) (fails : Word) : List Item :=
  (List.range n).map (fun q =>
    let code := if fails.getLsbD q then BitVec.ofNat 8 ((Config.freeWord (s.freeCtr + 64 * tag + q)).toNat % 255 + 1) else 0#8
    settledItem tag q code)

/-- The special registers of a record, with their offsets (R375): a field takes what an SWR of the word would write, so that
the reserved bits of the record are ignored (R7). -/
def savedSpecials : List (Nat × Nat) :=
  [(0x010, 0x320), (0x011, 0x328), (0x012, 0x330), (0x018, 0x338), (0x019, 0x340), (0x01A, 0x348), (0x030, 0x358),
   (0x031, 0x360), (0x032, 0x368), (0x033, 0x370), (0x034, 0x378), (0x038, 0x380)]

/-- The fields of an engine status word (R276). -/
def estatMask : Word := 0xC000FFFF0000FFFF#64

/-- The slot as its record gives it (R375); it runs from its next turn on, in a later cycle (log entry 92). Commands of a thread
that has ended in the slot stay in its latch and go on (R283). -/
def slotOfRecord (s : State) (x : Slot) (w : Away) (a : Nat) : Slot :=
  let r := recWord s a
  let vec := fun (i : Nat) => BitVec.ofNat 256 (sumNat ((List.range 4).map (fun k => (r (0x100 + 32 * i + 8 * k)).toNat * 2 ^ (64 * k))))
  let items := (List.range 4).flatMap (fun t => restoredItems s t (bits (r 0x340).toNat (39 + 8 * t) (32 + 8 * t)) (r (0x3A0 + 8 * t)))
  let d := r 0x388
  let dfr : Option FaultInfo := if d.getLsbD 63 then some { cause := d.setWidth 8, faddr := r 0x390, finfo := r 0x398 } else none
  let e0 : Vector Word 13 := Vector.ofFn (fun i => if i.val < 9 then r (0x440 + 8 * i.val) else if i.val = 12 then r 0x488 else 0#64)
  let n := match s.launch? w.launch with | some l => l.pkt.n | none => 0
  let y : Slot := { Slot.reset with
    st := .saving, turnAt := s.cycle + 1, gen := x.gen, th := w.th, ctx := w.ctx, launch := w.launch,
    bank := bankOf s (tileOfSlot w.slot) w.launch, n := n, pc := (r 0x308).toNat % 32768,
    g := Vector.ofFn (fun i => r (8 * i.val)), v := Vector.ofFn (fun i => vec i.val), pres := (r 0x300).setWidth 48,
    logged := logCount s a, dfr := dfr, items := items, cnt := Vector.ofFn (fun i => r (0x3C0 + 8 * i.val)), edesc0 := e0,
    edesc1 := Vector.ofFn (fun i => r (0x490 + 8 * i.val)), estat0 := r 0x4A0 &&& estatMask, estat1 := r 0x4A8 &&& estatMask,
    named := r 0x540, attach := ((List.range 4).map (fun i => r (0x558 + 8 * i))).filter (fun k => decide (k ≠ 0#64)),
    latch := x.latch, stopped := x.stopped, changes := x.changes, cls := match s.launch? w.launch with | some l => l.cls | none => 0 }
  savedSpecials.foldl (fun y e => y.writeSpecial e.1 (r e.2)) y

/-- A thread's tile references that need a place, and the ring's FREE places. -/
def placesNeeded (s : State) (w : Away) : Nat :=
  ([refOf s (recordAddr s w.ctx w.recNo) 0, refOf s (recordAddr s w.ctx w.recNo) 1, w.third].filter refLive).length
def placesFree (s : State) (t : Nat) : Nat := ((s.tile t).ring.toList.filter (fun p => p.isNone)).length

/-- How many commands of engine 0, or of engine 1, a record holds (R281). -/
def recordsOf (s : State) (w : Away) (e : Nat) : Nat :=
  ([0, 1].filter (fun i =>
    let k := progKind s (recordAddr s w.ctx w.recNo) i
    if e = 0 then decide (1 ≤ k) && decide (k ≤ 3) else decide (k = 4))).length

/-- A begun restore can end: the ring has a FREE place for each tile (R282), and the core's queues, of 4 entries each (R257), have
room for the record's commands. That the restore waits for room in the queues is the model's choice: R282 puts the records at
their head and does not say what becomes of full ones (log entry 112). -/
def restoreRoom (s : State) (w : Away) : Bool :=
  let k := s.core (coreOfSlot w.slot)
  decide (placesNeeded s w ≤ placesFree s (tileOfSlot w.slot))
  && decide (k.q0.length + recordsOf s w 0 ≤ 4) && decide (k.q1.length + recordsOf s w 1 ≤ 4)

/-- Puts a spilled tile back into a place, under the number `rt` (R282). -/
def unspill (s : State) (t rt : Nat) (th : Thread) (w : Word) : State :=
  if !w.getLsbD 60 then s
  else
    match freePlace s t with
    | none => s
    | some i =>
      let a := bits w.toNat 39 0
      let acc : Vector (BitVec 32) 256 := Vector.ofFn (fun k =>
        BitVec.ofNat 32 ((recWord s a (k.val / 2 * 8)).toNat / 2 ^ (32 * (k.val % 2))))
      holdRing s t i { rt := rt, mode := w.getLsbD 62, poison := w.getLsbD 61, acc := acc, th := th }

/-- B.addr on another tile than the origin: the plate base there and the recorded offset (R282). -/
def rebased (s : State) (tile : Nat) (a i : Nat) (ctx : Nat) : Word :=
  let b := progWord s a i 2
  if originTile s a i = tile then b
  else
    match plateOn s tile ctx (progWord s a i 6) with
    | some p => wd (b.toNat / 2 ^ 42 * 2 ^ 42 + plateAddr (nodeOfTile tile) p + bits (progWord s a i 7).toNat 36 20)
    | none => b

/-- The command of a progress record (R281, R282), for slot `w.slot`; the tile of reference `i` has number `rt + 1 + i`, and that of
no reference, 3, number `rt`: it is the oldest of three (log entry 45). -/
def cmdOfRecord (s : State) (w : Away) (a i rt : Nat) : Option Cmd :=
  let p := progWord s a i
  let w0 := (p 0).toNat
  let ref := bits (p 7).toNat 45 44
  let base : Cmd :=
    { id := s.nextId + 3 + i, kind := .mmaz, sl := w.slot, th := w.th, ctx := w.ctx, launch := w.launch, pca := bits w0 47 32,
      a := p 1, b := p 2, desc := [], sg := BitVec.ofNat 2 (bits w0 59 58), rt := rt + (ref + 1) % 4,
      mode := (if ref = 3 then w.third else refOf s a ref).getLsbD 62, nextJ := bits w0 31 20, nextR := bits w0 19 15 }
  let half := fun (v : Word) (k : Nat) => wd (v.toNat / 2 ^ (16 * k) % 65536)
  let st := fun (v : Word) (k : Nat) => wi (sextNat (v.toNat / 2 ^ (32 * k)) 32)
  let desc := [half (p 3) 0, half (p 3) 1, half (p 3) 2, half (p 3) 3, st (p 4) 0, st (p 4) 1, st (p 5) 0, st (p 5) 1]
  match progKind s a i with
  | 1 => some { base with kind := .mmaz }
  | 2 => some { base with kind := .mma, b := rebased s (tileOfSlot w.slot) a i w.ctx, desc := desc }
  | 3 => some { base with kind := .rfree }
  | 4 => some { base with kind := .epi, desc := [p 3, p 4] }
  | _ => none

/-- The Burin state of a record goes to the slot's tile and core (R282). -/
def restoreBurin (s : State) (w : Away) (a : Nat) : State :=
  let t := tileOfSlot w.slot
  let rt := s.nextId
  let cmds := [0, 1].filterMap (fun i => cmdOfRecord s w a i rt)
  let owned := [(w.third, 0), (refOf s a 0, 1), (refOf s a 1, 2)].filterMap (fun e =>
    if e.1.getLsbD 63 then some (rt + e.2) else none)
  let s := [0, 1].foldl (fun s i => unspill s t (rt + 1 + i) w.th (refOf s a i)) { s with nextId := rt + 5 }
  let s := unspill s t rt w.th w.third
  let s := s.updCore (coreOfSlot w.slot) (fun k =>
    { k with q0 := cmds.filter (fun c => decide (c.kind.engine = 0)) ++ k.q0,
             q1 := cmds.filter (fun c => decide (c.kind.engine = 1)) ++ k.q1 })
  s.updSlot w.slot (fun x => { x with owned := owned })

/-- The tags of a thread restored on another core (R310). -/
def restoreTags (s : State) (w : Away) (a : Nat) : State :=
  let c := coreOfSlot w.slot
  if w.from_ = c then s
  else
    let m := recWord s a 0x540
    s.updCore c (fun k => { k with tags := (k.tags &&& ~~~m) ||| (recWord s a 0x548 &&& m),
                                   tagerr := (k.tagerr &&& ~~~m) ||| (recWord s a 0x550 &&& m) })

/-- One log entry is applied (R119): it fills an empty register, or enters the core's buffer. -/
def applyLog (s : State) (sl : Nat) (addr v : Word) : State :=
  let x := s.slot sl
  let code : BitVec 7 := addr.setWidth 7
  if inMask x.pres (landReg code) then
    let e : Held := { id := s.nextId, th := x.th, addr := addr, code := code, val := v, since := s.cycle }
    { s with nextId := s.nextId + 1 }.updCore (coreOfSlot sl) (fun k => { k with lbuf := k.lbuf ++ [e] })
  else s.setSlot sl (x.land code v)

/-- The core that a thread's away entry names as MOVED. -/
def movedTo (s : State) (th : Thread) : Option Nat :=
  match awayOf s th with
  | none => none
  | some a => match a.st with | .moved c => some c | _ => none

/-- A value that the home core held during the restore is released under R118. A value for a thread that is now in another slot of
the home core itself (MOVED) frees its entry and travels through the network too, as one that goes to another core does: R119 names
only values that R118 leaves in the home buffer; the model's choice (log entry 112). -/
def releaseHeld (s : State) (home : Nat) (e : Held) : State :=
  match s.req? e.id with
  | none => s
  | some r =>
    match r.op with
    | .landing v _ _ =>
      let t := s.updCore home (fun k => { k with lbuf := k.lbuf.filter (fun h => decide (h.id ≠ e.id)) })
      match movedTo s e.th with
      | some c => forwardLanding t r v c true home
      | none =>
        let x := t.slot e.th.birth
        if inMask x.pres (landReg e.code) || inMask x.pend (landReg e.code) then s
        else (t.setSlot e.th.birth (x.land e.code v)).settleLanding e.id 0#8
    | _ => s

/-- Values passed to the transfer hart for a thread's log and not yet appended (R118). -/
def logPending (s : State) (th : Thread) : Bool :=
  s.reqs.any (fun r => decide (r.stage = .log) && r.op.isLanding && decide (addrThread r.ea = th))

/-- A record and its spill areas are read (R156): correctable words are corrected and counted at the slot's node. -/
def readRecord (s : State) (w : Away) : State :=
  let n := nodeOfSlot w.slot
  w.spills.foldl (fun s j => readAreas s n (spillAddr s w.ctx j) 128) (readAreas s n (recordAddr s w.ctx w.recNo) 256)

/-- The restore ends (R119, R376): record, Burin state, log and tags are in place; the slot runs on at the record's PC,
and the record and spill areas return to the pool. -/
def endRestore (s : State) (w : Away) : State :=
  let s := readRecord s w
  let a := recordAddr s w.ctx w.recNo
  let sl := w.slot
  let home := homeOf w.th
  let heldHome := (s.core home).lbuf.filter (fun e => decide (e.th = w.th))
  let n := logCount s a
  let t := { s.setSlot sl (slotOfRecord s (s.slot sl) w a) with freeCtr := s.freeCtr + 256 }
  let t := restoreBurin t w a
  let t := t.updCore (coreOfSlot sl) (fun k => { k with reserve := k.reserve - n })
  let t := (List.range n).foldl (fun t i => applyLog t sl (recWord s a (0x600 + 16 * i)) (recWord s a (0x608 + 16 * i))) t
  let t := restoreTags t w a
  let t := if sl = w.th.birth then dropAway t w.th else t.updAway w.th (fun b => { b with st := .moved (coreOfSlot sl), third := 0#64 })
  let t := t.updCtx w.ctx (fun c =>
    { c with usedRecs := c.usedRecs.filter (fun k => decide (k ≠ w.recNo)),
             usedSpills := c.usedSpills.filter (fun k => !w.spills.contains k) })
  let t := t.updSlot sl (fun x => { x with st := .running })
  heldHome.foldl (fun t e => releaseHeld t home e) t

/-- RESTORE (R376): a saved thread's restore begins on the core that firmware chooses, if its tile holds the code and no
lower class number goes first there (R373), once the values passed to the transfer hart are in the log (R119, log entry 95);
a restore that has begun ends once ring and queues have room (R282). -/
def execRestore (birth gen : Nat) (s : State) : Out :=
  let th : Thread := { birth := birth, gen := BitVec.ofNat 12 gen }
  match awayOf s th with
  | none => go s
  | some w =>
    match w.st with
    | .saved =>
      match restoreCore s w with
      | some c =>
        if hasCode s (tileOfCore c) w.launch && !restoreHeld s w c && !logPending s th then go (beginRestore s w c) else go s
      | none => go (s.updAway th (fun a => { a with code := none }))
    | .restoring =>
      if restoreRoom s w then byHart s (nodeOfSlot w.slot) (fun s => go (endRestore s w)) else go s
    | _ => go s

end Sys2Proof.Machine
end

