-- ==== Sys2Proof/Machine/Host.lean ====
section
/-! DEFINITION. Words that the module and the host share: host memory, signal pairs (R366), queue status (R361), replies
to every kind of requester (R202, R277, R286, R329), and the done tree (R102, R372). -/

namespace Sys2Proof.Machine

/-! ### Host memory and signal words -/

/-- A 64-bit word of host memory. -/
def hostWord (s : State) (a : Nat) : Word := wd (Memory.readNat s.hostMem a 8)
/-- Writes `n` bytes of host memory. -/
def hostStore (s : State) (a n v : Nat) : State := { s with hostMem := Memory.writeNat s.hostMem a n v }
/-- Some byte of a host range cannot be read over CXL (R393). -/
def hostHole (s : State) (a n : Nat) : Bool := s.hostHoles.any (fun h => decide (a < h.2) && decide (h.1 < a + n))

/-- A word has the form of a signal address (R366). -/
def signalForm (a : Word) : Bool :=
  decide (bits a.toNat 62 42 = 0) && decide (bits a.toNat 3 0 = 0) && (!a.getLsbD 63 || decide (bits a.toNat 41 40 = 0))

/-- Byte index of an HBM signal word, where the context's windows admit it (R180, R366). -/
def signalLoc (s : State) (ctx : Nat) (n : Need) (a : Nat) : Option Nat :=
  match checkAddr s ctx n (0x3FF * 2 ^ 42 + a % 2 ^ 42) with
  | .ok (.mem loc) => some loc
  | _ => none

/-- The windows admit a signal address with a permission; a host address needs none. -/
def signalOk (s : State) (ctx : Nat) (n : Need) (a : Word) : Bool :=
  !a.getLsbD 63 || (signalLoc s ctx n a.toNat).isSome

/-- Reads a signal word: the state after ECC, and the word. -/
def signalRead (s : State) (ctx : Nat) (a : Word) : State × Word :=
  if a.getLsbD 63 then
    match signalLoc s ctx Need.load a.toNat with
    | some loc => let t := s.ecc 0 loc; (t, recWord t loc 0)
    | none => (s, 0#64)
  else (s, hostWord s a.toNat)

/-- Writes a signal word. -/
def signalWrite (s : State) (ctx : Nat) (a : Word) (v : Word) : State :=
  if a.getLsbD 63 then
    match signalLoc s ctx Need.store a.toNat with
    | some loc => (s.store loc 8 v.toNat).cleanWord loc
    | none => s
  else hostStore s (a.toNat % 2 ^ 63) 8 v.toNat

/-- A completion's two words: the result, then the value as a release (R366); none for address 0. -/
def signalPair (s : State) (ctx : Nat) (a val result : Word) : State :=
  if a = 0#64 then s else signalWrite (signalWrite s ctx (a + 8#64) result) ctx a val

/-! ### Queues (R358, R361) -/

/-- Changes a queue. -/
def State.updQueue (s : State) (q : Nat) (f : HQueue → HQueue) : State :=
  match Tab.look s.queues q with
  | some x => { s with queues := Tab.put s.queues q (f x) }
  | none => s

/-- The queue status word (R361). -/
def HQueue.status (q : HQueue) : Word := wd (q.state * 2 ^ 56 + q.err * 2 ^ 48 + q.seq.toNat)

/-- Changes a queue and writes its status word. -/
def updStatus (s : State) (q : Nat) (f : HQueue → HQueue) : State :=
  let t := s.updQueue q f
  match Tab.look t.queues q with
  | some x => hostStore t x.qstat 8 x.status.toNat
  | none => t

/-- The mark of a launch, and of a PLATEOP, among the pending packets of its queue. -/
def launchMark (k : Nat) : Nat := 2 * k
def plateopMark (id : Nat) : Nat := 2 * id + 1

/-- A packet of a queue has completed. -/
def packetDone (s : State) (q m : Nat) : State :=
  s.updQueue q (fun x => { x with pending := x.pending.filter (fun i => decide (i ≠ m)) })

/-! ### Replies -/

/-- REPLY (R202): at a slot, a hart (R286), an epilogue engine (R277), or the pool for a PLATEOP (R329, R365). -/
def execReply (id : Nat) (s : State) : Out :=
  match s.req? id with
  | none => go s
  | some r =>
    match r.stage with
    | .replied v f =>
      match r.own with
      | .slot sl th => go (slotReply s sl th r v f)
      | .hart n h => if h = 8 then go (s.dropReq id) else go (hartReply (s.dropReq id) n h v f)
      | .epi t =>
        go ((s.dropReq id).updTile t (fun x =>
          { x with epi := x.epi.map (fun j => if j.busy then j.word (v.setWidth 64) f.isSome else j) }))
      | .host q a val =>
        let result := match f with | some f => wd (0x0A00 + f.finfo.toNat % 256) | none => 0#64
        go (packetDone (signalPair (s.dropReq id) r.ctx a val result) q (plateopMark r.acc))
      | .remote _ _ _ _ => go (s.dropReq id)
    | _ => go s

/-! ### The done tree (R372) -/

/-- The launch is complete (R366, R372): its signal pair is written, and its queue may go on. -/
def completeLaunch (s : State) (k : Nat) (status : Word) : State :=
  match s.launch? k with
  | none => s
  | some l =>
    let t := signalPair s l.ctx l.pkt.sig l.pkt.val status
    packetDone (t.updLaunch k (fun x => { x with st := .done })) l.queue (launchMark k)

/-- Position of a node in a launch's placement order. -/
def partIndex (l : Launch) (node : Nat) : Option Nat :=
  (l.parts.zipIdx).findSome? (fun e => if e.1.node = node then some e.2 else none)

/-- Every child of node `i` of the order has sent its message. -/
def childrenSent (l : Launch) (i : Nat) : Bool :=
  (l.parts.zipIdx).all (fun e => decide (e.2 = 0) || decide ((e.2 - 1) / 4 ≠ i) || e.1.sent)

/-- The part of node `i` of the order. -/
def partAt (l : Launch) (i : Nat) : Option Part := (l.parts.drop i).head?

/-- DONE_MESSAGE (R372): the node's combined word goes to its parent, or, at the root, to the pool. -/
def execDoneMessage (node seq : Nat) (s : State) : Out :=
  match s.launch? seq with
  | none => go s
  | some l =>
    match partIndex l node with
    | none => go s
    | some i =>
      match partAt l i with
      | none => go s
      | some p =>
        if l.st ≠ .placed ∨ !p.complete ∨ p.sent ∨ !childrenSent l i then go s
        else
          let t := s.updPart seq node (fun q => { q with sent := true })
          if i = 0 then go (completeLaunch t seq p.word)
          else
            match partAt l ((i - 1) / 4) with
            | some up => go (t.addStatus seq up.node p.word)
            | none => go t

end Sys2Proof.Machine
end

