-- ==== Sys2Proof/Machine/Link.lean ====
section
/-! DEFINITION. The links of the pod fabric as one member sees them (R335 to R345, R353 to R357): the rotor schedule, key
states, frames sealed and received, routes, meetings and the relay buffer. Other members act through the operands of the
events. -/

namespace Sys2Proof.Machine

/-- 1 ms in cycles (R346). -/
def msCycles : Nat := 1750000
/-- Bytes that a meeting carries in one direction (R339). -/
def meetingBytes : Nat := 192000

/-! ### Members, the schedule and key states (R335 to R338, R353, R356) -/

/-- The rotor, and so the port, on which two positions meet (R337). -/
def portOf (d e : Nat) : Nat := (d ^^^ e) / 16
/-- The partner of port `p` in slot `t` (R337). -/
def partnerAt (d p t : Nat) : Nat := d ^^^ (16 * p + (t + p) % 16)
/-- The first slot at or after `t` in which two positions meet (R337). -/
def meetSlot (d e t : Nat) : Nat := t + (((d ^^^ e) % 16 + 16 - portOf d e % 16) % 16 + 16 - t % 16) % 16

/-- A member whose join record is held (R336). -/
def isMember (s : State) (e : Nat) : Bool := s.pod.joins.any (fun (x : Nat × Join) => decide (x.1 = e))

/-- Number of the key state that sends to, or receives from, a member (R353). -/
def keyNo (e : Nat) (receive : Bool) : Nat := 2 * e + b2n receive
/-- The key state, if the pair has one. -/
def State.key? (s : State) (e : Nat) (receive : Bool) : Option Key := Tab.look s.pod.keys (keyNo e receive)
/-- Writes a key state. -/
def State.setKey (s : State) (e : Nat) (receive : Bool) (k : Key) : State :=
  { s with pod := { s.pod with keys := Tab.put s.pod.keys (keyNo e receive) k } }

/-- The pair meets only by relay (R355 to R357): its port is disabled or down for it, or it has no key. -/
def pairDown (s : State) (d e : Nat) : Bool :=
  let p := s.port (portOf d e)
  p.disabled || p.down.contains e || (s.key? e false).isNone
/-- The port sends no flits to the partner (R356): the pair's port is down, or its key state is exhausted. -/
def portStopped (s : State) (d e : Nat) : Bool :=
  pairDown s d e || (match s.key? e false with | some k => k.exhausted.isSome | none => true)

/-- The counter of failed presence windows of a member in a row (R348). -/
def State.setFails (s : State) (e n : Nat) : State := { s with pod := { s.pod with fails := Tab.write 0 s.pod.fails e n } }

/-! ### Frames (R353 to R355) -/

/-- The info string of the key state that sends from position `d` to `e` on rotor `p` with rotation index `r` (R355). -/
def keyInfo (d e p r : Nat) : List (BitVec 8) :=
  [0x4B#8, 0x5A#8, 0x4C#8, 0x49#8, 0x4E#8, 0x4B#8, 0x31#8, BitVec.ofNat 8 d, BitVec.ofNat 8 (d / 256),
   BitVec.ofNat 8 e, BitVec.ofNat 8 (e / 256), BitVec.ofNat 8 p, BitVec.ofNat 8 r, BitVec.ofNat 8 (r / 256),
   BitVec.ofNat 8 (r / 65536), BitVec.ofNat 8 (r / 16777216)]
/-- Key of a key state's HKDF output (R355). -/
def keyOf (m : BitVec 288) : BitVec 256 := m.extractLsb' 32 256
/-- The nonce: the salt, then the counter value of the frame's first flit (R353, R354). -/
def nonce (m : BitVec 288) (ctr : BitVec 64) : BitVec 96 := m.extractLsb' 0 32 ++ ctr

/-- Bits [255:128] of the trailer of a frame of `n` flits from position `d` to `e` on rotor `p` (R354). -/
def trailerHead (k : Key) (d e p n : Nat) : BitVec 128 :=
  BitVec.ofNat 64 k.ctr ++ BitVec.ofNat 10 d ++ BitVec.ofNat 10 e ++ BitVec.ofNat 6 p ++ BitVec.ofNat 2 k.rot
    ++ BitVec.ofNat 4 (n - 1) ++ 0#32

/-- The frame of payload flits, sealed under a key state (R353, R354). -/
def sealFrame (k : Key) (d e p : Nat) (f : List Vec) : Frame :=
  let m := Config.hkdf k.secret (keyInfo d e p k.rot)
  let head := trailerHead k d e p f.length
  let g := Config.gcmSeal (keyOf m) (nonce m (BitVec.ofNat 64 k.ctr)) head f
  { trailer := head ++ g.1, payload := g.2 }

/-- The key state `k` toward `e` has come within one flit of its end: the port stops and raises KEYEXH to the management core
(R356). -/
def exhaustKey (s : State) (p e : Nat) (k : Key) : State :=
  let t := s.setKey e false { k with exhausted := some s.cycle }
  { t with pod := { t.pod with keyexh := t.pod.keyexh ++ [(p, e)] } }

/-- Port `p` puts a frame on the link toward `e` under key state `k` (R339, R353, R354). -/
def putFrame (s : State) (d p e : Nat) (k : Key) (f : List Vec) : State :=
  let t := s.updPort p (fun x => { x with sent := x.sent + 32 * (f.length + 1), wire := x.wire ++ [sealFrame k d e p f] })
  let j := { k with ctr := k.ctr + f.length }
  if 2 ^ 64 - 1 ≤ j.ctr then exhaustKey t p e j else t.setKey e false j

/-- Port `p` sends frames to `e`, the last before the bound of the counter shortened (R354, R356); whether all have gone. -/
def sendFrames (d p e : Nat) : List (List Vec) → State → State × Bool
  | [], s => (s, true)
  | f :: rest, s =>
    match s.key? e false with
    | none => (s, false)
    | some k =>
      let n := min f.length (2 ^ 64 - 1 - k.ctr)
      if k.exhausted.isSome then (s, false)
      else if n = 0 then (exhaustKey s p e k, false)
      else if n < f.length then (putFrame s d p e k (f.take n), false)
      else sendFrames d p e rest (putFrame s d p e k f)

/-- The flits of a packet: the header leads the first, the payload follows (log entry 41). -/
def flitsOf (h : PodHeader) (b : PodBody) : List Vec := (headerWord h ++ Config.payloadHead b) :: Config.payloadRest b
/-- The frames of a packet: up to 16 flits each (R354). -/
def framesOf (o : Packet) : List (List Vec) :=
  let l := flitsOf o.hdr o.body
  (List.range ((l.length + 15) / 16)).map (fun i => (l.drop (16 * i)).take 16)
/-- Bytes on the link of frames with their trailers. -/
def wireBytes (fs : List (List Vec)) : Nat := sumNat (fs.map (fun f => 32 * (f.length + 1)))

/-- The rotation index that a received KEYIX names: the first at or above the present one (R354, R355). -/
def followRot (rot ix : Nat) : Nat := rot + (ix + 4 - rot % 4) % 4

/-- What opening a frame from position `d` to `e` gives: tag and payload flits (R354). -/
def openFrame (k : Key) (d e p r : Nat) (trailer : Vec) (payload : List Vec) : BitVec 128 × List Vec :=
  let m := Config.hkdf k.secret (keyInfo d e p r)
  Config.gcm (keyOf m) (nonce m (trailer.extractLsb' 192 64)) (trailer.extractLsb' 128 128) payload

/-- The key state after an accepted frame from position `e` at `d`, with its flits, or none (R354). -/
def acceptFrame (k : Key) (d e p : Nat) (trailer : Vec) (payload : List Vec) : Option (Key × List Vec) :=
  let w := trailer.toNat
  let r := followRot k.rot (bits w 165 164)
  let newer := match k.last with | some c => decide (r ≠ k.rot) || decide (c < bits w 255 192) | none => true
  let g := openFrame k e d p r trailer payload
  if decide (bits w 181 172 = d) && decide (bits w 171 166 = p) && decide (bits w 163 160 + 1 = payload.length)
      && newer && decide (g.1 = trailer.extractLsb' 0 128) then
    some ({ k with rot := r, last := some (bits w 255 192) }, g.2)
  else none

/-- A frame fails (R345): after three re-sent ones its packet is dropped and counted. -/
def failFrame (s : State) (p : Nat) : State :=
  s.updPort p (fun x => if 3 ≤ x.bad then { x with bad := 0, errs := x.errs + 1, rx := x.rx ++ [none] } else { x with bad := x.bad + 1 })

/-- FRAME_RECEIVE (R354): the flits of an accepted frame wait to be taken as packets. -/
def execFrameReceive (port : BitVec 6) (trailer : Vec) (payload : List Vec) (s : State) : Out :=
  match s.pod.pos with
  | none => go s
  | some d =>
    let e := bits trailer.toNat 191 182
    match (s.key? e true).bind (fun k => acceptFrame k d e port.toNat trailer payload) with
    | some (k, l) => go ((s.setKey e true k).updPort port.toNat (fun x => { x with bad := 0, rx := x.rx ++ l.map some }))
    | none => go (failFrame s port.toNat)

/-- The accepted flits without those of a packet; none where it has not come whole (R343). -/
def takeFlits (f : List (Option Vec)) : List (Option Vec) → Option (List (Option Vec))
  | [] => if f = [] then some [] else none
  | x :: l => if f.isPrefixOf (x :: l) then some ((x :: l).drop f.length) else (takeFlits f l).map (fun r => x :: r)

/-- The port at which a whole packet has arrived, with the state without its flits (R343, R345). -/
def takePacket (s : State) (h : PodHeader) (b : PodBody) : Option (Nat × State) :=
  (List.range 64).findSome? (fun p =>
    (takeFlits ((flitsOf h b).map some) (s.port p).rx).map (fun l => (p, s.updPort p (fun x => { x with rx := l }))))

/-- The header's CRC is right (R342). -/
def crcRight (h : PodHeader) : Bool := decide (headerCrc h = h.hcrc)
/-- A packet is dropped and counted at a link (R344, R345). -/
def countDrop (s : State) (p : Nat) : State := s.updPort p (fun x => { x with errs := x.errs + 1 })

/-! ### Routes (R339 to R341, R344) -/

/-- The window of the target holds a packet back (R344): its predecessor by 4,096 has not been sent, or has no receipt
and is not yet 1 ms old. -/
def windowHeld (s : State) (o : Packet) : Bool :=
  s.pod.out.any (fun q => decide (q.hdr.dst = o.hdr.dst) && decide (q.hdr.seq = o.hdr.seq - 4096#32))
    || s.pod.unreceipted.any (fun u => decide (u.dst = o.hdr.dst.toNat) && decide (u.seq = o.hdr.seq - 4096#32)
      && decide (s.cycle < u.since + msCycles))

/-- Bytes that a port has sent in its meeting of a slot. -/
def sentIn (s : State) (p t : Nat) : Nat := if (s.port p).met = some (t, true) then (s.port p).sent else 0

/-- Bytes that are queued for meetings with a position ahead of a packet: the relay buffer's, and the module's own. -/
def queuedAhead (s : State) (x id : Nat) : Nat :=
  sumNat ((s.pod.relay.filter (fun q => decide (q.hdr.dst.toNat = x))).map (fun q => wireBytes (framesOf q)))
  + sumNat ((s.pod.out.filter (fun q => decide (q.hdr.dst.toNat = x) && decide (q.id < id))).map (fun q => wireBytes (framesOf q)))

/-- The direct slot of a packet (R340): the first meeting with its target with live time left for it. -/
def directSlot (s : State) (d t : Nat) (o : Packet) : Nat :=
  let x := o.hdr.dst.toNat
  let first := meetSlot d x t
  let need := queuedAhead s x o.id + wireBytes (framesOf o)
  let room := meetingBytes - (if first = t then sentIn s (portOf d x) t else 0)
  if need ≤ room then first else first + 16 * ((need - room + meetingBytes - 1) / meetingBytes)

/-- The partners of slot `t` whose relay buffer has admitted a packet, each with the slot in which it meets the target, and its
port (R340, R341). -/
def relayRoutes (s : State) (d t : Nat) (o : Packet) : List (Nat × Nat) :=
  let x := o.hdr.dst.toNat
  (List.range 64).filterMap (fun p =>
    let n := partnerAt d p t
    if decide (n ≠ d) && decide (n ≠ x) && isMember s n && !s.pod.lost.contains n && !portStopped s d n
        && Config.relayAdmits o.id n t then some (meetSlot n x (t + 1), p) else none)

/-- R340 sends a packet by relay through port `p` in slot `t`: the least slot, the lowest port among equals, and earlier than
the direct slot, if there is one. -/
def byRelay (s : State) (d p t : Nat) (o : Packet) : Bool :=
  match leastBy (fun e => e.1 * 64 + e.2) (relayRoutes s d t o) with
  | none => false
  | some e => decide (e.2 = p) && (portStopped s d o.hdr.dst.toNat || decide (e.1 < directSlot s d t o))

/-- A packet is on a live link (R344, R349). -/
def packetSent (s : State) (o : Packet) : State :=
  let u : Unreceipted := { dst := o.hdr.dst.toNat, seq := o.hdr.seq, since := s.cycle }
  { s with pod := { s.pod with out := s.pod.out.filter (fun q => decide (q.id ≠ o.id)),
                               unreceipted := s.pod.unreceipted ++ [u] } }

/-- Port `p` sends a packet to its partner `n` (R339, R345, R353): every frame once, and up to three times again; whether it is
on the link whole. It stays where the live time has no room for it. -/
def transmit (s : State) (d p n : Nat) (o : Packet) : State × Bool :=
  let fs := (framesOf o).flatMap (fun f => List.replicate (Config.link s.freeCtr % 4 + 1) f)
  if meetingBytes < (s.port p).sent + wireBytes fs then (s, false)
  else sendFrames d p n fs { s with freeCtr := s.freeCtr + 1 }

/-- One packet of this module in the meeting of port `p` with `n` in slot `t` (R340). -/
def offerPacket (d p n t : Nat) (s : State) (o : Packet) : State :=
  if !windowHeld s o && (decide (o.hdr.dst.toNat = n) || byRelay s d p t o) then
    let k := transmit s d p n o
    if k.2 then packetSent k.1 o else k.1
  else s

/-- A relayed packet has spent 1 ms in the fabric (R344). -/
def Packet.old (o : Packet) (now : Nat) : Bool := match o.firstSent with | some t => decide (t + msCycles ≤ now) | none => false

/-- One packet of the relay buffer in the meeting with its target (R340, R341); one that is 1 ms old is not sent (R344). -/
def offerRelayed (d p n : Nat) (s : State) (o : Packet) : State :=
  if o.hdr.dst.toNat ≠ n ∨ o.old s.cycle then s
  else
    let k := transmit s d p n o
    if k.2 then { k.1 with pod := { k.1.pod with relay := k.1.pod.relay.filter (fun q => decide (q.id ≠ o.id)) } } else k.1

/-! ### Meetings (R337, R338, R348) -/

/-- What a port sends in live time to its partner (R340). -/
def sendMeeting (s : State) (d p n t : Nat) : State :=
  let s := s.pod.relay.foldl (offerRelayed d p n) s
  s.pod.out.foldl (offerPacket d p n t) s

/-- The presence beats of a meeting are exchanged (R338); its counts start anew. A beat is no flit of a frame (log entry 109). -/
def beginMeeting (s : State) (p n t : Nat) : State :=
  if (s.port p).met = some (t, true) then s
  else (s.updPort p (fun x => { x with met := some (t, true), bad := 0, sent := 0, wire := [] })).setFails n 0

/-- A pair whose direct port is down: one relayed presence beat in a cycle (R348). -/
def relayBeat (s : State) (p n t : Nat) : State :=
  let beat := (sendPod s n none 3 none .presence none).updPort p (fun x => { x with met := some (t, true) })
  match (s.port p).met with
  | some (u, _) => if u = t then s else beat
  | none => beat

/-- The port has a partner in the slot: another position, a member, not declared lost (R337, R348). -/
def meets (s : State) (d p t : Nat) : Bool :=
  let e := partnerAt d p t
  decide (e ≠ d) && isMember s e && !s.pod.lost.contains e && decide (s.pod.slot ≤ t)

/-- ROTOR_MEETING (R337): the slot pulse of `slot` at a port; the port meets its partner and sends. -/
def execRotorMeeting (port : BitVec 6) (slot : Nat) (s : State) : Out :=
  match s.pod.pos with
  | none => go s
  | some d =>
    let p := port.toNat
    if !meets s d p slot then go s
    else
      let s := { s with pod := { s.pod with slot := slot } }
      let e := partnerAt d p slot
      if pairDown s d e then go (relayBeat s p e slot)
      else if (s.port p).met = some (slot, false) then go s
      else go (sendMeeting (beginMeeting s p e slot) d p e slot)

/-- FAILED_PRESENCE_WINDOW (R338, R348): the partner's beat did not come; the port sends nothing more in the meeting. For
a pair whose port is down, the relayed beat of the cycle did not come. -/
def execFailedPresenceWindow (port : BitVec 6) (slot : Nat) (s : State) : Out :=
  match s.pod.pos with
  | none => go s
  | some d =>
    let p := port.toNat
    if !meets s d p slot then go s
    else
      let e := partnerAt d p slot
      let met := (s.port p).met
      let ended := if pairDown s d e then decide (met ≠ some (slot, true))
        else decide (met = some (slot, true)) || decide (met = some (slot, false))
      if ended then go s
      else
        let t := { s with pod := { s.pod with slot := slot } }.updPort p (fun x => { x with met := some (slot, false) })
        go (t.setFails e (Tab.get 0 s.pod.fails e + 1))

/-! ### The relay buffer (R341, R344, R349) -/

/-- A control message to a member leaves in the present meeting with it, if there is one, else in a later one (R341). -/
def sendNow (s : State) (d n : Nat) (b : PodBody) : State :=
  let t := sendPod s n none 3 none b none
  let p := portOf d n
  match t.pod.out.getLast? with
  | some o => if (t.port p).met = some (t.pod.slot, true) then offerPacket d p n t.pod.slot t o else t
  | none => t

/-- Bytes that the relay buffer holds. -/
def relayUsed (s : State) : Nat := sumNat (s.pod.relay.map (fun o => 16 + o.hdr.len.toNat))

/-- What a relay does with an offered packet (R341, R349): one toward a lost member is dropped and its originator told; one
that finds no room is refused in the same meeting; any other is admitted, the meeting being the one in which it is first
sent (R344). -/
def admitOffer (s : State) (d : Nat) (h : PodHeader) (b : PodBody) : State :=
  let src := h.src.toNat
  if s.pod.lost.contains h.dst.toNat then sendPod s src none 3 none (.dropRefusal h.dst.toNat h.seq) none
  else if 2 ^ 24 < relayUsed s + 16 + h.len.toNat then sendNow s d src (.offerRefusal h.dst.toNat h.seq)
  else
    let o : Packet := { id := s.nextId, hdr := h, body := b, req := none, firstSent := some s.cycle, relayed := true }
    { s with nextId := s.nextId + 1, pod := { s.pod with relay := s.pod.relay ++ [o] } }

/-- RELAY_OFFER (R341, R350): a whole packet for another member, straight from its source, which is a member and not lost. -/
def execRelayOffer (hdr : PodHeader) (body : PodBody) (s : State) : Out :=
  match s.pod.pos with
  | none => go s
  | some d =>
    let src := hdr.src.toNat
    if decide (hdr.dst.toNat = d) || decide (src = d) || !isMember s src then go s
    else
      match takePacket s hdr body with
      | none => go s
      | some (p, t) =>
        if !crcRight hdr then go (countDrop t p)
        else if s.pod.lost.contains src then go t else go (admitOffer t d hdr body)

/-- POD_PACKET_EXPIRE (R344, R345): a packet in the relay buffer 1 ms after it was first sent is discarded and counted at
the link toward its target. -/
def execPodPacketExpire (id : Nat) (s : State) : Out :=
  match s.pod.pos, s.pod.relay.find? (fun o => decide (o.id = id)) with
  | some d, some o =>
    if o.old s.cycle then
      go (countDrop { s with pod := { s.pod with relay := s.pod.relay.filter (fun q => decide (q.id ≠ id)) } }
        (portOf d o.hdr.dst.toNat))
    else go s
  | _, _ => go s

/-! ### Keys and bring-up (R353, R355 to R357) -/

/-- How many wavelengths of a port failed training (R357). -/
def waveFails (t : PortTest) : Nat := (t.data.toList.filter (fun b => !b)).length + b2n (!t.spare)
/-- A port fails bring-up (R357): no laser or lock, or two of its nine wavelengths. -/
def testFails (t : PortTest) : Bool := !t.laser || !t.lock || decide (2 ≤ waveFails t)

/-- The bring-up result of port `p`; a port without one has no laser. -/
def portTest (tests : List PortTest) (p : Nat) : PortTest :=
  (tests[p]?).getD { laser := false, lock := false, data := Vector.replicate 8 false, spare := false }

/-- The port records after bring-up, at a join and after a reset (R357). -/
def portsUp (tests : List PortTest) : Tab Port :=
  (List.range 64).map (fun p =>
    (p, { Port.reset with test := some (portTest tests p), disabled := testFails (portTest tests p) }))
/-- After a reset the management core brings up each port (R357). -/
def resetPorts (s : State) (tests : List PortTest) : State := { s with pod := { s.pod with ports := portsUp tests } }

end Sys2Proof.Machine
end

