-- ==== Sys2Proof/Machine/Boot.lean ====
section
/-! DEFINITION. The mailbox (R391 to R394), bring-up (R395 to R400), token buckets (R193) and the throttles (R402). -/

namespace Sys2Proof.Machine

/-! ### Mailbox registers (R393) -/

/-- A command completes: ERR, and RESULT 0. -/
def mbDone (s : State) (err : Nat) : Out :=
  go { s with mbox := { s.mbox with busy := false, err := err, result := 0#32 } }

/-- A mailbox command: ignored while one runs; ERR 6 before phase 6. -/
def mbCommand (s : State) (k : Out) : Out :=
  if s.mbox.busy then go s else if s.mbox.phase ≠ 6 then mbDone s 6 else k

/-- MBSTAT (R393). -/
def Mbox.mbstat (m : Mbox) : Word := wd (b2n m.busy * 2 ^ 63 + m.err % 256 * 2 ^ 48 + m.result.toNat)
/-- BOOTST (R393). -/
def Mbox.bootst (m : Mbox) : Word := wd (m.phase * 2 ^ 56 + m.bootErr * 2 ^ 48 + m.detail)
/-- What a host read of a BAR0 register returns (R6, R393): MBCMD is write-only and reads zero; offsets without a register read
zero too (log entry 103). -/
def Mbox.read (m : Mbox) (off : Nat) : Word :=
  if off = 0x008 then m.arg0 else if off = 0x010 then m.arg1 else if off = 0x018 then m.arg2 else if off = 0x020 then m.arg3
  else if off = 0x040 then m.mbstat else if off = 0x080 then m.bootst else 0#64

/-- REGISTER_WRITE (R393): MBARG0 to MBARG3 take the value; any other register keeps its own. -/
def execRegisterWrite (off : Nat) (v : Word) (s : State) : Out :=
  let m := s.mbox
  let w := if off = 0x008 then { m with arg0 := v } else if off = 0x010 then { m with arg1 := v }
    else if off = 0x018 then { m with arg2 := v } else if off = 0x020 then { m with arg3 := v } else m
  go { s with mbox := w }

/-- The codes of R393. -/
def mbCodes : List Nat := [0x01, 0x10, 0x11, 0x20, 0x21, 0x22, 0x30, 0x40]

/-- UNKNOWN_COMMAND_CODE (R393). -/
def execUnknownCommandCode (code : BitVec 8) (s : State) : Out :=
  if s.mbox.busy ∨ mbCodes.contains code.toNat then go s else mbDone s 1

/-- Bytes of host memory. -/
def hostBytes (s : State) (a n : Nat) : List (BitVec 8) := (List.range n).map (fun i => Memory.byte s.hostMem (a + i))
/-- Bytes as a number, lowest first. -/
def bytesNat : List (BitVec 8) → Nat
  | [] => 0
  | b :: t => b.toNat + 256 * bytesNat t

/-! ### DOWNLOAD and bring-up (R395 to R400) -/

/-- Bring-up reports a phase (R397, R403). -/
def reportBoot (s : State) (phase err detail : Nat) : State :=
  let m := { s.mbox with phase := phase, bootErr := err, detail := detail }
  { s with mbox := m, bootHist := m.bootst :: s.bootHist }

/-- The image is copied into the firmware SRAM (R396, R397). -/
def copyImage (s : State) (a n : Nat) : State :=
  { s with image := (List.range n).foldl (fun m i => Memory.setByte m i (Memory.byte s.hostMem (a + i))) [] }

/-- Phase 1's checks in order: magic and length, key hash, signature; 0 where all pass (R395, R397). -/
def imageErr (img : List (BitVec 8)) : Nat :=
  let len := img.length
  let key := (img.drop 0x10).take 32
  let num := fun o n => bytesNat ((img.drop o).take n)
  let digest := Config.sha512 (img.take 0x40 ++ img.drop 0x80)
  if num 0 8 ≠ 0x00014B5A49464D47 ∨ num 8 8 ≠ len ∨ len % 4096 ≠ 0 ∨ len < 4096 ∨ 6291456 < len then 1
  else if (Config.sha512 key).setWidth 256 ≠ Config.fuseHash then 2
  else if Config.ed25519 (BitVec.ofNat 256 (bytesNat key)) digest (BitVec.ofNat 512 (num 0x40 64)) = false then 3
  else 0

/-- Slots with a bit that fails in both march passes (R398). -/
def deadSlots (rep : Repair) : List Nat := ((rep.march1.filter (fun e => rep.march2.contains e)).map (fun e => e.1)).foldl insertNat []
/-- Faults found in one pass only, by slot. -/
def onceFaults (rep : Repair) : List Nat :=
  ((rep.march1.filter (fun e => !rep.march2.contains e)) ++ (rep.march2.filter (fun e => !rep.march1.contains e))).map (fun e => e.1)

/-- A bus of a tile retires: three connections of a group fail (R399). -/
def busRetired (rep : Repair) (t bus : Nat) : Bool :=
  (List.range 16).any (fun g =>
    let c := (rep.stipple.filter (fun e => decide (e.1 = t) && decide (e.2.1 = bus) && decide (e.2.2.1 = g))).map (fun e => e.2.2.2)
    decide (3 ≤ (c.foldl insertNat []).length))

/-- Phase 3 (R398, R399). -/
def repairTests (s : State) (rep : Repair) : State :=
  let s := (deadSlots rep).foldl (fun s sl => s.updSlot sl (fun x => { x with st := .disabled })) s
  let s := (onceFaults rep).foldl (fun s sl => s.updNode (nodeOfSlot sl) (fun n => { n with marchOnce := n.marchOnce + 1 })) s
  let tiles := (rep.stipple.map (fun e => e.1)).foldl insertNat []
  tiles.foldl (fun s t => s.updTile t (fun x => { x with rbus := b2n (busRetired rep t 0) + b2n (busRetired rep t 1) })) s

/-- Entry `i` of the exclusion list (R400). -/
def exclusion (s : State) (a i : Nat) : Nat × Nat × Nat :=
  let v := Memory.readNat s.hostMem (a + 4 * i) 4
  (bits v 31 24, bits v 15 8, bits v 7 0)

/-- Place of a physical position in the order of R400. -/
def defectKey (d : Nat × Nat × Nat) : Nat := d.1 * 2 ^ 20 + d.2.2 * 33 + d.2.1

/-- Inserts a position into a list in the order of R400, once. -/
def insertDefect : List (Nat × Nat × Nat) → Nat × Nat × Nat → List (Nat × Nat × Nat)
  | [], d => [d]
  | h :: t, d => if defectKey d < defectKey h then d :: h :: t else if defectKey d = defectKey h then h :: t else h :: insertDefect t d

/-- The positions that are not good: defective or excluded (R400). -/
def badPositions (rep : Repair) (excl : List (Nat × Nat × Nat)) : List (Nat × Nat × Nat) :=
  ((rep.defects ++ excl).filter (fun d => decide (d.1 < 10) && decide (d.2.1 < 33) && decide (d.2.2 < 32))).foldl insertDefect []

/-- The first die whose discovery fails, with ERR (R397, R400): a router, or fewer than 1,024 good nodes. -/
def discoveryErr (rep : Repair) (ds : List (Nat × Nat × Nat)) : Option (Nat × Nat) :=
  (List.range 10).findSome? (fun d =>
    if rep.routers.contains d then some (5, d)
    else if 1056 < 1024 + (ds.filter (fun e => decide (e.1 = d))).length then some (4, d) else none)

/-- Phases 2 to 6 (R397). -/
def bringUp (s : State) (rep : Repair) (excl : List (Nat × Nat × Nat)) : State :=
  let s := reportBoot (repairTests (reportBoot (reportBoot (resetPorts s rep.ports) 2 0 0) 3 0 0) rep) 4 0 0
  let ds := badPositions rep excl
  match discoveryErr rep ds with
  | some (e, d) => reportBoot s 4 e d
  | none =>
    let s := reportBoot { s with defects := ds } 5 0 0
    match rep.deliver with
    | some (d, n) => reportBoot s 5 6 (d * 1024 + n)
    | none => reportBoot s 6 0 0

/-- DOWNLOAD (R393, R397). -/
def execDownload (rep : Repair) (s : State) : Out :=
  let m := s.mbox
  let a := m.arg0.toNat
  let n := m.arg1.toNat
  let e := m.arg2.toNat
  let k := m.arg3.toNat
  if m.busy then go s
  else if m.phase ≠ 0 ∨ 256 < k ∨ (e = 0 ∧ k ≠ 0) then mbDone s 1
  else if hostHole s a n ∨ hostHole s e (4 * k) then mbDone s 3
  else
    let t := copyImage (reportBoot s 1 0 0) a (min n 0x600000)
    let err := imageErr (hostBytes s a n)
    if err ≠ 0 then mbDone (reportBoot t 0 err 0) 0
    else mbDone (bringUp t rep ((List.range k).map (exclusion s e))) 0

/-! ### Contexts (R154, R179, R182, R251, R306, R315, R393, R394) -/

/-- A field of a context record. -/
def cr (s : State) (a off n : Nat) : Nat := Memory.readNat s.hostMem (a + off) n
/-- The context that a record describes. -/
def ctxOfRecord (s : State) (a : Nat) : Ctx where
  pctx := bits (cr s a 0 8) 31 16
  plateG := bits (cr s a 0 8) 35 32
  hbmShare := bits (cr s a 8 8) 8 0
  fabShare := bits (cr s a 8 8) 24 16
  hbmBase := bits (cr s a 0x10 8) 23 0
  hbmLen := bits (cr s a 0x10 8) 47 24
  saveBase := bits (cr s a 0x18 8) 39 0
  saveRecs := bits (cr s a 0x20 8) 31 0
  spills := bits (cr s a 0x20 8) 63 32
  allot := BitVec.ofNat 10240 (cr s a 0x40 1280)
  windows := (List.range 64).map (fun i => BitVec.ofNat 128 (cr s a (0x540 + 16 * i) 16))
  podTab := (List.range 1024).foldl (fun t v => Tab.write 0#64 t v (wd (cr s a (0x940 + 8 * v) 8))) []
  lastSeq := 0#32
  usedRecs := []
  usedSpills := []

/-- A field of the record breaks its range, or a reserved bit is set (R394, ERR 1). -/
def badCtxField (s : State) (a : Nat) : Bool :=
  let c := ctxOfRecord s a
  decide (bits (cr s a 0 8) 63 36 ≠ 0) || decide (12 < c.plateG) || decide (256 < c.hbmShare) || decide (256 < c.fabShare)
  || decide (bits (cr s a 8 8) 15 9 ≠ 0) || decide (bits (cr s a 8 8) 63 25 ≠ 0) || decide (bits (cr s a 0x10 8) 63 48 ≠ 0)
  || decide (bits (cr s a 0x18 8) 63 40 ≠ 0) || decide (c.saveBase % 2048 ≠ 0) || decide (cr s a 0x28 24 ≠ 0)
  || c.windows.any (fun w => decide (bits w.toNat 55 8 ≠ 0) || decide (bits w.toNat 6 4 ≠ 0))
  || c.podTab.any (fun (e : Nat × Word) => !e.2.getLsbD 63 && decide (bits e.2.toNat 62 10 ≠ 0))

/-- Two ranges meet: they have an element in common. -/
def meet (a n b k : Nat) : Bool := decide (a < b + k) && decide (b < a + n) && decide (0 < n) && decide (0 < k)

/-- The valid windows of a context. -/
def Ctx.valid (c : Ctx) : List (BitVec 128) := c.windows.filter (fun w => winV w && decide (winLen w ≠ 0))

/-- No two elements of a list satisfy a relation. -/
def pairwiseNot {α : Type} (r : α → α → Bool) : List α → Bool
  | [] => true
  | h :: t => t.all (fun x => !r h x) && pairwiseNot r t

/-- A window, pod-table entry or save pool breaks its rule (R179, R182, R394, ERR 5). -/
def badCtxTables (c : Ctx) : Bool :=
  let ws := c.valid
  let pool := c.saveRecs * 2048 + c.spills * 1024
  ws.any (fun w => decide (winPbase w < c.hbmBase) || decide (c.hbmBase + c.hbmLen < winPbase w + winLen w)
      || decide (hbmTop < (winPbase w + winLen w) * 65536))
  || !pairwiseNot (fun v w => meet (winVbase v) (winLen v) (winVbase w) (winLen w)
      || meet (winPbase v) (winLen v) (winPbase w) (winLen w)) ws
  || decide (c.saveBase < c.hbmBase * 65536) || decide ((c.hbmBase + c.hbmLen) * 65536 < c.saveBase + pool)
  || ws.any (fun w => meet c.saveBase pool (winPbase w * 65536) (winLen w * 65536))
  || c.podTab.any (fun (e : Nat × Word) => e.2.getLsbD 63 && decide (bits e.2.toNat 62 10 ≠ 0))

/-- A node or HBM range is another context's, or the shares exceed 256 (R394, ERR 4). -/
def ctxConflict (s : State) (c : Ctx) : Bool :=
  s.ctxs.any (fun e => decide (e.2.allot &&& c.allot ≠ 0#10240) || meet e.2.hbmBase e.2.hbmLen c.hbmBase c.hbmLen)
  || decide (256 < c.hbmShare + sumNat (s.ctxs.map (fun e => e.2.hbmShare)))
  || decide (256 < c.fabShare + sumNat (s.ctxs.map (fun e => e.2.fabShare)))

/-- A byte of node memory or B-SRAM of the allotment that set-up and end write (R154): the B-SRAM of a tile with two retired
buses is left out (R279). -/
def holds (s : State) (c : Ctx) (loc : Nat) : Bool :=
  c.allots (ownerNode 0 loc)
  && (isStore loc || (isBsram loc && decide ((s.tile ((loc - 0x28000000000) / 131072)).rbus < 2)))

/-- The set-up steps at the nodes of an allotment (R154, R251, R306, R313, R315): local stores and B-SRAM with 0, local
stores in state FULL; tags, table pairs, plate tables. -/
def clearAllot (s : State) (c : Ctx) : State :=
  let word := fun (w : Nat) => holds s c (8 * w)
  let cores := s.cores.map (fun e => if c.allots (nodeOfCore e.1) then (e.1, { e.2 with tags := 0#64, tagerr := 0#64 }) else e)
  let tiles := s.tiles.map (fun e => if c.allots (nodeOfTile e.1) then (e.1, { e.2 with pair2 := none, pair3 := none }) else e)
  let nodes := s.nodes.map (fun e => if c.allots e.1 then (e.1, { e.2 with plates := [], attaches := 0#32 }) else e)
  { s with mem := s.mem.filter (fun e => !holds s c e.1), wst := s.wst.filter (fun e => !word e.1),
           bad := s.bad.filter (fun w => !word w), corr := s.corr.filter (fun w => !word w),
           cores := cores, tiles := tiles, nodes := nodes }

/-- CTXSET (R393, R394). -/
def execCtxset (s : State) : Out :=
  mbCommand s (
    let a := s.mbox.arg0.toNat
    let num := bits (cr s a 0 8) 15 0
    let c := ctxOfRecord s a
    if a % 64 ≠ 0 then mbDone s 1
    else if hostHole s a 0x2940 then mbDone s 3
    else if badCtxField s a then mbDone s 1
    else if (s.context num).isSome ∨ 64 ≤ s.ctxs.length then mbDone s 2
    else if badCtxTables c then mbDone s 5
    else if ctxConflict s c then mbDone s 4
    else mbDone (clearAllot { s with ctxs := Tab.put s.ctxs num c } c) 0)

/-- Some hart of the context stands inside a unit. -/
def hartsBusy (s : State) (ctx : Nat) : Bool :=
  s.nodes.any (fun e => e.2.harts.any (fun h => decide (h.2.cmd.ctx = ctx) && midUnit h.2))

/-- The launch is of the context. -/
def ofCtx (ctx k : Nat) : Bool := decide (k / 2 ^ 32 = ctx)

/-- A core without what belongs to a context (R80, R94, R119, R311); `mine` says that the context's allotment has the core. -/
def Core.endCtx (c : Core) (ctx : Nat) (live : Nat → Bool) (mine : Bool) : Core :=
  let keep := fun (d : Cmd) => decide (d.ctx ≠ ctx)
  let probe := match c.probe with
    | some (.asked _ k _) => if ofCtx ctx k then none else c.probe
    | some (.record _ k _ _ _) => if ofCtx ctx k then none else c.probe
    | some (.empty _ k _) => if ofCtx ctx k then none else c.probe
    | none => none
  { c with deque := c.deque.filter (fun r => !ofCtx ctx r.launch),
           owner := match c.owner with | some k => if ofCtx ctx k then none else some k | none => none,
           away := c.away.filter (fun a => decide (a.ctx ≠ ctx)), waitl := c.waitl.filter live,
           reserve := if mine then 0 else c.reserve, walks := if mine then [] else c.walks,
           q0 := c.q0.filter keep, q1 := c.q1.filter keep, q2 := c.q2.filter keep, probe := probe,
           answers := c.answers.filter (fun a => !ofCtx ctx a.2.1.launch) }

/-- A tile whose context has ended (R251, R260, R370). -/
def Tile.endCtx (t : Tile) : Tile :=
  { t with ring := Vector.replicate 8 none, burin := none, epi := none, pair2 := none, pair3 := none, tload := none,
           hold0 := none, hold1 := none }

/-- The threads of a context, resident or away. -/
def threadsOf (s : State) (ctx : Nat) : List Thread :=
  (s.slots.filter (fun e => decide (e.2.ctx = ctx) && decide (e.2.st ≠ .free))).map (fun e => e.2.th)
  ++ s.cores.flatMap (fun e => (e.2.away.filter (fun a => decide (a.ctx = ctx))).map (fun a => a.th))

/-- Requests of the context end: those of another module are refused with ACCESS reason 9, the others are dropped. -/
def endRequests (s : State) (ctx : Nat) : State :=
  (s.reqs.filter (fun r => decide (r.ctx = ctx))).foldl (fun s r =>
    match r.own with
    | .remote _ _ _ _ => if r.op.isLanding then s.settleLanding r.id landExited
        else finishReq s r 0#256 (some (r.faultInfo causeACCESS 9))
    | _ => s.dropReq r.id) s

/-- A context ends (R80, R119, R154, R251, R260, R306, R311, R315, R393). -/
def endContext (s : State) (ctx : Nat) (c : Ctx) : State :=
  let s := (threadsOf s ctx).foldl refuseHeld s
  let s := endRequests s ctx
  let live := fun id => (s.req? id).isSome
  let slots := s.slots.map (fun e => if e.2.ctx = ctx ∧ e.2.st ≠ .disabled then (e.1, { e.2.vacate with ending := none, stopped := [] }) else e)
  let cores := s.cores.map (fun e => (e.1, e.2.endCtx ctx live (c.allots (nodeOfCore e.1))))
  let nodes := s.nodes.map (fun e =>
    (e.1, { e.2 with harts := e.2.harts.filter (fun h => decide (h.2.cmd.ctx ≠ ctx)),
                     buckets := Tab.drop e.2.buckets ctx }))
  let ctls := s.ctls.filter (fun m => decide (m.ctx ≠ ctx))
  let routers := s.routers.map (fun e => (e.1, e.2.filter (fun k => decide (k.ctx ≠ ctx))))
  let queues := s.queues.map (fun e => if e.2.ctx = ctx then (e.1, { e.2 with pending := [] }) else e)
  let pipe := s.pipe.filter (fun p => decide ((s.slot p.sl).ctx ≠ ctx))
  let t := { s with slots := slots, cores := cores, nodes := nodes, ctls := ctls, routers := routers.filter (fun e => decide (e.2 ≠ [])), queues := queues, pipe := pipe,
                    contribs := s.contribs.filter (fun k => !ofCtx ctx k.1),
                    launches := s.launches.filter (fun k => !ofCtx ctx k.1), ctxs := Tab.drop s.ctxs ctx }
  let tiles := t.tiles.map (fun e => if c.allots (nodeOfTile e.1) then (e.1, e.2.endCtx) else e)
  clearAllot { t with tiles := tiles } c

/-- The end of a context goes on (R311, R393): once every hart of the context stands at a boundary, it is complete; until then
MBSTAT.BUSY is 1. -/
def goOnEnding (s : State) (num : Nat) : Out :=
  match s.context num with
  | none => mbDone { s with mbox := { s.mbox with ending := none } } 7
  | some c =>
    if hartsBusy s num then go { s with mbox := { s.mbox with busy := true, ending := some num } }
    else mbDone (endContext { s with mbox := { s.mbox with ending := none } } num c) 0

/-- CTXEND (R374, R393): the context's end begins, with pre-emption marked on its slots, or one that has begun goes on. -/
def execCtxend (s : State) : Out :=
  match s.mbox.ending with
  | some num => goOnEnding s num
  | none =>
    mbCommand s (
      let num := s.mbox.arg0.toNat
      if 65535 < num then mbDone s 1
      else if (s.context num).isNone then mbDone s 7 else goOnEnding (markContext s num) num)

/-! ### Queues, window, pod secret (R358, R361, R373, R392, R393) -/

/-- The queue that a record describes (R358). -/
def queueOfRecord (s : State) (a : Nat) : HQueue where
  ring := cr s a 0 8
  size := cr s a 8 8
  ridx := cr s a 0x10 8
  qstat := cr s a 0x18 8
  ctx := bits (cr s a 0x20 8) 15 0
  cls := bits (cr s a 0x20 8) 17 16
  fills := cr s a 0x28 8
  nfill := cr s a 0x30 8
  idx := 0
  state := 0
  err := 0
  seq := 0#32
  event := false
  slot := none
  askedAt := none
  rereads := 0
  rereadAt := 0
  waitSince := 0
  remap := false
  pending := []

/-- A field of a queue record breaks its limit (R358). -/
def badQueue (s : State) (a : Nat) : Bool :=
  let q := queueOfRecord s a
  decide (q.ring % 128 ≠ 0) || decide (q.size < 4) || decide (16 < q.size) || decide (q.ridx % 8 ≠ 0)
  || decide (q.qstat % 8 ≠ 0) || decide (bits (cr s a 0x20 8) 63 18 ≠ 0) || decide (q.fills % 128 ≠ 0) || decide (255 < q.nfill)

/-- QREG (R358, R393). -/
def execQreg (s : State) : Out :=
  mbCommand s (
    let n := s.mbox.arg0.toNat
    let a := s.mbox.arg1.toNat
    if 4095 < n then mbDone s 1
    else if hostHole s a 0x38 then mbDone s 3
    else if badQueue s a then mbDone s 1
    else if (Tab.look s.queues n).isSome then mbDone s 2
    else mbDone { s with queues := Tab.put s.queues n (queueOfRecord s a) } 0)

/-- QRESTART (R361, R393): a stopped queue runs again and takes its packet anew; of another queue, no effect. -/
def execQrestart (s : State) : Out :=
  mbCommand s (
    let n := s.mbox.arg0.toNat
    if 4095 < n then mbDone s 1
    else
      match Tab.look s.queues n with
      | none => mbDone s 7
      | some q =>
        if q.state = 2 then
          mbDone (updStatus s n (fun x => { x with state := 0, event := true, askedAt := if x.slot.isNone then some s.cycle else none })) 0
        else mbDone s 0)

/-- QCLASS (R373, R393): the class of packets not yet taken, and of what is not yet handed out. -/
def execQclass (s : State) : Out :=
  mbCommand s (
    let n := s.mbox.arg0.toNat
    let c := s.mbox.arg1.toNat
    if 4095 < n ∨ 3 < c then mbDone s 1
    else if (Tab.look s.queues n).isNone then mbDone s 7
    else
      let t := s.updQueue n (fun x => { x with cls := c })
      let ls := t.launches.map (fun e => if e.2.queue = n then (e.1, { e.2 with cls := max e.2.pkt.cls c }) else e)
      mbDone { t with launches := ls } 0)

/-- MEMWIN (R392, R393). -/
def execMemwin (s : State) : Out :=
  mbCommand s (
    let b := s.mbox.arg0.toNat
    let n := s.mbox.arg1.toNat
    if b % 2 ^ 28 ≠ 0 ∨ n % 2 ^ 28 ≠ 0 ∨ hbmTop < b + n then mbDone s 1
    else mbDone { s with memwin := if n = 0 then none else some (b, n) } 0)

/-- PODKEY (R355, R393). -/
def execPodkey (s : State) : Out :=
  mbCommand s (
    let a := s.mbox.arg0.toNat
    if hostHole s a 32 then mbDone s 3
    else mbDone { s with podSecret := some (BitVec.ofNat 256 (Memory.readNat s.hostMem a 32)) } 0)

/-! ### CXL.mem and reset (R391, R392, R397) -/

/-- One word of a host access: a write of the whole word, or a read with the poison indication of its line (R392). -/
def hostWordAccess (s : State) (a : Nat) (w : Option Word) : State :=
  match w with
  | some v => (s.store a 8 v.toNat).cleanWord a
  | none =>
    let poison := (List.range 8).any (fun i => s.bad.contains (a / 64 * 8 + i))
    { s with hostOut := s.hostOut ++ [.word (wd (s.load a 8)) poison] }

/-- HOST_MEM_ACCESS (R392): words from an 8-byte boundary within the window. -/
def execHostMemAccess (addr : Nat) (data : List (Option Word)) (s : State) : Out :=
  match s.memwin with
  | none => go { s with hostOut := s.hostOut ++ [.unsupported] }
  | some (b, n) =>
    if addr % 8 ≠ 0 ∨ addr < b ∨ b + n < addr + 8 * data.length then go { s with hostOut := s.hostOut ++ [.unsupported] }
    else go ((data.zipIdx).foldl (fun s e => hostWordAccess s (addr + 8 * e.2) e.1) s)

/-- BAR2_WRITE (R391): Unsupported Request, whatever the offset and data. -/
def execBar2Write (_off : BitVec 41) (_v : Word) (s : State) : Out := go { s with hostOut := s.hostOut ++ [.unsupported] }

/-- POWER_UP_RESET (R397): phase 0; what lies outside the module stays: the schedule and host memory. -/
def execPowerUpReset (s : State) : Out :=
  go { State.reset with agenda := s.agenda, hostMem := s.hostMem, hostHoles := s.hostHoles, oscs := s.oscs, freeCtr := s.freeCtr }

/-! ### Token buckets (R193) -/

/-- Tokens at a period boundary for one resource with `nb` tokens: contexts with their share, and whether each was
active. -/
def newTokens (nb : Nat) (cs : List (Nat × Nat × Bool)) : List (Nat × Nat) :=
  let r := fun (c : Nat × Nat × Bool) => nb * c.2.1 / 256
  let act := cs.filter (fun c => c.2.2)
  let idle := cs.filter (fun c => !c.2.2)
  let spare := nb - sumNat (act.map r) - sumNat (idle.map (fun c => min 1 (r c)))
  let sa := sumNat (act.map (fun c => c.2.1))
  let extra := fun (c : Nat × Nat × Bool) => if sa = 0 then 0 else spare * c.2.1 / sa
  let rest := if sa = 0 then 0 else spare - sumNat (act.map extra)
  let top := (leastBy (fun (c : Nat × Nat × Bool) => (256 - c.2.1) * 65536 + c.1) act).map (fun c => c.1)
  cs.map (fun c => (c.1, if c.2.2 then r c + extra c + (if top = some c.1 then rest else 0) else min 1 (r c)))

/-- The target of a hart's next access, where it can issue one. -/
def hartNext (s : State) (n h : Nat) (j : HartJob) : Option Target :=
  let p := advanceAll s n h j
  match j.busy, p.2.todo with
  | false, m :: _ => match hartPlace s p.2 m with | .ok q => some (q.target (m.shape p.2).2.1) | .error _ => none
  | _, _ => none

/-- The target of an epilogue engine's next table read, where it can issue one. -/
def epiNext (s : State) (x : EpiJob) : Option Target :=
  if x.busy ∨ epiSbp x.cmd = 0#64 ∨ 8 ≤ x.tw.length then none
  else
    match checkAddr s x.cmd.ctx Need.load ((ptrAddr (epiSbp x.cmd) + 8 * x.tw.length) % 2 ^ 52) with
    | .ok p => some (p.target 8)
    | .error _ => none

/-- An engine's next access is of the resource and finds no tokens (R193). -/
def shortOf (s : State) (n ctx : Nat) (remote : Bool) (t : Option Target) : Bool :=
  match t with
  | some (.hbm c) => !remote && (charge s n ctx (.hbm c) 8).isNone
  | some (.remote p) => remote && (charge s n ctx (.remote p) 8).isNone
  | _ => false

/-- A request of a context waits at a node's port for tokens (R193): a slot's, one from another module, a hart's or an
epilogue engine's. -/
def waitsAt (s : State) (n ctx : Nat) (remote : Bool) : Bool :=
  s.reqs.any (fun r => decide (r.ctx = ctx) && decide (r.stage = .outbound)
    && (match r.own with | .slot sl _ => decide (nodeOfSlot sl = n) | _ => false)
    && (match r.tgt with | .hbm _ => !remote | .remote _ => remote | _ => false))
  || (!remote && s.reqs.any (fun r => decide (r.ctx = ctx) && decide (r.stage = .port) && decide (r.src % nodeCount = n)))
  || (s.node n).harts.any (fun e => decide (e.2.cmd.ctx = ctx) && shortOf s n ctx remote (hartNext s n e.1 e.2))
  || (tilesOfNode n).any (fun t =>
    match (s.tile t).epi with
    | some x => decide (x.cmd.ctx = ctx) && shortOf s n ctx remote (epiNext s x)
    | none => false)

/-- BUCKET_PERIOD (R193): each bucket of a node is set once a period. -/
def execBucketPeriod (node : Nat) (s : State) : Out :=
  let p := s.cycle / 1024 + 1
  if p ≤ (s.node node).period then go s
  else
    let b := fun c => s.bucket node c
    let hbm := newTokens 36 (s.ctxs.map (fun e => (e.1, e.2.hbmShare, (b e.1).hbmAct || waitsAt s node e.1 false)))
    let fab := newTokens 4 (s.ctxs.map (fun e => (e.1, e.2.fabShare, (b e.1).fabAct || waitsAt s node e.1 true)))
    let buckets := s.ctxs.foldl (fun t e => Tab.put t e.1
      { hbm := Tab.get 0 hbm e.1, fab := Tab.get 0 fab e.1, hbmAct := false, fabAct := false }) ([] : Tab Bucket)
    go (s.updNode node (fun x => { x with period := p, buckets := buckets }))

/-! ### Throttles (R402) -/

/-- The firmware level at a temperature, from the level before. -/
def nextLevel (level temp : Nat) : Nat :=
  if 105 ≤ temp then 6
  else if level = 6 then (if temp ≤ 100 then 2 else 6)
  else if 95 ≤ temp then 2
  else if level = 2 ∧ temp ≤ 90 then 0 else level

/-- THERMAL_THROTTLE (R402): a node at 115 °C loses module power. -/
def execThermalThrottle (node temp : Nat) (s : State) : Out :=
  let t := s.updNode node (fun x => { x with temp := temp, level := nextLevel x.level temp })
  go (if 115 ≤ temp then { t with power := false } else t)

/-- DROOP_THROTTLE (R402): a hold from 2 cycles after detection, for 1,024 cycles, beside those that have not ended. -/
def execDroopThrottle (node : Nat) (s : State) : Out :=
  go (s.updNode node (fun x =>
    { x with droop := x.droop.filter (fun e => decide (s.cycle < e.2)) ++ [(s.cycle + 2, s.cycle + 1026)] }))

/-- DROOP_THROTTLE_END (R402). -/
def execDroopThrottleEnd (node : Nat) (s : State) : Out :=
  go (s.updNode node (fun x => { x with droop := x.droop.filter (fun e => decide (s.cycle < e.2)) }))

/-- THERMAL_SHUTDOWN (R402): the node is at 115 °C, and module power is removed. -/
def execThermalShutdown (node : Nat) (s : State) : Out :=
  go { s.updNode node (fun x => { x with temp := 115 }) with power := false }

end Sys2Proof.Machine
end

