-- ==== Sys2Proof/Machine/Flt.lean ====
section
/-! DEFINITION. The FLT major (R141 to R146) on the FP32 operands of R142. -/

namespace Sys2Proof.Machine

/-- The FP32 pattern of a register (R142). -/
def fp (w : Word) : Nat := w.toNat % 2 ^ 32
/-- The 16-bit pattern of a register (R142). -/
def hp (w : Word) : Nat := w.toNat % 2 ^ 16

/-- A compare that is false on a NaN (R145). -/
def fpRel (p : Ordering → Bool) (a b : Nat) : Bool :=
  !(f32 a).isNan && !(f32 b).isNan && p ((f32 a).cmp (f32 b))

/-- FPABS on a pattern (R144). -/
def fpAbs (p : Nat) : Nat := if (f32 p).isNan then fp32.nanPat else p % 2 ^ 31
/-- FPNEG on a pattern (R144). -/
def fpNeg (p : Nat) : Nat := if (f32 p).isNan then fp32.nanPat else (p + 2 ^ 31) % 2 ^ 32

/-- FPADD (R143). -/
def execFpadd (d a b : Reg) (s : State) : Out :=
  regOp (.fpadd d a b) d (fun x => wd (fadd (fp (x.rg a)) (fp (x.rg b)))) s
/-- FPSUB (R143). -/
def execFpsub (d a b : Reg) (s : State) : Out :=
  regOp (.fpsub d a b) d (fun x => wd (fsub (fp (x.rg a)) (fp (x.rg b)))) s
/-- FPMUL (R143). -/
def execFpmul (d a b : Reg) (s : State) : Out :=
  regOp (.fpmul d a b) d (fun x => wd (fmul (fp (x.rg a)) (fp (x.rg b)))) s
/-- FPDIV (R143). -/
def execFpdiv (d a b : Reg) (s : State) : Out :=
  regOp (.fpdiv d a b) d (fun x => wd (fdiv (fp (x.rg a)) (fp (x.rg b)))) s
/-- FPFMA (R143). -/
def execFpfma (d a b : Reg) (s : State) : Out :=
  regOp (.fpfma d a b) d (fun x => wd (r32 (Fp.sum [(f32 (fp (x.rg a))).mul (f32 (fp (x.rg b))), f32 (fp (x.rg d))]))) s
/-- FPSQRT (R143). -/
def execFpsqrt (d a : Reg) (s : State) : Out := regOp (.fpsqrt d a) d (fun x => wd (Fp.sqrtRound fp32 (f32 (fp (x.rg a))))) s
/-- FPMIN (R144). -/
def execFpmin (d a b : Reg) (s : State) : Out :=
  regOp (.fpmin d a b) d (fun x => wd (fpMinMax fp32 false (fp (x.rg a)) (fp (x.rg b)))) s
/-- FPMAX (R144). -/
def execFpmax (d a b : Reg) (s : State) : Out :=
  regOp (.fpmax d a b) d (fun x => wd (fpMinMax fp32 true (fp (x.rg a)) (fp (x.rg b)))) s
/-- FPABS (R144). -/
def execFpabs (d a : Reg) (s : State) : Out := regOp (.fpabs d a) d (fun x => wd (fpAbs (fp (x.rg a)))) s
/-- FPNEG (R144). -/
def execFpneg (d a : Reg) (s : State) : Out := regOp (.fpneg d a) d (fun x => wd (fpNeg (fp (x.rg a)))) s
/-- FPCMPEQ (R145). -/
def execFpcmpeq (d a b : Reg) (s : State) : Out :=
  regOp (.fpcmpeq d a b) d (fun x => b2w (fpRel (fun o => decide (o = .eq)) (fp (x.rg a)) (fp (x.rg b)))) s
/-- FPCMPLT (R145). -/
def execFpcmplt (d a b : Reg) (s : State) : Out :=
  regOp (.fpcmplt d a b) d (fun x => b2w (fpRel (fun o => decide (o = .lt)) (fp (x.rg a)) (fp (x.rg b)))) s
/-- FPCMPLE (R145). -/
def execFpcmple (d a b : Reg) (s : State) : Out :=
  regOp (.fpcmple d a b) d (fun x => b2w (fpRel (fun o => decide (o ≠ .gt)) (fp (x.rg a)) (fp (x.rg b)))) s
/-- FPTOI (R146). -/
def execFptoi (d a : Reg) (s : State) : Out :=
  regOp (.fptoi d a) d (fun x => wi (Fp.toIntSat false (-(2 ^ 63 : Nat)) ((2 ^ 63 : Nat) - 1) (f32 (fp (x.rg a))))) s
/-- FPTOIZ (R146). -/
def execFptoiz (d a : Reg) (s : State) : Out :=
  regOp (.fptoiz d a) d (fun x => wi (Fp.toIntSat true (-(2 ^ 63 : Nat)) ((2 ^ 63 : Nat) - 1) (f32 (fp (x.rg a))))) s
/-- FPTON (R146). -/
def execFpton (d a : Reg) (s : State) : Out :=
  regOp (.fpton d a) d (fun x => wi (Fp.toIntSat false 0 ((2 ^ 64 : Nat) - 1) (f32 (fp (x.rg a))))) s
/-- ITOFP (R146). -/
def execItofp (d a : Reg) (s : State) : Out :=
  regOp (.itofp d a) d (fun x => wd (r32 (Fp.ofInt (x.rg a).toInt))) s
/-- NTOFP (R146). -/
def execNtofp (d a : Reg) (s : State) : Out :=
  regOp (.ntofp d a) d (fun x => wd (r32 (Fp.ofInt (x.rg a).toNat))) s
/-- FPTOH (R146). -/
def execFptoh (d a : Reg) (s : State) : Out :=
  regOp (.fptoh d a) d (fun x => wd ((f32 (fp (x.rg a))).encode fp16)) s
/-- HTOFP (R146). -/
def execHtofp (d a : Reg) (s : State) : Out :=
  regOp (.htofp d a) d (fun x => wd (r32 (Fp.decode fp16 (hp (x.rg a))))) s
/-- FPTOB (R146). -/
def execFptob (d a : Reg) (s : State) : Out :=
  regOp (.fptob d a) d (fun x => wd ((f32 (fp (x.rg a))).encode bf16)) s
/-- BTOFP (R146). -/
def execBtofp (d a : Reg) (s : State) : Out :=
  regOp (.btofp d a) d (fun x => wd (r32 (Fp.decode bf16 (hp (x.rg a))))) s

end Sys2Proof.Machine
end

