-- ==== Sys2Proof/Machine/Imm.lean ====
section
/-! DEFINITION. The immediate majors (R133 to R136). -/

namespace Sys2Proof.Machine

/-- ADDI (R133). -/
def execAddi (d a : Reg) (i : BitVec 16) (s : State) : Out := regOp (.addi d a i) d (fun x => x.rg a + i.signExtend 64) s
/-- ANDI (R133). -/
def execAndi (d a : Reg) (i : BitVec 16) (s : State) : Out := regOp (.andi d a i) d (fun x => x.rg a &&& i.setWidth 64) s
/-- ORI (R133). -/
def execOri (d a : Reg) (i : BitVec 16) (s : State) : Out := regOp (.ori d a i) d (fun x => x.rg a ||| i.setWidth 64) s
/-- XORI (R133). -/
def execXori (d a : Reg) (i : BitVec 16) (s : State) : Out := regOp (.xori d a i) d (fun x => x.rg a ^^^ i.setWidth 64) s
/-- SHLI (R134). -/
def execShli (d a : Reg) (k : BitVec 6) (s : State) : Out := regOp (.shli d a k) d (fun x => x.rg a <<< k.toNat) s
/-- SHRI (R134). -/
def execShri (d a : Reg) (k : BitVec 6) (s : State) : Out := regOp (.shri d a k) d (fun x => x.rg a >>> k.toNat) s
/-- SHRAI (R134). -/
def execShrai (d a : Reg) (k : BitVec 6) (s : State) : Out := regOp (.shrai d a k) d (fun x => (x.rg a).sshiftRight k.toNat) s
/-- ROTRI (R134). -/
def execRotri (d a : Reg) (k : BitVec 6) (s : State) : Out := regOp (.rotri d a k) d (fun x => rotR (x.rg a) k.toNat) s
/-- CMPEQI (R135). -/
def execCmpeqi (d a : Reg) (i : BitVec 13) (s : State) : Out :=
  regOp (.cmpeqi d a i) d (fun x => b2w (decide (x.rg a = i.signExtend 64))) s
/-- CMPNEI (R135). -/
def execCmpnei (d a : Reg) (i : BitVec 13) (s : State) : Out :=
  regOp (.cmpnei d a i) d (fun x => b2w (decide (x.rg a ≠ i.signExtend 64))) s
/-- CMPLTI (R135). -/
def execCmplti (d a : Reg) (i : BitVec 13) (s : State) : Out :=
  regOp (.cmplti d a i) d (fun x => b2w ((x.rg a).slt (i.signExtend 64))) s
/-- CMPGEI (R135). -/
def execCmpgei (d a : Reg) (i : BitVec 13) (s : State) : Out :=
  regOp (.cmpgei d a i) d (fun x => b2w ((BitVec.signExtend 64 i).sle (x.rg a))) s
/-- CMPLTNI (R135). -/
def execCmpltni (d a : Reg) (i : BitVec 13) (s : State) : Out :=
  regOp (.cmpltni d a i) d (fun x => b2w ((x.rg a).ult (i.setWidth 64))) s
/-- CMPGENI (R135). -/
def execCmpgeni (d a : Reg) (i : BitVec 13) (s : State) : Out :=
  regOp (.cmpgeni d a i) d (fun x => b2w ((BitVec.setWidth 64 i).ule (x.rg a))) s
/-- LDI (R136). -/
def execLdi (d : Reg) (i : BitVec 16) (s : State) : Out := regOp (.ldi d i) d (fun _ => i.signExtend 64) s
/-- LDIH (R136). -/
def execLdih (d a : Reg) (i : BitVec 16) (s : State) : Out :=
  regOp (.ldih d a i) d (fun x => (x.rg a <<< 16) ||| i.setWidth 64) s

end Sys2Proof.Machine
end

