-- ==== Sys2Proof/Machine/Plan.lean ====
section
/-! DEFINITION. What a step comes to: the schedule, a turn, a cycle that passes (log entry 3), and the placing of one
instruction (log entry 7). -/

namespace Sys2Proof.Machine

/-! ### What the next step does (log entry 3) -/

/-- A word, or an event that only a turn or a result that is due brings about: the schedule does not start it. -/
def runsInTurn (i : Instr) : Bool :=
  match i with
  | .wastedTurn _ => true
  | .targetFaultTrap _ => true
  | .save _ => true
  | .functionResult _ => true
  | .meanResult _ => true
  | i => i.isWord

/-- A cycle passes (R386), at every tile as well (R265, R402). -/
def passCycle (s : State) : State :=
  let t := (s.tiles.map (fun e => e.1)).foldl tickBurin s
  { t with cycle := s.cycle + 1 }

/-- What the next step comes to. -/
inductive Plan where
  /-- power has been removed (R402) -/
  | down
  /-- the step ends in this state -/
  | stay (s : State)
  /-- the meaning of `i` on this state -/
  | run (i : Instr) (s : State)

/-- The step of a turn. -/
def turnPlan (s : State) (sl : Nat) : Plan :=
  if offered s sl then
    let t := beginTurn s sl
    match turnAct t sl with
    | .run i => .run i t
    | .trap c a f => .stay (takeTrap t sl c a f (t.slot sl).pc)
  else .stay s

/-- The next step: a due pipeline result first, then the head of the schedule; an empty schedule lets a cycle pass. -/
def plan (s : State) : Plan :=
  match s.power, s.agenda with
  | false, .event .powerUpReset :: rest => .run .powerUpReset { s with agenda := rest }
  | false, _ => .down
  | true, agenda =>
    match dueResult s with
    | some i => .run i s
    | none =>
      match agenda with
      | [] => .stay (passCycle s)
      | .event i :: rest => if runsInTurn i then .stay { s with agenda := rest } else .run i { s with agenda := rest }
      | .turn sl :: rest => turnPlan { s with agenda := rest } sl

/-- A meaning's outcome with CHANGES noted (R404). -/
def noted (before : State) : Out → Out
  | .next t => .next (noteChanges before t)
  | .fault f => .fault f
  | .refused r => .refused r

/-! ### Placing one instruction (log entry 7) -/

/-- The slot that a placed instruction runs in: slot `cycle mod 8` of core 0, whose turn this cycle is. -/
def placeSlot (s : State) : Nat := s.cycle % 8

/-- The PC at which a placed instruction lies: the slot's own, where it is a word of a bank. -/
def placePc (x : Slot) : Nat := if x.pc % 4 = 0 ∧ x.pc < 16384 then x.pc else 0

/-- The slot made ready to fetch a placed instruction. -/
def placeReady (s : State) (x : Slot) : Slot :=
  { x with st := .running, reason := .none, turnAt := s.cycle, pc := placePc x, n := max x.n (placePc x / 4 + 1),
           tfault := none, replay := none, pre := none, drain := false, ending := none }

/-- Stores the word `w` where the next step fetches, and schedules that turn. -/
def placeWord (s : State) (w : BitVec 32) : State :=
  let sl := placeSlot s
  let y := placeReady s (s.slot sl)
  let a := fetchAddr y sl
  let s := (s.setSlot sl y).updNode (nodeOfSlot sl) (fun n => { n with level := 0, droop := [] })
  { s with mem := Memory.writeNat s.mem a 4 w.toNat, bad := s.bad.filter (fun i => decide (i ≠ a / 8)),
           pipe := s.pipe.filter (fun p => decide (s.cycle < p.due)), agenda := [.turn sl], power := true }

end Sys2Proof.Machine
end

