-- ==== Sys2Proof/Machine/Pod.lean ====
section
/-! DEFINITION. Packets of the pod fabric at one member (R335, R336, R342 to R352): timeouts, containment of a lost member,
packets that arrive, joins and keys. -/

namespace Sys2Proof.Machine

/-! ### Containment (R346 to R350, R352) -/

/-- The packet of a request has not been put on a live link (R349). -/
def unsent (s : State) (r : Req) : Bool :=
  decide (r.stage = .outbound) || s.pod.out.any (fun o => decide (o.req = some r.id))

/-- The access reads and writes nothing. -/
def MemOp.isRead : MemOp → Bool
  | .load _ _ => true
  | .peek _ => true
  | .loadV => true
  | .wstate => true
  | _ => false
/-- An atomic. -/
def MemOp.isAmo : MemOp → Bool
  | .amo _ _ _ _ => true
  | _ => false

/-- The cause that ends an access without item at a declaration (R349). -/
def lossCause (s : State) (r : Req) : BitVec 8 :=
  let hart := match r.own with | .hart _ _ => true | _ => false
  if r.op.isRead then causePEERLOST
  else if r.op.isAmo then (if unsent s r then causePEERLOST else causeINDET)
  else if hart then causeINDET else causePEERLOST

/-- The code that an item's perform fails with at a declaration (R349). -/
def lossCode (s : State) (r : Req) : BitVec 8 :=
  if r.op.isLanding then landPeerlost
  else if r.op.isAmo && !unsent s r then failCode causeINDET else failCode causePEERLOST

/-- One request toward a lost member ends (R349). -/
def endRequest (s : State) (r : Req) : State :=
  if r.item.isSome then
    let t := (s.settleItem r.own r.item (lossCode s r)).dropReq r.id
    match r.own with
    | .slot sl _ => releaseAcc t sl r.acc
    | _ => t
  else s.stageReq r.id (.replied 0#256 (some (r.faultInfo (lossCause s r) 1)))

/-- A slot knows the outcome of every item it sent to a lost member; summaries asked of it are answered (R349). -/
def Slot.learnLoss (e : Nat) (x : Slot) : Slot :=
  let mine := fun (i : Item) => decide (i.peer = some (.module e))
  { x with items := mapIf mine (fun i => { i with known := true, left := 0, hint := false }) x.items,
           asked := x.asked.filter (fun a => decide (a.peer ≠ .module e)) }

/-- The table of R349 for member `e`. -/
def endPeer (s : State) (e : Nat) : State :=
  let mine := s.reqs.filter (fun r => decide (r.tgt = .remote e) && !r.stage.isReplied)
  let s := mine.foldl endRequest s
  let s : State := { s with slots := s.slots.map (fun (x : Nat × Slot) => (x.1, x.2.learnLoss e)) }
  let bound := fun (o : Packet) => decide (o.hdr.dst.toNat = e)
  let dropped := s.pod.relay.filter bound
  let t := { s with pod := { s.pod with out := s.pod.out.filter (fun o => !bound o), relay := s.pod.relay.filter (fun o => !bound o) } }
  dropped.foldl (fun t o => sendPod t o.hdr.src.toNat none 3 none (.dropRefusal e o.hdr.seq) none) t

/-- Wait-list entries of the member's requests are removed without a reply (R350). -/
def dropWaiting (s : State) (e : Nat) : State :=
  s.reqs.foldl (fun s r =>
    match r.own, r.stage with
    | .remote pos _ _ _, .waiting c => if pos = e then (leaveList s c r.id).dropReq r.id else s
    | _, _ => s) s

/-- What the module keeps for a member is forgotten: its items, its summary requests, its hints, what it has to receipt
(R350). -/
def forgetPeer (s : State) (e : Nat) : State :=
  let hints := s.hints.filter (fun h => match h.own with | .remote pos _ _ _ => decide (pos ≠ e) | _ => true)
  { s with
      hints := hints,
      pod := { s.pod with
                 items := s.pod.items.filter (fun i => decide (i.pos ≠ e)),
                 asks := s.pod.asks.filter (fun a => decide (a.pos ≠ e)),
                 unreceipted := s.pod.unreceipted.filter (fun u => decide (u.dst ≠ e)),
                 out := s.pod.out.filter (fun o => decide (o.hdr.dst.toNat ≠ e)) } }

/-- The members that are told of a lost one (R348). -/
def othersThan (s : State) (e : Nat) : List Nat :=
  (s.pod.joins.map (fun (x : Nat × Join) => x.1)).filter (fun n =>
    decide (n ≠ e) && decide (s.pod.pos ≠ some n) && !s.pod.lost.contains n)

/-- The declaration step (R348 to R350); a loss notice goes to every other member. -/
def declareLost (s : State) (e : Nat) : State :=
  let t := forgetPeer (dropWaiting (endPeer s e) e) e
  let t := { t with pod := { t.pod with lost := insertNat t.pod.lost e } }
  ((othersThan s e).foldl (fun t n => sendPod t n none 3 none (.lossNotice e) none) t).setFails e 0

/-- A member, other than this module, that is not yet declared lost. -/
def canLose (s : State) (e : Nat) : Bool := isMember s e && decide (s.pod.pos ≠ some e) && !s.pod.lost.contains e

/-- PEER_LOST_DECLARE (R348, R349): after three failed presence windows in a row. -/
def execPeerLostDeclare (pos : BitVec 10) (s : State) : Out :=
  if canLose s pos.toNat && decide (3 ≤ Tab.get 0 s.pod.fails pos.toNat) then go (declareLost s pos.toNat) else go s

/-- The first control message with a body leaves the inbox; none where there is none. -/
def fromInbox (s : State) (b : PodBody) : Option State :=
  if s.pod.inbox.any (fun m => decide (m.2 = b)) then
    some { s with pod := { s.pod with inbox := eraseFirst (fun m => decide (m.2 = b)) s.pod.inbox } }
  else none

/-- LOSS_NOTICE (R348): a notice that has arrived. -/
def execLossNotice (pos : BitVec 10) (s : State) : Out :=
  match fromInbox s (.lossNotice pos.toNat) with
  | none => go s
  | some t => if canLose t pos.toNat then go (declareLost t pos.toNat) else go t

/-- RELAY_DROP_REFUSAL (R349): a refusal that has arrived, named by SEQ × 1024 + target; the originator applies the table. -/
def execRelayDropRefusal (id : Nat) (s : State) : Out :=
  let e := id % 1024
  match fromInbox s (.dropRefusal e (BitVec.ofNat 32 (id / 1024))) with
  | none => go s
  | some s =>
    let mine := fun (u : Unreceipted) => decide (u.dst = e) && decide (u.seq.toNat = id / 1024)
    if s.pod.unreceipted.any mine then
      let t := endPeer s e
      go { t with pod := { t.pod with unreceipted := t.pod.unreceipted.filter (fun u => !mine u) } }
    else go s

/-- REMOTE_REPLY_TIMEOUT (R346, R352): a read ends PEERLOST, a write or an atomic INDET. -/
def execRemoteReplyTimeout (id : Nat) (s : State) : Out :=
  match s.req? id with
  | none => go s
  | some r =>
    match r.stage with
    | .sent at_ =>
      if r.item.isSome ∨ s.cycle < at_ + msCycles then go s
      else
        let c := if r.op.isRead then causePEERLOST else causeINDET
        go (s.stageReq id (.replied 0#256 (some (r.faultInfo c 2))))
    | _ => go s

/-- 100 µs in cycles (R346). -/
def noticeCycles : Nat := 175000

/-- WAITING_NOTICE (R346): a request of another module waits in a wait list here; a notice goes every 100 µs. -/
def execWaitingNotice (id : Nat) (s : State) : Out :=
  match s.req? id with
  | none => go s
  | some r =>
    match r.own with
    | .remote pos rid _ _ =>
      if r.stage.isWaiting && r.item.isNone && decide (r.noticeAt ≤ s.cycle) then
        let t := s.updReq id (fun q => { q with noticeAt := s.cycle + noticeCycles })
        go (sendPod t pos (some (pctxOf s r.ctx)) 3 none (.waiting rid) none)
      else go s
    | _ => go s

/-- A new item of another module, of which a first perform arrives. -/
def newPeerItem (pos sl tag seq batch parts : Nat) : PeerItem :=
  { pos := pos, sl := sl, tag := tag, seq := seq, batch := batch, left := parts, due := parts - 1, code := 0#8, fault := none,
    gone := false, hint := false }

/-- A listed item of which performs have not arrived is recorded as failed (R347); a fault that a perform has met stands. -/
def PeerItem.lose (i : PeerItem) : PeerItem :=
  { i with left := 0, due := 0, code := if i.fault.isSome then i.code else failCode causePEERLOST, gone := true }

/-- SUMMARY_PEER_TIMEOUT (R347): listed items that have not arrived within 1 ms are recorded as failed. -/
def execSummaryPeerTimeout (id : Nat) (s : State) : Out :=
  match s.pod.asks.find? (fun a => decide (a.id = id)) with
  | none => go s
  | some a =>
    if s.cycle < a.since + msCycles then go s
    else
      let known := fun (n : Nat) => s.pod.items.any (PeerItem.is a.pos a.sl a.tag.toNat n a.batch)
      let items := mapIf (fun i => a.lists i && decide (0 < i.due)) PeerItem.lose s.pod.items
      let fresh := (a.items.filter (fun n => !known n)).map (fun n => (newPeerItem a.pos a.sl a.tag.toNat n a.batch 1).lose)
      go { s with pod := { s.pod with items := items ++ fresh } }

/-- SUMMARY_RESEND (R347): the same request again. -/
def execSummaryResend (sl : Nat) (tag : BitVec 2) (peer : Peer) (s : State) : Out :=
  let p := Ask.is tag peer (Asked.postedSince s.cycle msCycles)
  match peer, (s.slot sl).asked.find? p with
  | .module pos, some a => go ((postSummary s sl a pos a.batch a.items).updSlot sl (fun x => x.stepAsk p (.posted s.cycle)))
  | _, _ => go s

/-! ### Packets that arrive (R182, R342 to R344) -/

/-- A sequence number is newer than another, mod 2^32 (R344). -/
def seqNewer (a b : BitVec 32) : Bool := decide (1 ≤ (a - b).toNat) && decide ((a - b).toNat < 2 ^ 31)

/-- What R344 decides on a SEQ: the new window where it is accepted; otherwise whether it lies outside the window. -/
def judge (w : RxWin) (q : BitVec 32) : Except Bool RxWin :=
  match w.high with
  | none => .ok { high := some q, seen := 1#4096 }
  | some h =>
    let back := (h - q).toNat
    if seqNewer q h then .ok { high := some q, seen := (w.seen <<< (q - h).toNat) ||| 1#4096 }
    else if back < 4096 then
      if w.seen.getLsbD back then .error false else .ok { w with seen := w.seen ||| (1#4096 <<< back) }
    else .error true

/-- The operation that a packet asks for. -/
def memOpOf : PodOp → MemOp
  | .load n sync => .load n sync
  | .store n sync v => .store n sync v
  | .loadV => .loadV
  | .storeV v => .storeV v
  | .wstate => .wstate
  | .wset v => .wset v
  | .join => .join
  | .amo op b b2 d => .amo op b b2 d
  | .peek n => .peek n
  | .hput n sf v => .hput n sf v
  | .mark n => .mark n
  | .fillw v st => .fillw v st

/-- What the target's check asks of an operation's address (R182). -/
def MemOp.need : MemOp → Need
  | .load _ sync => { Need.load with sync := decide (sync ≠ 0#2) }
  | .store _ sync _ => { Need.store with sync := decide (sync ≠ 0#2) }
  | .storeV _ => Need.store
  | .wset _ => { Need.store with sync := true }
  | .join => { Need.both with sync := true }
  | .amo _ _ _ _ => Need.atomic
  | .peek _ => Need.load.byHart
  | .hput _ sf _ => { Need.store.byHart with sync := sf }
  | .mark _ => Need.store.byHart
  | .fillw _ _ => Need.store.byHart
  | _ => Need.load

/-- One perform of an item arrives (R347): none where the item has been recorded as missing. -/
def itemArrives (s : State) (pos sl tag seq parts batch : Nat) : Option State :=
  let p := PeerItem.is pos sl tag seq batch
  let put := fun (l : List PeerItem) => some { s with pod := { s.pod with items := l } }
  match s.pod.items.find? p with
  | none => put (s.pod.items ++ [newPeerItem pos sl tag seq batch parts])
  | some i => if i.gone then none else put (mapIf p (fun j => { j with due := j.due - 1 }) s.pod.items)

/-- A request of another module, a landing among them (R204), comes to the port where it enters the mesh (R193, R342, R343). -/
def enterMesh (s : State) (own : Owner) (ctx : Nat) (op : MemOp) (ea : Word) (loc : Nat) (tgt : Target)
    (item : Option (Nat × Nat)) (part limit : Nat) : State :=
  let n := Config.entryNode s.freeCtr % nodeCount
  let r : Req :=
    { id := s.nextId, stamp := s.nextId, own := own, ctx := ctx, src := entryPath n ctx, op := op, ea := ea, loc := loc,
      tgt := tgt, relaxed := false, rl := false, item := item, acc := s.nextId, part := part, info := 0#64, limit := limit,
      misses := 0, stage := .port }
  { s with reqs := s.reqs ++ [r], nextId := s.nextId + 1, freeCtr := s.freeCtr + 1 }

/-- An access without item arrives (R182, R197). -/
def accessArrives (s : State) (h : PodHeader) (rid limit : Nat) (op : MemOp) (a : Nat) : State :=
  match inboundCheck s h.pctx.toNat op.need a with
  | some (ctx, loc) =>
    enterMesh s (.remote h.src.toNat rid 0 0) ctx op (wd a) loc (targetOf loc op.size) none rid limit
  | none => sendPod s h.src.toNat (some h.pctx.toNat) 1 (some h.cls.toNat) (.reply rid 0#256 (some (causeACCESS.toNat, 9))) none

/-- A perform of a relaxed store or atomic item arrives: `i` holds slot, tag, number, count of performs and batch. -/
def itemAccessArrives (s : State) (h : PodHeader) (rid limit : Nat) (i : Nat × Nat × Nat × Nat × Nat) (op : MemOp) (a : Nat) :
    State :=
  match itemArrives s h.src.toNat i.1 i.2.1 i.2.2.1 i.2.2.2.1 i.2.2.2.2 with
  | none => s
  | some t =>
    let own := Owner.remote h.src.toNat i.1 0 i.2.2.2.2
    let item := some (i.2.1, i.2.2.1)
    match inboundCheck t h.pctx.toNat op.need a with
    | some (ctx, loc) => enterMesh t own ctx op (wd a) loc (targetOf loc op.size) item rid limit
    | none => (notePeerFault t own item rid causeACCESS 9).settleItem own item (failCode causeACCESS)

/-- Number of the context with a pod context number, 0 where none has it. -/
def ctxOfPctx (s : State) (p : Nat) : Nat :=
  match s.ctxs.find? (fun e => decide (e.2.pctx = p)) with
  | some e => e.1
  | none => 0

/-- A landing arrives (R118, R121). -/
def landingArrives (s : State) (h : PodHeader) (sl gen tag seq batch : Nat) (a v : Word) (direct : Option Nat) : State :=
  match itemArrives s h.src.toNat sl tag seq 1 batch with
  | none => s
  | some t =>
    enterMesh t (.remote h.src.toNat sl gen batch) (ctxOfPctx s h.pctx.toNat) (.landing v direct false) a 0
      (.landing (direct.getD (homeCore a))) (some (tag, seq)) 0 0

/-- A reply arrives (R202); a late one finds no request and is discarded (R346). -/
def replyArrives (s : State) (pos rid : Nat) (v : Vec) (f : Option (Nat × Nat)) : State :=
  match s.req? rid with
  | none => s
  | some r =>
    if decide (r.tgt = .remote pos) && r.stage.isSent && r.item.isNone then
      s.stageReq rid (.replied v (f.map (fun f => r.faultInfo (BitVec.ofNat 8 f.1) f.2)))
    else s

/-- A waiting notice restarts the timer (R346), and tells that the access stands in a wait list (R164). -/
def noticeArrives (s : State) (pos rid : Nat) : State :=
  s.updReq rid (fun r =>
    if decide (r.tgt = .remote pos) && r.stage.isSent then { r with stage := .sent s.cycle, listed := true } else r)

/-- A summary request arrives (R347); a repeated one is answered with the same summary, since the items of a batch keep their
outcomes here (log entry 71). -/
def requestArrives (s : State) (pos sl : Nat) (tag : BitVec 2) (batch : Nat) (items : List Nat) : State :=
  let again := s.pod.asks.any (fun a => decide (a.pos = pos) && decide (a.sl = sl) && decide (a.tag = tag) && decide (a.batch = batch)
    && decide (a.items = items))
  let a : PeerAsk := { id := s.nextId, pos := pos, sl := sl, tag := tag, batch := batch, items := items, since := s.cycle }
  { s with nextId := s.nextId + 1, pod := { s.pod with asks := if again then s.pod.asks else s.pod.asks ++ [a] } }

/-- The item is a landing: one of its requests is. -/
def itemLands (s : State) (sl : Nat) (i : Item) : Bool :=
  s.reqs.any (fun r => r.ofSlot sl && decide (r.item = some (i.tag, i.seq)) && r.op.isLanding)

/-- An item's code as the summary reports it (R185, R347). -/
def reportedCode (s : State) (sl : Nat) (fails : List (Nat × Nat × Option (Nat × Nat))) (i : Item) : BitVec 8 :=
  match fails.find? (fun f => decide (f.1 = i.seq)) with
  | none => 0#8
  | some f =>
    let c := BitVec.ofNat 8 f.2.1
    if decide (c = failCode causePEERLOST) && itemLands s sl i then landPeerlost else c

/-- The target faults that a summary tells of go to the deferred-fault record (R161). -/
def reportedFaults (s : State) (sl : Nat) (fails : List (Nat × Nat × Option (Nat × Nat))) : State :=
  fails.foldl (fun s f =>
    match f.2.2 with
    | none => s
    | some (rid, reason) =>
      match s.req? rid with
      | none => s
      | some r =>
        if r.own = .slot sl (s.slot sl).th ∧ r.item.isSome ∧ (s.slot sl).ending.isNone then
          s.updSlot sl (fun x => x.defer (r.faultInfo (BitVec.ofNat 8 f.2.1 - 0x80#8) reason))
        else s) s

/-- A summary arrives from another module: the outcomes of the items of a batch that it names, for the ask that listed them (R185,
R347). -/
def summaryArrives (s : State) (pos sl : Nat) (tag : BitVec 2) (batch : Nat) (items : List Nat)
    (fails : List (Nat × Nat × Option (Nat × Nat))) : State :=
  let p := fun (a : Ask) => Ask.is tag (.module pos) (Asked.postedSince s.cycle 0) a && decide (a.items = items) && decide (a.batch = batch)
  match (s.slot sl).asked.find? p with
  | none => s
  | some a =>
    let code := reportedCode s sl fails
    let t := reportedFaults s sl fails
    let covered := fun (i : Item) => a.covers i && !i.known && items.contains i.seq
    let gone := fun (r : Req) => r.ofSlot sl && r.stage.isSent
      && (match r.item with
          | some (g, q) => (s.slot sl).items.any (fun i => covered i && decide (i.tag = g) && decide (i.seq = q))
          | none => false)
    let t := { t with reqs := t.reqs.filter (fun r => !gone r) }
    t.updSlot sl (fun x =>
      let y := x.stepAsk p .answered
      { y with items := mapIf covered (fun i => { i with left := 0, code := code i }) y.items })

/-- A forwarding hint or an invalidation arrives for a slot here (R120, R406). -/
def hintArrives (s : State) (pos id sl gen : Nat) (h : BitVec 45) (core : Option Nat) : State :=
  let t := if (s.slot sl).th.gen.toNat = gen then s.updSlot sl (fun x => x.installRoute h core) else s
  if core.isSome then sendPod t pos none 3 none (.hintAck id) none else t

/-- The acknowledgement of a hint (R406). -/
def hintAckArrives (s : State) (pos id : Nat) : State :=
  match s.hints.find? (fun h => decide (h.id = id) && (match h.own with | .remote q _ _ _ => decide (q = pos) | _ => false)) with
  | none => s
  | some h => markHint { s with hints := s.hints.filter (fun k => decide (k.id ≠ id)) } h.own h.item false

/-- What an accepted packet does (R342). -/
def deliverPacket (s : State) (h : PodHeader) (b : PodBody) : State :=
  let pos := h.src.toNat
  match b with
  | .access rid none limit op a => accessArrives s h rid limit (memOpOf op) a
  | .access rid (some i) limit op a => itemAccessArrives s h rid limit i (memOpOf op) a
  | .landing sl gen tag item batch a v direct => landingArrives s h sl gen tag item batch a v direct
  | .hint id sl gen handle core => hintArrives s pos id sl gen handle core
  | .hintAck id => hintAckArrives s pos id
  | .reply rid v f => replyArrives s pos rid v f
  | .summaryRequest sl tag batch items => requestArrives s pos sl tag batch items
  | .summary sl tag batch items fails => summaryArrives s pos sl tag batch items fails
  | .waiting rid => noticeArrives s pos rid
  | .presence => s.setFails pos 0
  | .offerRefusal _ _ => s
  | b => { s with pod := { s.pod with inbox := s.pod.inbox ++ [(pos, b)] } }

/-- The target returns a receipt of a SEQ that it accepts (R344); a receipt has none itself (log entry 66). -/
def returnReceipt (s : State) (h : PodHeader) (b : PodBody) : State :=
  match b with
  | .receipt _ => s
  | _ => sendPod s h.src.toNat none 3 none (.receipt h.seq) none

/-- A whole packet for this module, at port `p` (R342 to R345, R350): it is discarded by its CRC, source, epoch or SEQ, or
accepted, receipted and performed. -/
def receivePacket (s : State) (p : Nat) (h : PodHeader) (b : PodBody) : State :=
  let src := h.src.toNat
  if !crcRight h then countDrop s p
  else
    match Tab.look s.pod.joins src with
    | none => s
    | some j =>
      if s.pod.lost.contains src ∨ j.epoch ≠ h.epoch then s
      else
        match judge (Tab.get { high := none, seen := 0#4096 } s.pod.rx src) h.seq with
        | .error outside => if outside then countDrop s p else s
        | .ok w => deliverPacket (returnReceipt { s with pod := { s.pod with rx := Tab.put s.pod.rx src w } } h b) h b

/-- POD_PACKET_ARRIVE (R343): a packet whose flits a port has accepted whole. -/
def execPodPacketArrive (hdr : PodHeader) (body : PodBody) (s : State) : Out :=
  if s.pod.pos ≠ some hdr.dst.toNat ∨ hdr.src = hdr.dst then go s
  else
    match takePacket s hdr body with
    | none => go s
    | some (p, t) => go (receivePacket t p hdr body)

/-- POD_RECEIPT (R344): a receipt that has arrived. -/
def execPodReceipt (dst : BitVec 10) (seq : BitVec 32) (s : State) : Out :=
  let it := (dst.toNat, PodBody.receipt seq)
  if s.pod.inbox.contains it then
    let left := s.pod.unreceipted.filter (fun u => !(decide (u.dst = dst.toNat) && decide (u.seq = seq)))
    go { s with pod := { s.pod with inbox := eraseFirst (fun m => decide (m = it)) s.pod.inbox, unreceipted := left } }
  else go s

/-! ### Joins and keys (R335, R336, R351, R353, R355 to R357) -/

/-- The capability word of a DGK-650 (R336, R386). -/
def ownCap : Word := Config.revn <<< 48 ||| 0x3FFF#64

/-- This module joins at a position with an epoch (R335, R336, R357). -/
def joinPod (s : State) (pos : Nat) (epoch : BitVec 8) (tests : List PortTest) : State :=
  { s with pod := { Pod.reset with pos := some pos, joins := [(pos, { epoch := epoch, cap := ownCap })], ports := portsUp tests } }

/-- Key states at a join: rotation 0 and counter 0 under the present secret, or none without a secret (R353, R355). -/
def freshKeys (s : State) (e : Nat) : Tab Key :=
  match s.podSecret with
  | some x =>
    let k : Key := { rot := 0, secret := x, ctr := 0, last := none, exhausted := none }
    Tab.put (Tab.put s.pod.keys (keyNo e false) k) (keyNo e true) k
  | none => Tab.drop (Tab.drop s.pod.keys (keyNo e false)) (keyNo e true)

/-- Another member joins, or its record is exchanged at this module's own join (R336, R344, R351). -/
def memberJoins (s : State) (d e : Nat) (j : Join) : State :=
  let t := forgetPeer s e
  let pod := { t.pod with joins := Tab.put t.pod.joins e j, lost := t.pod.lost.filter (fun x => decide (x ≠ e)),
                          rx := Tab.drop t.pod.rx e, keys := freshKeys t e }
  ({ t with pod := pod }.updPort (portOf d e) (fun x => { x with down := x.down.filter (fun y => decide (y ≠ e)) })).setFails
    e 0

/-- POD_JOIN (R336): this module's own join, when it has no position; otherwise the join record of another member, whose
epoch is one above the last record of that position. The capability word of this module is its own. -/
def execPodJoin (pos : BitVec 10) (epoch : BitVec 8) (cap : Word) (ports : List PortTest) (s : State) : Out :=
  let j : Join := { epoch := epoch, cap := cap }
  match s.pod.pos with
  | none => if s.mbox.phase = 6 then go (joinPod s pos.toNat epoch ports) else go s
  | some d =>
    let fresh := match Tab.look s.pod.joins pos.toNat with | some o => decide (epoch = o.epoch + 1#8) | none => true
    if pos.toNat ≠ d ∧ fresh = true then go (memberJoins s d pos.toNat j) else go s

/-- The key state that sends on a port to a partner of that port. -/
def portKey (s : State) (port : BitVec 6) (partner : BitVec 10) : Option Key :=
  match s.pod.pos with
  | none => none
  | some d => if portOf d partner.toNat = port.toNat then s.key? partner.toNat false else none

/-- KEY_ROTATE (R353, R356): a counter above 2^63, or a stopped key state, gets the next key, and the pair's port is
up. -/
def execKeyRotate (port : BitVec 6) (partner : BitVec 10) (s : State) : Out :=
  match portKey s port partner with
  | none => go s
  | some k =>
    if 2 ^ 63 < k.ctr ∨ k.exhausted.isSome then
      let t := s.setKey partner.toNat false { k with rot := k.rot + 1, ctr := 0, exhausted := none }
      let t := { t with pod := { t.pod with keyexh := t.pod.keyexh.filter (fun x => decide (x.2 ≠ partner.toNat)) } }
      go (t.updPort port.toNat (fun x => { x with down := x.down.filter (fun y => decide (y ≠ partner.toNat)) }))
    else go s

/-- KEY_TIMEOUT (R356): no key within 1 ms; the port is down for the pair. -/
def execKeyTimeout (port : BitVec 6) (partner : BitVec 10) (s : State) : Out :=
  match portKey s port partner with
  | none => go s
  | some k =>
    match k.exhausted with
    | some t =>
      if s.cycle < t + msCycles then go s
      else go (s.updPort port.toNat (fun x => { x with down := insertNat x.down partner.toNat }))
    | none => go s

end Sys2Proof.Machine
end

