-- ==== Sys2Proof/Machine/Pool.lean ====
section
/-! DEFINITION. The Scarab pool: queues, packets, placement, code delivery and seeding (R85 to R87, R94, R332, R333, R358
to R372). -/

namespace Sys2Proof.Machine

/-! ### Placement (R86, R87, R332, R333, R368, R369) -/

/-- Enabled slots of a core (R79). -/
def enabledSlots (s : State) (c : Nat) : Nat := ((slotsOfCore c).filter (fun i => decide ((s.slot i).st ≠ .disabled))).length
/-- The cores of a node that can take a quota (R87). -/
def ableCores (s : State) (n q : Nat) : List Nat := (coresOfNode n).filter (fun c => decide (q ≤ enabledSlots s c))

/-- A share about to be placed. -/
def newShare (core slots ord : Nat) (items : List (BitVec 32)) : Share :=
  { core := core, slots := slots, ord := ord, items := items, owns := false, seeded := false }

/-- A node's part with its shares; one without shares is complete at once (R86). -/
def newPart (node : Nat) (shares : List Share) (pins : List Nat) : Part :=
  { node := node, word := 0#64, acked := false, complete := shares.isEmpty, sent := false, shares := shares, pins := pins }

/-- How many slots the cores receive, in order: each the quota, or under SEEDW no more than are left (R86). -/
def slotCounts (quota : Nat) : Option Nat → List Nat → List (Nat × Nat)
  | _, [] => []
  | none, c :: rest => (c, quota) :: slotCounts quota none rest
  | some left, c :: rest =>
    if left = 0 then [] else (c, min quota left) :: slotCounts quota (some (left - min quota left)) rest

/-- Shares from cores with their slot counts, and items (R85, R368): ordinals run over the slots in order. -/
def makeShares (items : Nat → Nat → List (BitVec 32)) : Nat → Nat → List (Nat × Nat) → List Share
  | _, _, [] => []
  | i, ord, (c, n) :: rest => newShare c n ord (items i c) :: makeShares items (i + 1) (ord + n) rest

/-- The parts of nodes in placement order. -/
def partsOfShares (nodes : List Nat) (shares : List Share) (pins : Nat → List Nat) : List Part :=
  nodes.map (fun n => newPart n (shares.filter (fun h => decide (nodeOfCore h.core = n))) (pins n))

/-- Why a layout fails: fault class QUOTA, or more than 256 items on a core. -/
inductive NoLayout where | quota | items
  deriving DecidableEq, Repr

/-- The items that R368 deals to placed core `i` of `c`. -/
def dealt (work c i : Nat) : List Nat := (List.range ((work + c - 1 - i) / c)).map (fun j => i + c * j)

/-- The cores of a node that can take the quota, each with its items, `k` being the node's place in the placement (R87, mode 1):
its own of R368, and its part of those of the cores that R87 excludes, dealt round robin in order of item (log entry 104). -/
def nodeItems (work count k : Nat) (able : List Nat) : List (Nat × List Nat) :=
  let own := fun (c : Nat) => dealt work (64 * count) (64 * k + c % 64)
  let left := (List.range 64).filter (fun i => !able.any (fun c => decide (c % 64 = i)))
  let spare := ((left.flatMap own).foldl insertNat []).zipIdx
  able.zipIdx.map (fun e =>
    (e.1, ((spare.filter (fun f => decide (f.2 % able.length = e.2))).map (fun f => f.1)).foldl insertNat (own e.1)))

/-- Placement of modes 0 and 1 on chosen nodes (R86, R87, R368). -/
def layoutNodes (s : State) (p : LaunchPkt) (nodes : List Nat) : Except NoLayout (List Part) :=
  if nodes.any (fun n => (ableCores s n p.quota).isEmpty) then .error .quota
  else
    let counts := slotCounts p.quota (if p.seedw then some p.work else none) (nodes.flatMap (fun n => ableCores s n p.quota))
    let c := counts.length
    let shared := nodes.zipIdx.flatMap (fun e => nodeItems p.work nodes.length e.2 (ableCores s e.1 p.quota))
    let list := fun i core => if p.mode = 1 ∧ p.seedw = false then Tab.get [] shared core else dealt p.work c i
    if decide (256 * c < p.work) || counts.zipIdx.any (fun e => decide (256 < (list e.2 e.1.1).length)) then .error .items
    else .ok (partsOfShares nodes (makeShares (fun i core => (list i core).map (fun w => BitVec.ofNat 32 w)) 0 0 counts) (fun _ => []))

/-- The lowest of the nodes that holds an entry of the context with a name, with that entry's number (R332). -/
def shardAt (s : State) (ctx : Nat) (nodes : List Nat) (name : Word) : Option (Nat × Nat) :=
  nodes.findSome? (fun n => (findPlate s n ctx name).map (fun e => (n, e.1)))

/-- Shards of a mode-2 launch (R332). -/
def shardCount (p : LaunchPkt) : Nat := if p.work = 0 then 0 else (p.work - 1) / 2 ^ p.shift + 1

/-- The node and entry of every shard, in order; none where one is missing. -/
def resolveShards (s : State) (ctx : Nat) (p : LaunchPkt) (nodes : List Nat) : Option (List (Nat × Nat)) :=
  if 64 * nodes.length < shardCount p then none
  else
    let l := (List.range (shardCount p)).filterMap (fun i => shardAt s ctx nodes (p.plate + wd i))
    if l.length = shardCount p then some l else none

/-- Work items of shard `i`. -/
def shardItems (p : LaunchPkt) (i : Nat) : Nat := min p.work ((i + 1) * 2 ^ p.shift) - i * 2 ^ p.shift

/-- Items of the `j`-th of `m` cores of a node that holds the given shards (R332). -/
def coreItems (p : LaunchPkt) (shards : List Nat) (m j : Nat) : List (BitVec 32) :=
  shards.flatMap (fun i =>
    (List.range ((shardItems p i + m - 1 - j) / m)).map (fun t => BitVec.ofNat 32 (i * 2 ^ p.shift + j + m * t)))

/-- How many items that is. -/
def coreLoad (p : LaunchPkt) (shards : List Nat) (m j : Nat) : Nat :=
  sumNat (shards.map (fun i => (shardItems p i + m - 1 - j) / m))

/-- Placement of mode 2 on resolved shards (R332, R333, R368). -/
def layoutShards (s : State) (p : LaunchPkt) (range : List Nat) (found : List (Nat × Nat)) : Except NoLayout (List Part) :=
  let nodes := range.filter (fun n => found.any (fun e => decide (e.1 = n)))
  let able := fun n => ableCores s n p.quota
  let shards := fun n => (found.zipIdx).filterMap (fun e => if e.1.1 = n then some e.2 else none)
  let index := fun (c : Nat) => ((able (nodeOfCore c)).takeWhile (fun k => decide (k ≠ c))).length
  if nodes.any (fun n => (able n).isEmpty) then .error .quota
  else if nodes.any (fun n => (List.range (able n).length).any (fun j => decide (256 < coreLoad p (shards n) (able n).length j))) then
    .error .quota
  else
    let items := fun (_ : Nat) c => coreItems p (shards (nodeOfCore c)) (able (nodeOfCore c)).length (index c)
    let pins := fun n => found.filterMap (fun e => if e.1 = n ∧ (s.plate n e.2).st = .sealed then some e.2 else none)
    .ok (partsOfShares nodes (makeShares items 0 0 (slotCounts p.quota none (nodes.flatMap able))) pins)

/-- The range of nodes that a packet names. -/
def nodeRange (p : LaunchPkt) : List Nat := (List.range p.count).map (fun i => p.first + i)
/-- The nodes of a context's allotment, in logical order. -/
def allotNodes (s : State) (ctx : Nat) : List Nat :=
  match s.context ctx with
  | some c => (List.range nodeCount).filter c.allots
  | none => []
/-- The schedule table of every core of a node is unowned (R369). -/
def freeNode (s : State) (n : Nat) : Bool := (coresOfNode n).all (fun c => (s.core c).owner.isNone)

/-! ### Schedule tables (R94) -/

/-- Order in which waiting launches are served (R369, R373). -/
def Launch.rank (l : Launch) : Nat := l.cls * 2 ^ 64 + l.taken

/-- A launch that ranks before `l` waits for a core's table with its code in place. -/
def betterWaits (s : State) (l : Launch) (c : Nat) : Bool :=
  s.launches.any (fun e => decide (e.2.st = .placed) && decide (e.2.rank < l.rank) && hasCode s (tileOfCore c) e.1
    && e.2.parts.any (fun p => p.shares.any (fun h => decide (h.core = c) && !h.seeded && !h.owns)))

/-- Changes the shares of a launch's part. -/
def updShares (s : State) (k node : Nat) (f : Share → Share) : State :=
  s.updPart k node (fun p => { p with shares := p.shares.map f })

/-- A share takes its core's schedule table, if it is unowned: the items are written (R94, R368). -/
def grabTable (s : State) (k : Nat) (l : Launch) (h : Share) : State :=
  if h.owns ∨ (s.core h.core).owner.isSome ∨ betterWaits s l h.core = true then s
  else
    let t := s.updCore h.core (fun c => { c with owner := some k, sched := h.items, cursor := 0 })
    updShares t k (nodeOfCore h.core) (fun g => if g.core = h.core then { g with owns := true } else g)

/-- The shares of a part take what tables they can. -/
def grabTables (s : State) (k node : Nat) : State :=
  match s.launch? k, s.part? k node with
  | some l, some p => p.shares.foldl (fun s h => grabTable s k l h) s
  | _, _ => s

/-- The launch is placed: placement pins, parts and tables (R333, R368). -/
def startLaunch (s : State) (k : Nat) (parts : List Part) : State :=
  let s := parts.foldl (fun s p => p.pins.foldl (fun s e =>
    let q := s.plate p.node e; s.setPlate p.node e { q with pins := q.pins + 1#16 }) s) s
  let s := s.updLaunch k (fun l => { l with st := .placed, parts := parts })
  parts.foldl (fun s p => grabTables s k p.node) s

/-- Statuses of launches that seed nothing (R87, R332, R368, R371). -/
def statusQuota : Word := 0x1400000000000000#64
def statusPlmiss : Word := 0x0900000000000000#64
def statusTagerr : Word := 0x1100000000000000#64

/-! ### Packets (R362, R363) -/

/-- A field of a packet in host memory. -/
def pk (s : State) (a off n : Nat) : Nat := Memory.readNat s.hostMem (a + off) n
/-- Bytes of a packet that must be zero. -/
def zeroBytes (s : State) (a lo hi : Nat) : Bool := (List.range (hi - lo)).all (fun i => decide (pk s a (lo + i) 1 = 0))

/-- The packet's CRC matches. -/
def crcOk (s : State) (a : Nat) : Bool :=
  decide ((crc16 ((List.range 124).map (fun i => Memory.byte s.hostMem (a + i)))).toNat = pk s a 0x7C 2)

/-- The fields of a LAUNCH packet. -/
def launchPkt (s : State) (a : Nat) : LaunchPkt where
  barrier := decide (pk s a 1 1 % 2 = 1)
  nopre := decide (pk s a 1 1 / 2 % 2 = 1)
  seedw := decide (pk s a 1 1 / 4 % 2 = 1)
  cls := pk s a 2 1
  quota := pk s a 3 1
  domain := pk s a 4 1
  mode := pk s a 5 1
  n := pk s a 6 2
  code := pk s a 8 8
  work := pk s a 0x10 4
  shift := pk s a 0x14 1
  fill := pk s a 0x15 1
  tvec := pk s a 0x16 2
  plate := wd (pk s a 0x18 8)
  first := pk s a 0x20 4
  count := pk s a 0x24 4
  args := (List.range 7).map (fun i => wd (pk s a (0x28 + 8 * i) 8))
  sig := wd (pk s a 0x60 8)
  val := wd (pk s a 0x68 8)

/-- A field of a LAUNCH packet breaks its limit (R363). -/
def badLaunchField (s : State) (a nfill : Nat) : Bool :=
  let p := launchPkt s a
  decide (8 ≤ pk s a 1 1) || decide (3 < p.cls) || decide (p.quota = 0) || decide (8 < p.quota) || decide (5 < p.domain)
  || decide (2 < p.mode) || decide (p.n = 0) || decide (4096 < p.n) || decide (p.code / 2 ^ 42 ≠ 0x3FF)
  || decide (bits p.code 41 40 ≠ 0) || decide (p.code % 64 ≠ 0) || decide (p.n ≤ p.tvec)
  || decide (p.count = 0) || decide (10240 < p.count) || decide (10240 < p.first + p.count)
  || !signalForm p.sig || !zeroBytes s a 0x70 0x78 || decide (pk s a 0x7E 1 ≠ 0)
  || (if p.mode = 2 then
        decide (31 < p.shift) || decide (p.plate.toNat % 65536 ≠ 0) || p.seedw || (decide (p.fill ≠ 0xFF) && decide (nfill ≤ p.fill))
      else decide (p.shift ≠ 0) || decide (p.fill ≠ 0xFF) || decide (p.plate ≠ 0#64))

/-- What the take of a LAUNCH still finds beyond its limits (R368, R369): mode 0 with too small an allotment or too many
items, mode 1 with too many items on a core. -/
def badLaunchWork (s : State) (ctx : Nat) (p : LaunchPkt) : Bool :=
  if p.mode = 0 then decide ((allotNodes s ctx).length < p.count) || decide (256 * 64 * p.count < p.work)
  else if p.mode = 1 ∧ p.work ≠ 0 then
    match layoutNodes s p (nodeRange p) with | .error .items => true | _ => false
  else false

/-- An address of a LAUNCH packet, or a node of mode 1, is not the context's (R362, R368). -/
def badLaunchAddr (s : State) (ctx : Nat) (p : LaunchPkt) : Bool :=
  (checkRange s ctx Need.load p.code 4 p.n).isSome
  || (decide (p.sig ≠ 0#64) && !signalOk s ctx Need.store p.sig)
  || (decide (p.mode = 1) && (nodeRange p).any (fun n =>
        !(match s.context ctx with | some c => c.allots n | none => false)))

/-- The check of a LAUNCH packet: 0, or its ERR. -/
def launchErr (s : State) (ctx a nfill : Nat) : Nat :=
  let p := launchPkt s a
  if badLaunchField s a nfill ∨ badLaunchWork s ctx p then 3 else if badLaunchAddr s ctx p then 4 else 0

/-- The next sequence number of a context (R370), and the launch's key. -/
def nextKey (s : State) (ctx : Nat) : Nat :=
  match s.context ctx with
  | some c => ctx * 2 ^ 32 + (c.lastSeq + 1#32).toNat
  | none => ctx * 2 ^ 32

/-- Records a taken launch (R363, R370). -/
def addLaunch (s : State) (ctx queue cls : Nat) (p : LaunchPkt) : State :=
  let k := nextKey s ctx
  let l : Launch := { pkt := p, ctx := ctx, queue := queue, cls := max p.cls cls, taken := s.nextId, st := .unplaced,
                      parts := [], dies := [] }
  let t := { s with launches := Tab.put s.launches k l, nextId := s.nextId + 1 }
  t.updCtx ctx (fun c => { c with lastSeq := c.lastSeq + 1#32 })

/-- The fill kernel of a launch begins (R332): a launch of its own, that no queue waits for. Where its packet fails the
checks of R362 no kernel runs, and the shards stay missing. -/
def startFill (s : State) (k : Nat) (l : Launch) : State :=
  match Tab.look s.queues l.queue with
  | none => completeLaunch s k statusPlmiss
  | some q =>
    let a := q.fills + 128 * l.pkt.fill
    if pk s a 0 1 ≠ 1 ∨ launchErr s l.ctx a q.nfill ≠ 0 then completeLaunch s k statusPlmiss
    else
      let f := nextKey s l.ctx
      (addLaunch s l.ctx 4096 l.cls (launchPkt s a)).updLaunch k (fun x => { x with st := .filling f })

/-- A launch in mode 2 resolves its shards (R332). -/
def placeShards (s : State) (k : Nat) (l : Launch) (filled : Bool) : State :=
  match resolveShards s l.ctx l.pkt (nodeRange l.pkt) with
  | none => if filled ∨ l.pkt.fill = 0xFF ∨ l.queue = 4096 then completeLaunch s k statusPlmiss else startFill s k l
  | some found =>
    match layoutShards s l.pkt (nodeRange l.pkt) found with
    | .ok parts => startLaunch s k parts
    | .error _ => completeLaunch s k statusQuota

/-- A launch on chosen nodes is placed, or completes with class QUOTA (R87, R368). -/
def placeNodes (s : State) (k : Nat) (l : Launch) (nodes : List Nat) : State :=
  match layoutNodes s l.pkt nodes with
  | .ok parts => startLaunch s k parts
  | .error _ => completeLaunch s k statusQuota

/-- Firmware places a launch that waits, if it can (R363, R368, R369). -/
def tryPlace (s : State) (k : Nat) : State :=
  match s.launch? k with
  | none => s
  | some l =>
    match l.st with
    | .unplaced =>
      if l.pkt.work = 0 then completeLaunch s k 0#64
      else if l.pkt.mode = 0 then
        let free := ((allotNodes s l.ctx).filter (freeNode s)).take l.pkt.count
        if free.length < l.pkt.count then s else placeNodes s k l free
      else if l.pkt.mode = 1 then placeNodes s k l (nodeRange l.pkt)
      else placeShards s k l false
    | .filling f =>
      match s.launch? f with
      | some m => if m.st = .done then placeShards s k l true else s
      | none => placeShards s k l true
    | _ => s

/-! ### Queue slots (R360) -/

/-- A queue asks for a hardware queue slot: it has an event to be handled, or a remap request. -/
def HQueue.asks (q : HQueue) : Bool :=
  q.slot.isNone && ((decide (q.state = 0) && q.event) || (decide (q.state = 1) && q.remap))

/-- Since when a queue asks, once its event has come at a cycle: it goes on asking, or begins, unless it holds a slot. -/
def HQueue.askTime (q : HQueue) (now : Nat) : Option Nat :=
  if q.slot.isSome then none else if q.asks then q.askedAt else some now

/-- A queue whose slot may be freed: parked by WAIT, stopped or empty. -/
def HQueue.yields (q : HQueue) : Bool := q.slot.isSome && !((decide (q.state = 0) && q.event) || (decide (q.state = 1) && q.remap))

/-- The asking queue that is served first: lowest class, then longest asking. -/
def firstAsking (s : State) : Option Nat :=
  (leastBy (fun (e : Nat × HQueue) => e.2.cls * 2 ^ 64 + e.2.askedAt.getD 0) (s.queues.filter (fun e => e.2.asks))).map (fun e => e.1)

/-- The queue holds a hardware slot, or receives one now; none where it must wait. -/
def claimSlot (s : State) (q : Nat) : Option State :=
  match Tab.look s.queues q with
  | none => none
  | some x =>
    if x.slot.isSome then some (s.updQueue q (fun y => { y with askedAt := none }))
    else if firstAsking s ≠ some q then none
    else
      let used := s.queues.filterMap (fun e => e.2.slot)
      let take := fun (s : State) (n : Nat) => s.updQueue q (fun y => { y with slot := some n, askedAt := none })
      match (List.range 128).find? (fun n => !used.contains n) with
      | some n => some (take s n)
      | none =>
        match s.queues.find? (fun e => e.2.yields) with
        | some e => some (take (s.updQueue e.1 (fun y => { y with slot := none })) (e.2.slot.getD 0))
        | none => none

/-! ### Taking a packet (R359, R361, R362, R367) -/

/-- Host address of a queue's next packet (R358). -/
def HQueue.packet (q : HQueue) : Nat := q.ring + 128 * (q.idx % 2 ^ q.size)

/-- The queue stops on its packet (R361). -/
def stopQueue (s : State) (q err : Nat) (a : Nat) : State :=
  updStatus s q (fun x => { x with state := 2, err := err, seq := BitVec.ofNat 32 (pk s a 0x78 4), event := false,
                                   rereads := 0, rereadAt := 0, remap := false })

/-- The packet is taken (R362): mark 0x00, RIDX the next index. -/
def consume (s : State) (q : Nat) : State :=
  match Tab.look s.queues q with
  | none => s
  | some x =>
    let t := hostStore s (x.packet + 0x7F) 1 0
    let u := hostStore t x.ridx 4 ((x.idx + 1) % 2 ^ 32)
    u.updQueue q (fun y => { y with idx := y.idx + 1, rereads := 0, rereadAt := 0, event := true })

/-- The head packet of a queue, where the pool may look at it now: the state, queue and packet address. -/
def headPacket (s : State) (q : Nat) : Option (State × HQueue × Nat) :=
  match Tab.look s.queues q with
  | none => none
  | some x =>
    if x.state ≠ 0 ∨ !x.event ∨ (x.rereadAt ≠ 0 ∧ s.cycle < x.rereadAt) then none
    else (claimSlot s q).map (fun t => (t, x, x.packet))

/-- A packet event of type `ty`: mark, CRC, type and checks, then the packet's effect `k`. -/
def withPacket (s : State) (q ty : Nat) (check : State → HQueue → Nat → Nat) (k : State → HQueue → Nat → Out) : Out :=
  match headPacket s q with
  | none => go s
  | some (t, x, a) =>
    if pk t a 0x7F 1 ≠ 0xA5 then go (t.updQueue q (fun y => { y with event := false, rereads := 0, rereadAt := 0 }))
    else if !crcOk t a then go t
    else if 4 < pk t a 0 1 then go (stopQueue t q 2 a)
    else if pk t a 0 1 ≠ ty then go t
    else
      let e := if pk t a 0x7E 1 ≠ 0 then 3 else check t x a
      if e ≠ 0 then go (stopQueue t q e a) else k t x a

/-- PACKET_REREAD (R367): a packet whose CRC fails is read again up to 8 times, 1 µs apart, then the queue stops. -/
def execPacketReread (q : Nat) (s : State) : Out :=
  match headPacket s q with
  | none => go s
  | some (t, x, a) =>
    if pk t a 0x7F 1 ≠ 0xA5 ∨ crcOk t a then go t
    else if x.rereadAt = 0 then go (t.updQueue q (fun y => { y with rereadAt := s.cycle + 1750 }))
    else if 8 ≤ x.rereads + 1 then go (stopQueue t q 1 a)
    else go (t.updQueue q (fun y => { y with rereads := y.rereads + 1, rereadAt := s.cycle + 1750 }))

/-- NOP_PACKET (R365). -/
def execNopPacket (q : Nat) (s : State) : Out :=
  withPacket s q 0 (fun t _ a => if zeroBytes t a 1 0x78 then 0 else 3) (fun t _ _ => go (consume t q))

/-- LAUNCH (R363): taken once a BARRIER finds every earlier packet complete, and placed. -/
def execLaunch (q : Nat) (s : State) : Out :=
  withPacket s q 1 (fun t x a => launchErr t x.ctx a x.nfill) (fun t x a =>
    let p := launchPkt t a
    if p.barrier && decide (x.pending ≠ []) then go t
    else
      let k := nextKey t x.ctx
      let u := consume (addLaunch t x.ctx q x.cls p) q
      go (tryPlace (u.updQueue q (fun y => { y with pending := y.pending ++ [launchMark k] })) k))

/-- The condition of a WAIT holds for a word (R364). -/
def waitHolds (s : State) (a : Nat) (w : Word) : Bool :=
  let v := w &&& wd (pk s a 0x18 8)
  let c := wd (pk s a 0x10 8)
  let k := pk s a 4 1
  if k = 0 then decide (v = c) else if k = 1 then decide (v ≠ c) else if k = 2 then c.ule v else v.ult c

/-- The check of a WAIT packet (R364). -/
def waitErr (s : State) (x : HQueue) (a : Nat) : Nat :=
  let w := wd (pk s a 8 8)
  if 3 < pk s a 4 1 ∨ !signalForm w ∨ !zeroBytes s a 1 4 ∨ !zeroBytes s a 5 8 ∨ !zeroBytes s a 0x24 0x78 then 3
  else if !signalOk s x.ctx Need.load w then 4 else 0

/-- WAIT (R364): the word is read; the packet is taken, or its queue parks on it. -/
def execWait (q : Nat) (s : State) : Out :=
  withPacket s q 2 waitErr (fun t x a =>
    let r := signalRead t x.ctx (wd (pk t a 8 8))
    if waitHolds t a r.2 then go (consume r.1 q)
    else
      go (updStatus r.1 q (fun y => { y with state := 1, seq := BitVec.ofNat 32 (pk t a 0x78 4), waitSince := s.cycle,
                                             remap := false })))

/-- WAIT_REMAP (R364): the signal unit finds the condition and asks for a remap; with a queue slot the WAIT is taken. -/
def execWaitRemap (q : Nat) (s : State) : Out :=
  match Tab.look s.queues q with
  | none => go s
  | some x =>
    if x.state ≠ 1 then go s
    else
      let a := x.packet
      let r := signalRead s x.ctx (wd (pk s a 8 8))
      if !x.remap && !waitHolds s a r.2 then go s
      else
        let t := r.1.updQueue q (fun y => { y with remap := true, askedAt := if x.remap then y.askedAt else y.askTime s.cycle })
        match claimSlot t q with
        | none => go t
        | some u => go (consume (updStatus u q (fun y => { y with state := 0, remap := false })) q)

/-- WAIT_TIMEOUT (R364). -/
def execWaitTimeout (q : Nat) (s : State) : Out :=
  match Tab.look s.queues q with
  | none => go s
  | some x =>
    let d := pk s x.packet 0x20 4
    if x.state ≠ 1 ∨ x.remap ∨ d = 0 ∨ s.cycle < x.waitSince + d * 1750 then go s else go (stopQueue s q 5 x.packet)

/-- The check of a SIGNAL packet (R365). -/
def signalErr (s : State) (x : HQueue) (a : Nat) : Nat :=
  let w := wd (pk s a 8 8)
  if 1 < pk s a 4 1 ∨ !signalForm w ∨ !zeroBytes s a 1 4 ∨ !zeroBytes s a 5 8 ∨ !zeroBytes s a 0x18 0x78 then 3
  else if !signalOk s x.ctx (if pk s a 4 1 = 1 then Need.atomic else Need.store) w then 4 else 0

/-- A signal word is uncorrectable, and so POISON for the access (R156). -/
def signalBad (s : State) (ctx : Nat) (a : Word) : Bool :=
  a.getLsbD 63 && (match signalLoc s ctx Need.load a.toNat with
    | some loc => s.bad.contains (loc / 8)
    | none => false)

/-- SIGNAL (R365): once every earlier packet has completed. An add on a POISON word changes nothing, as an atomic's fault does
(R157), and the packet is consumed (log entry 105). -/
def execSignal (q : Nat) (s : State) : Out :=
  withPacket s q 3 signalErr (fun t x a =>
    if x.pending ≠ [] then go t
    else
      let w := wd (pk t a 8 8)
      let v := wd (pk t a 0x10 8)
      let r := signalRead t x.ctx w
      let add := if signalBad t x.ctx w then t else signalWrite r.1 x.ctx w (r.2 + v)
      go (consume (if pk t a 4 1 = 1 then add else signalWrite t x.ctx w v) q))

/-- The check of a PLATEOP packet (R365). -/
def plateopErr (s : State) (x : HQueue) (a : Nat) : Nat :=
  let w := wd (pk s a 0x60 8)
  let n := pk s a 0x20 4
  if pk s a 4 1 ≠ 1 ∨ nodeCount ≤ n ∨ !signalForm w ∨ !zeroBytes s a 1 4 ∨ !zeroBytes s a 5 8 ∨ !zeroBytes s a 0x10 0x20
      ∨ !zeroBytes s a 0x24 0x60 ∨ !zeroBytes s a 0x70 0x78 then 3
  else if (w ≠ 0#64 ∧ !signalOk s x.ctx Need.store w) ∨ !(match s.context x.ctx with | some c => c.allots n | none => false) then 4
  else 0

/-- PLATEOP (R329, R365): the eviction goes to the node's plate table; its result goes to the signal pair. -/
def execPlateop (q : Nat) (s : State) : Out :=
  withPacket s q 4 plateopErr (fun t x a =>
    let n := pk t a 0x20 4
    let id := t.nextId
    let name := wd (pk t a 8 8)
    let r : Req :=
      { id := id, stamp := id, own := .host q (wd (pk t a 0x60 8)) (wd (pk t a 0x68 8)), ctx := x.ctx, src := n,
        op := .plt opHostEvict name 0#64 0#64, ea := name, loc := 0, tgt := .plates n, relaxed := false, rl := false,
        item := none, acc := id, part := 0, info := 0#64, limit := 0, misses := 0, stage := .queued }
    let u := consume { t with reqs := t.reqs ++ [r], nextId := id + 1 } q
    go (u.updQueue q (fun y => { y with pending := y.pending ++ [plateopMark id] })))

/-- A host write touches a queue's next packet (R359). -/
def HQueue.touchedBy (q : HQueue) (data : List (Nat × BitVec 8)) : Bool :=
  data.any (fun d => decide (q.packet ≤ d.1) && decide (d.1 < q.packet + 128))

/-- SNOOP_EVENT (R359): a host write, and the event of every queue whose next packet it touches; queue `q` among them. -/
def execSnoopEvent (q : Nat) (data : List (Nat × BitVec 8)) (s : State) : Out :=
  let mem := data.foldl (fun m d => Memory.setByte m d.1 d.2) s.hostMem
  let note := fun (e : Nat × HQueue) =>
    if e.1 = q ∨ e.2.touchedBy data then
      (e.1, { e.2 with event := true, askedAt := e.2.askTime s.cycle })
    else e
  go { s with hostMem := mem, queues := s.queues.map note }

/-! ### Waiting launches, code delivery and seeding (R85, R369 to R371) -/

/-- The launches that wait for a placement, in the order they are served. -/
def waitingLaunches (s : State) : List (Nat × Launch) :=
  let w := s.launches.filter (fun e => match e.2.st with | .unplaced => true | .filling _ => true | _ => false)
  w.foldl (fun l e => (l.takeWhile (fun f => decide (f.2.rank ≤ e.2.rank))) ++ e
    :: (l.dropWhile (fun f => decide (f.2.rank ≤ e.2.rank)))) []

/-- PLACEMENT_RETRY (R369). -/
def execPlacementRetry (s : State) : Out := go ((waitingLaunches s).foldl (fun s e => tryPlace s e.1) s)

/-- The delivery of a launch's code fails (R371): no further slot is seeded, what the launch holds is released, and each
part that has no seeded slot is complete, with fault class TAGERR. -/
def failDelivery (s : State) (k : Nat) (l : Launch) : State :=
  l.parts.foldl (fun s p =>
    let kept := p.shares.filter (fun h => h.seeded)
    if p.complete ∨ kept.length = p.shares.length then s
    else
      let t := (s.addStatus k p.node statusTagerr).updPart k p.node (fun q => { q with shares := kept, complete := kept.isEmpty })
      if kept.isEmpty then releasePart t p.node k p.pins
      else
        (p.shares.filter (fun h => h.owns && !h.seeded)).foldl (fun t h => t.updCore h.core (fun c => { c with owner := none })) t) s

/-- The tiles of a part that still need the code. -/
def tilesToLoad (s : State) (k : Nat) (p : Part) : List Nat :=
  (tilesOfNode p.node).filter (fun t => !holdsLaunch s t k && p.shares.any (fun h => decide (tileOfCore h.core = t) && !h.seeded))

/-- Tiles of a die that wait for a launch's code and have a FREE bank for it (R371). -/
def loadTiles (s : State) (seq : Nat) (l : Launch) (die : Nat) : List Nat :=
  ((l.parts.filter (fun p => decide (dieOfNode p.node = die))).flatMap (tilesToLoad s seq)).filter
    (fun t => (freeBank s t).isSome)

/-- CODE_MULTICAST (R370, R371): the image goes into a FREE bank of every tile of the die that needs it; a tile without
one waits for a later multicast. -/
def execCodeMulticast (seq die : Nat) (s : State) : Out :=
  match s.launch? seq with
  | none => go s
  | some l =>
    let tiles := loadTiles s seq l die
    match (l.parts.filter (fun p => decide (dieOfNode p.node = die))).head? with
    | none => go s
    | some p =>
      if l.st ≠ .placed ∨ tiles = [] then go s
      else
        byHart s p.node (fun s =>
          if imageFails s l then go (failDelivery s seq l)
          else
            let t := readImage s p.node l
            let u := tiles.foldl (fun t tile => loadBank t l seq tile ((freeBank t tile).getD 0)) t
            go (u.updLaunch seq (fun x => { x with dies := insertNat x.dies die })))

/-- Seeds a share (R85, R88): the lowest-numbered FREE slots of its core, with ordinals from `ord` on. -/
def seedShare (s : State) (k : Nat) (args : List Word) (h : Share) : State :=
  let t := (((freeSlots s h.core).take h.slots).zipIdx).foldl (fun s e => birth s e.1 k 0 (wd (h.ord + e.2) :: args) false) s
  updShares t k (nodeOfCore h.core) (fun g => if g.core = h.core then { g with seeded := true } else g)

/-- CODE_ACK (R85, R371): the shares of a node whose tiles hold the code are seeded as their cores allow, after the
restores that go first (R373). -/
def execCodeAck (seq node : Nat) (s : State) : Out :=
  match s.launch? seq with
  | none => go s
  | some l =>
    let t := grabTables s seq node
    match t.part? seq node with
    | none => go s
    | some p =>
      let u := p.shares.foldl (fun s h =>
        if seedable s seq h && !restoresBelow s h.core (l.cls + 1) then seedShare s seq l.pkt.args h else s) t
      let acked := p.acked || p.shares.all (fun h => hasCode t (tileOfCore h.core) seq)
      go (u.updPart seq node (fun q => { q with acked := acked }))

end Sys2Proof.Machine
end

