-- ==== Sys2Proof/Machine/Ptr.lean ====
section
/-! DEFINITION. Fat pointers: the PTR major and ADDPI (R137 to R140). -/

namespace Sys2Proof.Machine

/-- A pointer's address moved by an integer, mod 2^52; the tag stays (R138, R139). -/
def ptrMove (p : Word) (k : Int) : Word :=
  wd (p.toNat / 2 ^ 52 * 2 ^ 52 + (((ptrAddr p : Int) + k) % (2 ^ 52 : Nat)).toNat)

/-- ADDP (R138). -/
def execAddp (d a b : Reg) (s : State) : Out :=
  regOp (.addp d a b) d (fun x => ptrMove (x.rg a) (x.rg b).toInt) s
/-- SUBP (R138). -/
def execSubp (d a b : Reg) (s : State) : Out :=
  regOp (.subp d a b) d (fun x => ((x.rg a).setWidth 52 - (x.rg b).setWidth 52).signExtend 64) s
/-- IDXP (R139). -/
def execIdxp (d a b : Reg) (s : State) : Out :=
  issue (.idxp d a b) s (fun t =>
    let x := t.slot t.cur
    let p := x.rg a
    let r := fmtReason (ptrFmt p) (ptrL p)
    if r ≠ 0 then go (fmtTrap t p r)
    else writeG t d (ptrMove p ((x.rg b).toInt * fmtUnit (ptrFmt p) (ptrL p))))
/-- MKP (R140). -/
def execMkp (d a b : Reg) (s : State) : Out :=
  regOp (.mkp d a b) d (fun x => wd (bits (x.rg b).toNat 7 0 * 2 ^ 56 + bits (x.rg b).toNat 11 8 * 2 ^ 52 + ptrAddr (x.rg a))) s
/-- GETF (R140). -/
def execGetf (d a : Reg) (s : State) : Out :=
  regOp (.getf d a) d (fun x => wd (ptrL (x.rg a) * 2 ^ 8 + ptrFmt (x.rg a))) s
/-- ADRP (R140). -/
def execAdrp (d a : Reg) (s : State) : Out := regOp (.adrp d a) d (fun x => wd (ptrAddr (x.rg a))) s
/-- ADDPI (R138). -/
def execAddpi (d a : Reg) (i : BitVec 16) (s : State) : Out := regOp (.addpi d a i) d (fun x => ptrMove (x.rg a) i.toInt) s

end Sys2Proof.Machine
end

