-- ==== Sys2Proof/Machine/Window.lean ====
section
/-! DEFINITION. The state window (R403 to R405). Where R403 and R404 give a stretch to a piece of state and publish no layout
within it, the word read is Config.shown of the offset in the stretch and of the piece (log entry 26); a word that holds no
state of the model is a free value (none below). -/

namespace Sys2Proof.Machine

/-- Code of a slot's state (R404). -/
def SlotSt.code : SlotSt → Nat
  | .free => 0
  | .running => 1
  | .parked => 2
  | .saving => 3
  | .disabled => 4

/-- Code of a park reason (R404). -/
def Reason.code : Reason → Nat
  | .none => 0
  | .reg => 1
  | .word => 2
  | .access => 3
  | .look => 4
  | .tag => 5
  | .engine => 6
  | .idle => 7

/-- Slot status (R404). -/
def slotStatus (x : Slot) : Word := wd (x.st.code * 2 ^ 60 + x.reason.code * 2 ^ 56 + x.changes.toNat * 2 ^ 40)

/-- The word at an offset among segments of words; zero where there is none. -/
def segWord (segs : List (Nat × List Word)) (off : Nat) : Word :=
  (segs.findSome? (fun e => if e.1 ≤ off ∧ off < e.1 + 8 * e.2.length then some (nth 0#64 e.2 ((off - e.1) / 8)) else none)).getD 0#64

/-- A word of a slot block (R375, R404). -/
def slotWord (s : State) (sl off : Nat) : Word := if off = 0x580 then slotStatus (s.slot sl) else segWord (recordSegs s sl) off

/-- A word of a hart's block, laid out as a slot block (R403); a hart has no thread (R285). -/
def hartWord (s : State) (n h off : Nat) : Word :=
  let x := Tab.get Slot.reset (s.node n).hslots h
  if off = 0x580 then slotStatus x else segWord (x.segs [] 0#64 []) off

/-- A word of a table of entries of `size` bytes each without a published layout (log entry 26). -/
def shownEntry {α : Type} (l : List α) (size off : Nat) : Word := Config.shown (off % size) (l[off / size]?)

/-- The requests with given numbers. -/
def reqsOf (s : State) (ids : List Nat) : List (Option Req) := ids.map s.req?

/-- Word states of 32 words of a core's store (R404). -/
def stateWord (s : State) (c i : Nat) : Word :=
  wd ((List.range 32).foldl (fun a k =>
    a + (Tab.get stFull s.wst (storeBase c / 8 + 32 * i + k)).toNat * 2 ^ (2 * k)) 0)

/-- A word of a core block (R404). -/
def coreWord (s : State) (c off : Nat) : Word :=
  let k := s.core c
  if off < 0x4000 then slotWord s (c * 8 + off / 0x800) (off % 0x800)
  else if off < 0x4400 then stateWord s c ((off - 0x4000) / 8)
  else if off = 0x4400 then wd k.deque.length
  else if off < 0x4440 then 0#64
  else if off < 0x4A40 then shownEntry k.deque.reverse 48 (off - 0x4440)
  else if off < 0x4C00 then 0#64
  else if off < 0x5000 then
    let i := (off - 0x4C00) / 4
    wd ((nth 0#32 k.sched i).toNat + (nth 0#32 k.sched (i + 1)).toNat * 2 ^ 32)
  else if off < 0x5010 then Config.shown (off - 0x5000) (k.cursor, k.owner)
  else if off < 0x5100 then 0#64
  else if off < 0x5500 then shownEntry (k.lbuf.map (fun e => (e, s.req? e.id))) 32 (off - 0x5100)
  else if off < 0x5700 then shownEntry k.away 16 (off - 0x5500)
  else if off < 0x5800 then 0#64
  else if off < 0x5C00 then shownEntry (reqsOf s k.waitl) 16 (off - 0x5800)
  else if off = 0x5C00 then k.tags
  else if off = 0x5C08 then k.tagerr
  else if off < 0x5CD0 then Config.shown (off - 0x5C10) ((List.range 8).map (fun i => (s.slot (c * 8 + i)).dfr))
  else 0#64

/-- The four words of a plate entry (R313). -/
def plateWords (p : Plate) : List Word :=
  [p.name,
   wd (p.st.code * 2 ^ 60 + b2n p.kind * 2 ^ 59 + b2n p.dirty * 2 ^ 58 + b2n p.fromb * 2 ^ 57 + b2n p.bv * 2 ^ 56
     + p.egen.toNat * 2 ^ 44 + p.pins.toNat * 2 ^ 24 + p.unit * 2 ^ 18 + p.base * 2 ^ 14 + p.len * 2 ^ 10),
   wd (p.ctx * 2 ^ 48 + p.back), wd (p.launch % 2 ^ 32 * 2 ^ 32 + p.last.toNat)]

/-- Sequence number and status word of the launches with a part on a node (R102, R403). -/
def launchWords (s : State) (n : Nat) : List Word :=
  (s.launches.flatMap (fun e => (e.2.parts.filter (fun p => decide (p.node = n))).map (fun p => [wd (e.1 % 2 ^ 32), p.word]))).flatten

/-- A word of a node block (R403). -/
def nodeWord (s : State) (n off : Nat) : Word :=
  let x := s.node n
  if off < 0x800 then nth 0#64 (plateWords (s.plate n (off / 32))) (off / 8 % 4)
  else if off < 0xA00 then nth 0#64 (launchWords s n) ((off - 0x800) / 8)
  else if off < 0x1000 then 0#64
  else if off < 0x1100 then Config.shown (off - 0x1000) [x.corrected, x.freebDrops, x.marchOnce, x.withdrawn]
  else if off < 0x1200 then Config.shown (off - 0x1100) (x.temp, x.level, x.droop)
  else if off < 0x4000 then 0#64
  else if off < 0x8000 then hartWord s n ((off - 0x4000) / 0x800) (off % 0x800)
  else if off < 0x8100 then shownEntry (Tab.get [] s.routers (nodePos s n)) 16 (off - 0x8000)
  else 0#64

/-- Two FP32 or INT32 elements of a ring place (R403). -/
def ringWord (r : Ring) (i : Nat) : Word :=
  wd ((r.acc.get (Fin.ofNat 256 (2 * i))).toNat + (r.acc.get (Fin.ofNat 256 (2 * i + 1))).toNat * 2 ^ 32)

/-- The queues of a tile: each core's of engines 0, 1 and 2 (R257, R287). -/
def tileQueues (s : State) (t : Nat) : List (List Cmd × List Cmd × List Cmd) :=
  (List.range 4).map (fun i => let k := s.core (4 * t + i); (k.q0, k.q1, k.q2))

/-- A word of a tile block (R403); none for elements of a FREE ring place and for the bytes of an UNLOADED pair, whose values
no rule gives. -/
def tileWord (s : State) (t off : Nat) : Option Word :=
  let x := s.tile t
  if off < 0x2000 then (x.ring.get (Fin.ofNat 8 (off / 1024))).map (fun r => ringWord r (off % 1024 / 8))
  else if off < 0x2100 then some (Config.shown (off - 0x2000) (x.ring.toList.map (fun p => p.map (fun r => (r.rt, r.mode, r.poison, r.th)))))
  else if off < 0x4000 then some (Config.shown (off - 0x2100) (tileQueues s t))
  else if off < 0x4400 then x.pair2.map (fun l => nth 0#64 l ((off - 0x4000) / 8))
  else if off < 0x4800 then x.pair3.map (fun l => nth 0#64 l ((off - 0x4400) / 8))
  else if off < 0x5000 then some (Config.shown (off - 0x4800) (x.pair2.isSome, x.pair3.isSome))
  else if off < 0x5100 then some (Config.shown (off - 0x5000) (x.hold0, x.hold1))
  else some 0#64

/-- A queue record of 64 bytes (R358, R403). -/
def queueWord (s : State) (q i : Nat) : Word :=
  match Tab.look s.queues q with
  | none => 0#64
  | some x => nth 0#64 [wd x.ring, wd x.size, wd x.ridx, wd x.qstat, wd (x.cls * 2 ^ 16 + x.ctx), wd x.fills, wd x.nfill] i

/-- The 128 queue slots, each with its queue, that queue's read index and class (R360). -/
def queueSlots (s : State) : List (Option (Nat × Nat × Nat)) :=
  (List.range 128).map (fun i =>
    (s.queues.find? (fun (e : Nat × HQueue) => decide (e.2.slot = some i))).map (fun e => (e.1, e.2.idx, e.2.cls)))

/-- What the window shows of a port: bring-up results, link counters and state (R345, R357). -/
def portShown (e : Nat × Port) : Nat × Option PortTest × Bool × List Nat × Nat := (e.1, e.2.test, e.2.disabled, e.2.down, e.2.errs)
/-- What the window shows of a key state: counter and rotation index, and never a secret (R355). -/
def keyShown (e : Nat × Key) : Nat × Nat × Nat := (e.1, e.2.ctr, e.2.rot)

/-- A word of a context's tables (R179, R182, R403). -/
def ctxWord (s : State) (ctx off : Nat) : Word :=
  match s.context ctx with
  | none => 0#64
  | some c =>
    if off < 0x400 then wd ((nth 0#128 c.windows (off / 16)).toNat / 2 ^ (64 * (off / 8 % 2)))
    else if off < 0x900 then wd (c.allot.toNat / 2 ^ (8 * (off - 0x400)))
    else if 0x1000 ≤ off ∧ off < 0x3000 then Tab.get 0#64 c.podTab ((off - 0x1000) / 8)
    else 0#64

/-- A word of module space (R403). -/
def moduleWord (s : State) (off : Nat) : Option Word :=
  if off < 0x40000 then some (queueWord s (off / 64) (off / 8 % 8))
  else if off < 0x80000 then some (Config.shown (off - 0x40000) (queueSlots s))
  else if off < 0x90000 then some (Config.shown (off - 0x80000) s.pod.joins)
  else if off < 0xA0000 then
    some (Config.shown (off - 0x90000) (s.pod.ports.map portShown, s.pod.keys.map keyShown, s.pod.slot, s.pod.lost))
  else if off < 0x100000 then some (Config.shown (off - 0xA0000) (s.bootHist, s.oscs))
  else if off < 0x100000000 then some (ctxWord s ((off - 0x100000) / 65536) ((off - 0x100000) % 65536))
  else if off < 0x100600000 then some (wd (Memory.readNat s.image (off - 0x100000000) 8))
  else if off < 0x100800000 then none else some 0#64

/-- The word at an aligned BAR2 offset (R403); none where it has a free value. -/
def windowWord (s : State) (o : Nat) : Option Word :=
  let a := o / 8 * 8
  if a < 2 ^ 40 then some (if spaceCheck true (2 ^ 41 + a) = 0 then recWord s (2 ^ 41 + a) 0 else 0#64)
  else
    let c := a % 2 ^ 38
    let die := bits c 37 31
    let node := die * 1024 + bits c 30 21
    let sp := bits a 39 38
    if sp = 3 then moduleWord s c
    else if 9 < die then some 0#64
    else if sp = 0 then some (coreWord s (node * 64 + bits c 20 15) (bits c 14 0))
    else if sp = 1 then some (nodeWord s node (bits c 20 0))
    else tileWord s (node * 16 + bits c 20 17) (bits c 16 0)

/-- STATE_WINDOW_READ (R405): one aligned word. -/
def execStateWindowRead (off : BitVec 41) (s : State) : Out :=
  match windowWord s off.toNat with
  | some w => go { s with hostOut := s.hostOut ++ [.word w false] }
  | none => let f := s.freeWord; go { f.2 with hostOut := f.2.hostOut ++ [.word f.1 false] }

end Sys2Proof.Machine
end

