-- ==== Sys2Proof/Machine/Work.lean ====
section
/-! DEFINITION. What a free transfer hart takes (R287, R327): firmware's work first, then the commands of the node's queues
in rotation. -/

namespace Sys2Proof.Machine

/-- The lowest entry of a node whose write-back has no hart yet (R327). -/
def evictWaiting (s : State) (n : Nat) : Option Nat :=
  (List.range 64).find? (fun e =>
    let p := s.plate n e
    decide (p.st = .evicting) && p.dirty && (s.node n).harts.all (fun h =>
      match h.2.work with | .evict k _ => decide (k ≠ e) | _ => true))

/-- The COPY that writes an entry back, under policy CONT (R315, R327). -/
def evictJob (s : State) (n e : Nat) : HartJob :=
  let p := s.plate n e
  let c : Cmd := { id := 0, kind := .copy, sl := n * 512, th := { birth := 0, gen := 0#12 }, ctx := p.ctx, launch := p.launch,
                   pca := 0, a := 0#64, b := 0#64, desc := [], sg := 0#2, rt := 0, mode := false, nextJ := 0, nextR := 0 }
  let dims := if p.kind then [wd (p.len * 256), 8#64, 8#64, 8#64, wd (colStride s (n * 16 + p.unit)), wd (p.len * 2048)]
    else [wd (p.len * 256), 8#64, 8#64]
  newJob (.evict e c) .unit
    ([plateWord n p, wd (0x3FF * 2 ^ 42 + p.back), wd ((if p.kind then 2 else 1) + 3 * 16), 0#64] ++ dims) []

/-- Landing-log appends of the node wait (R119, R287). -/
def logsWaiting (s : State) (n : Nat) : Bool :=
  s.reqs.any (fun r => decide (r.stage = .log) && decide (nodeOfCore (homeCore r.ea) = n))

/-- The next core with a waiting command, from `rot` on; none of a context that is being ended (R311). -/
def nextQueue (s : State) (n rot : Nat) : Option (Nat × Cmd) :=
  (List.range 64).findSome? (fun i =>
    let k := (rot + i) % 64
    ((s.core (n * 64 + k)).q2.head?).bind (fun c => if s.mbox.ending = some c.ctx then none else some (k, c)))

/-- A save of the node's slots waits to be written (R287, R376). -/
def savesWaiting (s : State) (n : Nat) : Bool :=
  s.cores.any (fun e => e.2.away.any (fun a => decide (a.st = .saving) && decide (nodeOfSlot a.slot = n)))

/-- A restore into the node has begun and can end (R282, R287, R376). -/
def restoresWaiting (s : State) (n : Nat) : Bool :=
  s.cores.any (fun e => e.2.away.any (fun a => decide (a.st = .restoring) && decide (nodeOfSlot a.slot = n)
    && restoreRoom s a))

/-- A code multicast that the node's harts make waits (R287, R371). -/
def codeWaiting (s : State) (n : Nat) : Bool :=
  s.launches.any (fun e => decide (e.2.st = .placed)
    && (match (e.2.parts.filter (fun p => decide (dieOfNode p.node = dieOfNode n))).head? with
        | some p => decide (p.node = n)
        | none => false)
    && decide (loadTiles s e.1 e.2 (dieOfNode n) ≠ []))

/-- The code load of a restore onto a core of the node waits (R287, R376). -/
def restoreCodeWaiting (s : State) (n : Nat) : Bool :=
  s.cores.any (fun e => e.2.away.any (fun a => match codeLoadDue s a with | some (_, c, _) => decide (nodeOfCore c = n) | none => false))

/-- Firmware work of the node waits for a hart (R287). -/
def firmwareWaits (s : State) (n : Nat) : Bool :=
  logsWaiting s n || savesWaiting s n || restoresWaiting s n || codeWaiting s n || restoreCodeWaiting s n

/-- The job of a command of core `core` (R287, R293). -/
def takenJob (c : Cmd) : HartJob :=
  if c.kind = .freeb then newJob (.cmd c) .tag [] []
  else
    newJob (.cmd c) .desc []
      ((List.range (descWords c.kind)).map (fun i => Micro.read 8 (addrAt (ptrAddr c.a) (8 * i : Nat)) false))

/-- A free hart takes the head of the next queue in rotation (R287). -/
def takeCommand (s : State) (n h : Nat) : State :=
  match nextQueue s n (s.node n).hrot with
  | none => s
  | some (k, c) =>
    let t := (leaveQueue s (n * 64 + k) 2 c.id).updNode n (fun x => { x with hrot := (k + 1) % 64 })
    setHart (useTurn t n h) n h (takenJob c)

/-- HART_TAKE (R285, R287): on its turn a free hart takes a write-back of firmware's, or, while no other firmware work waits,
a program's command. -/
def execHartTake (node h : Nat) (s : State) : Out :=
  if !hartTurn s node h || (Tab.look (s.node node).harts h).isSome then go s
  else
    match evictWaiting s node with
    | some e => go (setHart (useTurn s node h) node h (evictJob s node e))
    | none => if firmwareWaits s node then go s else go (takeCommand s node h)

end Sys2Proof.Machine
end

