-- ==== Sys2Proof/Machine/Dispatch.lean ====
section
/-! DEFINITION. One arm per instruction or event; each calls its meaning. -/

namespace Sys2Proof.Machine

/-- The meaning of an instruction or event. -/
def exec (i : Instr) (s : State) : Host.Outcome State Fault Refusal :=
  match i with
  | .add d a b => Sys2Proof.Machine.execAdd d a b s
  | .sub d a b => Sys2Proof.Machine.execSub d a b s
  | .mul d a b => Sys2Proof.Machine.execMul d a b s
  | .mulh d a b => Sys2Proof.Machine.execMulh d a b s
  | .mulhn d a b => Sys2Proof.Machine.execMulhn d a b s
  | .div d a b => Sys2Proof.Machine.execDiv d a b s
  | .divn d a b => Sys2Proof.Machine.execDivn d a b s
  | .rem d a b => Sys2Proof.Machine.execRem d a b s
  | .remn d a b => Sys2Proof.Machine.execRemn d a b s
  | .neg d a => Sys2Proof.Machine.execNeg d a s
  | .and d a b => Sys2Proof.Machine.execAnd d a b s
  | .or d a b => Sys2Proof.Machine.execOr d a b s
  | .xor d a b => Sys2Proof.Machine.execXor d a b s
  | .andn d a b => Sys2Proof.Machine.execAndn d a b s
  | .orn d a b => Sys2Proof.Machine.execOrn d a b s
  | .shl d a b => Sys2Proof.Machine.execShl d a b s
  | .shr d a b => Sys2Proof.Machine.execShr d a b s
  | .shra d a b => Sys2Proof.Machine.execShra d a b s
  | .rotr d a b => Sys2Proof.Machine.execRotr d a b s
  | .cmpeq d a b => Sys2Proof.Machine.execCmpeq d a b s
  | .cmpne d a b => Sys2Proof.Machine.execCmpne d a b s
  | .cmplt d a b => Sys2Proof.Machine.execCmplt d a b s
  | .cmpge d a b => Sys2Proof.Machine.execCmpge d a b s
  | .cmpltn d a b => Sys2Proof.Machine.execCmpltn d a b s
  | .cmpgen d a b => Sys2Proof.Machine.execCmpgen d a b s
  | .min d a b => Sys2Proof.Machine.execMin d a b s
  | .max d a b => Sys2Proof.Machine.execMax d a b s
  | .minn d a b => Sys2Proof.Machine.execMinn d a b s
  | .maxn d a b => Sys2Proof.Machine.execMaxn d a b s
  | .sel d a b => Sys2Proof.Machine.execSel d a b s
  | .clz d a => Sys2Proof.Machine.execClz d a s
  | .ctz d a => Sys2Proof.Machine.execCtz d a s
  | .popc d a => Sys2Proof.Machine.execPopc d a s
  | .sextb d a => Sys2Proof.Machine.execSextb d a s
  | .sexth d a => Sys2Proof.Machine.execSexth d a s
  | .sextw d a => Sys2Proof.Machine.execSextw d a s
  | .zextb d a => Sys2Proof.Machine.execZextb d a s
  | .zexth d a => Sys2Proof.Machine.execZexth d a s
  | .zextw d a => Sys2Proof.Machine.execZextw d a s
  | .addi d a imm => Sys2Proof.Machine.execAddi d a imm s
  | .andi d a imm => Sys2Proof.Machine.execAndi d a imm s
  | .ori d a imm => Sys2Proof.Machine.execOri d a imm s
  | .xori d a imm => Sys2Proof.Machine.execXori d a imm s
  | .shli d a sa => Sys2Proof.Machine.execShli d a sa s
  | .shri d a sa => Sys2Proof.Machine.execShri d a sa s
  | .shrai d a sa => Sys2Proof.Machine.execShrai d a sa s
  | .rotri d a sa => Sys2Proof.Machine.execRotri d a sa s
  | .cmpeqi d a imm => Sys2Proof.Machine.execCmpeqi d a imm s
  | .cmpnei d a imm => Sys2Proof.Machine.execCmpnei d a imm s
  | .cmplti d a imm => Sys2Proof.Machine.execCmplti d a imm s
  | .cmpgei d a imm => Sys2Proof.Machine.execCmpgei d a imm s
  | .cmpltni d a imm => Sys2Proof.Machine.execCmpltni d a imm s
  | .cmpgeni d a imm => Sys2Proof.Machine.execCmpgeni d a imm s
  | .ldi d imm => Sys2Proof.Machine.execLdi d imm s
  | .ldih d a imm => Sys2Proof.Machine.execLdih d a imm s
  | .addp d a b => Sys2Proof.Machine.execAddp d a b s
  | .subp d a b => Sys2Proof.Machine.execSubp d a b s
  | .idxp d a b => Sys2Proof.Machine.execIdxp d a b s
  | .mkp d a b => Sys2Proof.Machine.execMkp d a b s
  | .getf d a => Sys2Proof.Machine.execGetf d a s
  | .adrp d a => Sys2Proof.Machine.execAdrp d a s
  | .addpi d a imm => Sys2Proof.Machine.execAddpi d a imm s
  | .fpadd d a b => Sys2Proof.Machine.execFpadd d a b s
  | .fpsub d a b => Sys2Proof.Machine.execFpsub d a b s
  | .fpmul d a b => Sys2Proof.Machine.execFpmul d a b s
  | .fpdiv d a b => Sys2Proof.Machine.execFpdiv d a b s
  | .fpfma d a b => Sys2Proof.Machine.execFpfma d a b s
  | .fpsqrt d a => Sys2Proof.Machine.execFpsqrt d a s
  | .fpmin d a b => Sys2Proof.Machine.execFpmin d a b s
  | .fpmax d a b => Sys2Proof.Machine.execFpmax d a b s
  | .fpabs d a => Sys2Proof.Machine.execFpabs d a s
  | .fpneg d a => Sys2Proof.Machine.execFpneg d a s
  | .fpcmpeq d a b => Sys2Proof.Machine.execFpcmpeq d a b s
  | .fpcmplt d a b => Sys2Proof.Machine.execFpcmplt d a b s
  | .fpcmple d a b => Sys2Proof.Machine.execFpcmple d a b s
  | .fptoi d a => Sys2Proof.Machine.execFptoi d a s
  | .fptoiz d a => Sys2Proof.Machine.execFptoiz d a s
  | .fpton d a => Sys2Proof.Machine.execFpton d a s
  | .itofp d a => Sys2Proof.Machine.execItofp d a s
  | .ntofp d a => Sys2Proof.Machine.execNtofp d a s
  | .fptoh d a => Sys2Proof.Machine.execFptoh d a s
  | .htofp d a => Sys2Proof.Machine.execHtofp d a s
  | .fptob d a => Sys2Proof.Machine.execFptob d a s
  | .btofp d a => Sys2Proof.Machine.execBtofp d a s
  | .beq a b o => Sys2Proof.Machine.execBeq a b o s
  | .bne a b o => Sys2Proof.Machine.execBne a b o s
  | .blt a b o => Sys2Proof.Machine.execBlt a b o s
  | .bge a b o => Sys2Proof.Machine.execBge a b o s
  | .bltn a b o => Sys2Proof.Machine.execBltn a b o s
  | .bgen a b o => Sys2Proof.Machine.execBgen a b o s
  | .j o => Sys2Proof.Machine.execJ o s
  | .jal o => Sys2Proof.Machine.execJal o s
  | .jr a => Sys2Proof.Machine.execJr a s
  | .jalr d a => Sys2Proof.Machine.execJalr d a s
  | .ldb d a l r sa o => Sys2Proof.Machine.execLdb d a l r sa o s
  | .ldh d a l r sa o => Sys2Proof.Machine.execLdh d a l r sa o s
  | .ldw d a l r sa o => Sys2Proof.Machine.execLdw d a l r sa o s
  | .ldd d a l r sa o => Sys2Proof.Machine.execLdd d a l r sa o s
  | .ldnb d a l r sa o => Sys2Proof.Machine.execLdnb d a l r sa o s
  | .ldnh d a l r sa o => Sys2Proof.Machine.execLdnh d a l r sa o s
  | .ldnw d a l r sa o => Sys2Proof.Machine.execLdnw d a l r sa o s
  | .stb d a l r sa o => Sys2Proof.Machine.execStb d a l r sa o s
  | .sth d a l r sa o => Sys2Proof.Machine.execSth d a l r sa o s
  | .stw d a l r sa o => Sys2Proof.Machine.execStw d a l r sa o s
  | .std d a l r sa o => Sys2Proof.Machine.execStd d a l r sa o s
  | .ldv d a l r o => Sys2Proof.Machine.execLdv d a l r o s
  | .stv d a l r o => Sys2Proof.Machine.execStv d a l r o s
  | .ldbp d a l r o => Sys2Proof.Machine.execLdbp d a l r o s
  | .stbp d a l r o => Sys2Proof.Machine.execStbp d a l r o s
  | .aadd d a b l => Sys2Proof.Machine.execAadd d a b l s
  | .aand d a b l => Sys2Proof.Machine.execAand d a b l s
  | .aor d a b l => Sys2Proof.Machine.execAor d a b l s
  | .axor d a b l => Sys2Proof.Machine.execAxor d a b l s
  | .amin d a b l => Sys2Proof.Machine.execAmin d a b l s
  | .amax d a b l => Sys2Proof.Machine.execAmax d a b l s
  | .aminn d a b l => Sys2Proof.Machine.execAminn d a b l s
  | .amaxn d a b l => Sys2Proof.Machine.execAmaxn d a b l s
  | .aswap d a b l => Sys2Proof.Machine.execAswap d a b l s
  | .acas d a b l => Sys2Proof.Machine.execAcas d a b l s
  | .afadd d a b l => Sys2Proof.Machine.execAfadd d a b l s
  | .abump d a b l => Sys2Proof.Machine.execAbump d a b l s
  | .atmerge d a b l => Sys2Proof.Machine.execAtmerge d a b l s
  | .aaddRx a b => Sys2Proof.Machine.execAaddRx a b s
  | .aandRx a b => Sys2Proof.Machine.execAandRx a b s
  | .aorRx a b => Sys2Proof.Machine.execAorRx a b s
  | .axorRx a b => Sys2Proof.Machine.execAxorRx a b s
  | .aminRx a b => Sys2Proof.Machine.execAminRx a b s
  | .amaxRx a b => Sys2Proof.Machine.execAmaxRx a b s
  | .aminnRx a b => Sys2Proof.Machine.execAminnRx a b s
  | .amaxnRx a b => Sys2Proof.Machine.execAmaxnRx a b s
  | .afaddRx a b => Sys2Proof.Machine.execAfaddRx a b s
  | .atmergeRx a b => Sys2Proof.Machine.execAtmergeRx a b s
  | .wstate d a l o => Sys2Proof.Machine.execWstate d a l o s
  | .wset d a l o => Sys2Proof.Machine.execWset d a l o s
  | .fenceCore => Sys2Proof.Machine.execFenceCore s
  | .fenceNode => Sys2Proof.Machine.execFenceNode s
  | .fenceDev => Sys2Proof.Machine.execFenceDev s
  | .fencePod => Sys2Proof.Machine.execFencePod s
  | .bclose d t => Sys2Proof.Machine.execBclose d t s
  | .btest d t => Sys2Proof.Machine.execBtest d t s
  | .waitany d a => Sys2Proof.Machine.execWaitany d a s
  | .waitall a => Sys2Proof.Machine.execWaitall a s
  | .ffready d a => Sys2Proof.Machine.execFfready d a s
  | .tagclr a => Sys2Proof.Machine.execTagclr a s
  | .fork d a b => Sys2Proof.Machine.execFork d a b s
  | .spawnat d a b l => Sys2Proof.Machine.execSpawnat d a b l s
  | .join a l => Sys2Proof.Machine.execJoin a l s
  | .exit a => Sys2Proof.Machine.execExit a s
  | .yield => Sys2Proof.Machine.execYield s
  | .nextw d => Sys2Proof.Machine.execNextw d s
  | .sendr a b => Sys2Proof.Machine.execSendr a b s
  | .sendrRl a b => Sys2Proof.Machine.execSendrRl a b s
  | .sendrB a b t => Sys2Proof.Machine.execSendrB a b t s
  | .sendrRlB a b t => Sys2Proof.Machine.execSendrRlB a b t s
  | .takeG d a => Sys2Proof.Machine.execTakeG d a s
  | .takeV d a => Sys2Proof.Machine.execTakeV d a s
  | .emptyG a => Sys2Proof.Machine.execEmptyG a s
  | .emptyV a => Sys2Proof.Machine.execEmptyV a s
  | .ptestG d a => Sys2Proof.Machine.execPtestG d a s
  | .ptestV d a => Sys2Proof.Machine.execPtestV d a s
  | .self d => Sys2Proof.Machine.execSelf d s
  | .hreg d a b => Sys2Proof.Machine.execHreg d a b s
  | .plook d a l => Sys2Proof.Machine.execPlook d a l s
  | .pmake d a b l => Sys2Proof.Machine.execPmake d a b l s
  | .patt d a l => Sys2Proof.Machine.execPatt d a l s
  | .pattT d a l => Sys2Proof.Machine.execPattT d a l s
  | .pdet a l => Sys2Proof.Machine.execPdet a l s
  | .pseal a l => Sys2Proof.Machine.execPseal a l s
  | .pevict a l => Sys2Proof.Machine.execPevict a l s
  | .pfree a l => Sys2Proof.Machine.execPfree a l s
  | .mmaz l => Sys2Proof.Machine.execMmaz l s
  | .mma a b l g => Sys2Proof.Machine.execMma a b l g s
  | .rfree l => Sys2Proof.Machine.execRfree l s
  | .epi a b l => Sys2Proof.Machine.execEpi a b l s
  | .copy a b l => Sys2Proof.Machine.execCopy a b l s
  | .gather a b l => Sys2Proof.Machine.execGather a b l s
  | .scatter a b l => Sys2Proof.Machine.execScatter a b l s
  | .bins a b l => Sys2Proof.Machine.execBins a b l s
  | .mcast a b l => Sys2Proof.Machine.execMcast a b l s
  | .freeb a l => Sys2Proof.Machine.execFreeb a l s
  | .fillw a b l => Sys2Proof.Machine.execFillw a b l s
  | .eset e a n => Sys2Proof.Machine.execEset e a n s
  | .eget e d n => Sys2Proof.Machine.execEget e d n s
  | .epop e d => Sys2Proof.Machine.execEpop e d s
  | .ewait e d => Sys2Proof.Machine.execEwait e d s
  | .etest e d => Sys2Proof.Machine.execEtest e d s
  | .vadd d a b => Sys2Proof.Machine.execVadd d a b s
  | .vsub d a b => Sys2Proof.Machine.execVsub d a b s
  | .vmul d a b => Sys2Proof.Machine.execVmul d a b s
  | .vmad d a b c => Sys2Proof.Machine.execVmad d a b c s
  | .vmin d a b => Sys2Proof.Machine.execVmin d a b s
  | .vmax d a b => Sys2Proof.Machine.execVmax d a b s
  | .vabs d a => Sys2Proof.Machine.execVabs d a s
  | .vneg d a => Sys2Proof.Machine.execVneg d a s
  | .vadds d a b => Sys2Proof.Machine.execVadds d a b s
  | .vsubs d a b => Sys2Proof.Machine.execVsubs d a b s
  | .vmuls d a b => Sys2Proof.Machine.execVmuls d a b s
  | .vand d a b => Sys2Proof.Machine.execVand d a b s
  | .vor d a b => Sys2Proof.Machine.execVor d a b s
  | .vxor d a b => Sys2Proof.Machine.execVxor d a b s
  | .vandn d a b => Sys2Proof.Machine.execVandn d a b s
  | .vshl d a b => Sys2Proof.Machine.execVshl d a b s
  | .vshr d a b => Sys2Proof.Machine.execVshr d a b s
  | .vshra d a b => Sys2Proof.Machine.execVshra d a b s
  | .vcmpeq d a b => Sys2Proof.Machine.execVcmpeq d a b s
  | .vcmpne d a b => Sys2Proof.Machine.execVcmpne d a b s
  | .vcmplt d a b => Sys2Proof.Machine.execVcmplt d a b s
  | .vcmple d a b => Sys2Proof.Machine.execVcmple d a b s
  | .vsel d a b c => Sys2Proof.Machine.execVsel d a b c s
  | .vperm d a b c => Sys2Proof.Machine.execVperm d a b c s
  | .vcvt d a t p => Sys2Proof.Machine.execVcvt d a t p s
  | .vqscl d a b => Sys2Proof.Machine.execVqscl d a b s
  | .vqnt d a b sa => Sys2Proof.Machine.execVqnt d a b sa s
  | .vexp2 d a l => Sys2Proof.Machine.execVexp2 d a l s
  | .vlog2 d a l => Sys2Proof.Machine.execVlog2 d a l s
  | .vrcp d a l => Sys2Proof.Machine.execVrcp d a l s
  | .vrsq d a l => Sys2Proof.Machine.execVrsq d a l s
  | .vdot d a b => Sys2Proof.Machine.execVdot d a b s
  | .vdots d a b => Sys2Proof.Machine.execVdots d a b s
  | .vrsum d a => Sys2Proof.Machine.execVrsum d a s
  | .vrmin d a => Sys2Proof.Machine.execVrmin d a s
  | .vrmax d a => Sys2Proof.Machine.execVrmax d a s
  | .vsplat d a => Sys2Proof.Machine.execVsplat d a s
  | .vext d a b => Sys2Proof.Machine.execVext d a b s
  | .vins d a b => Sys2Proof.Machine.execVins d a b s
  | .tminit d => Sys2Proof.Machine.execTminit d s
  | .tmacc d a b l => Sys2Proof.Machine.execTmacc d a b l s
  | .tmmrg d a b l => Sys2Proof.Machine.execTmmrg d a b l s
  | .tmfin d a l => Sys2Proof.Machine.execTmfin d a l s
  | .tmload a p l => Sys2Proof.Machine.execTmload a p l s
  | .nop => Sys2Proof.Machine.execNop s
  | .trap a c => Sys2Proof.Machine.execTrap a c s
  | .rte => Sys2Proof.Machine.execRte s
  | .srd d n => Sys2Proof.Machine.execSrd d n s
  | .swr a n => Sys2Proof.Machine.execSwr a n s
  | .bkpt c => Sys2Proof.Machine.execBkpt c s
  | .wastedTurn sl => Sys2Proof.Machine.execWastedTurn sl s
  | .targetFaultTrap sl => Sys2Proof.Machine.execTargetFaultTrap sl s
  | .save sl => Sys2Proof.Machine.execSave sl s
  | .functionResult sl => Sys2Proof.Machine.execFunctionResult sl s
  | .meanResult sl => Sys2Proof.Machine.execMeanResult sl s
  | .parkResume sl => Sys2Proof.Machine.execParkResume sl s
  | .drainTimeout sl => Sys2Proof.Machine.execDrainTimeout sl s
  | .portAccept sl => Sys2Proof.Machine.execPortAccept sl s
  | .routeDeliver id => Sys2Proof.Machine.execRouteDeliver id s
  | .bankPerform p => Sys2Proof.Machine.execBankPerform p s
  | .waitListRetry id => Sys2Proof.Machine.execWaitListRetry id s
  | .reply id => Sys2Proof.Machine.execReply id s
  | .fenceMarkerReturn sl id => Sys2Proof.Machine.execFenceMarkerReturn sl id s
  | .summaryRequest sl tag peer => Sys2Proof.Machine.execSummaryRequest sl tag peer s
  | .summaryReply sl tag peer => Sys2Proof.Machine.execSummaryReply sl tag peer s
  | .landingArrive id => Sys2Proof.Machine.execLandingArrive id s
  | .landingTimeout core id => Sys2Proof.Machine.execLandingTimeout core id s
  | .routeHint id => Sys2Proof.Machine.execRouteHint id s
  | .routeInvalidate id => Sys2Proof.Machine.execRouteInvalidate id s
  | .logAppend id => Sys2Proof.Machine.execLogAppend id s
  | .taskTake core => Sys2Proof.Machine.execTaskTake core s
  | .stealProbe core => Sys2Proof.Machine.execStealProbe core s
  | .stealRecordArrive core => Sys2Proof.Machine.execStealRecordArrive core s
  | .stealRetry sl => Sys2Proof.Machine.execStealRetry sl s
  | .spawnArrive id => Sys2Proof.Machine.execSpawnArrive id s
  | .nodePartComplete node seq => Sys2Proof.Machine.execNodePartComplete node seq s
  | .doneMessage node seq => Sys2Proof.Machine.execDoneMessage node seq s
  | .engineDispatch sl => Sys2Proof.Machine.execEngineDispatch sl s
  | .burinTake tile => Sys2Proof.Machine.execBurinTake tile s
  | .mmaComplete tile => Sys2Proof.Machine.execMmaComplete tile s
  | .mmaGranuleStop tile => Sys2Proof.Machine.execMmaGranuleStop tile s
  | .epiTake tile => Sys2Proof.Machine.execEpiTake tile s
  | .epiComplete tile => Sys2Proof.Machine.execEpiComplete tile s
  | .hartTake node h => Sys2Proof.Machine.execHartTake node h s
  | .commandComplete node h => Sys2Proof.Machine.execCommandComplete node h s
  | .freebArrive id => Sys2Proof.Machine.execFreebArrive id s
  | .tableSwitch tile => Sys2Proof.Machine.execTableSwitch tile s
  | .evictComplete node e => Sys2Proof.Machine.execEvictComplete node e s
  | .plateTableStep node => Sys2Proof.Machine.execPlateTableStep node s
  | .preemptMark seq core => Sys2Proof.Machine.execPreemptMark seq core s
  | .saveComplete sl => Sys2Proof.Machine.execSaveComplete sl s
  | .restore birth gen => Sys2Proof.Machine.execRestore birth gen s
  | .restoreCodeLoad birth gen => Sys2Proof.Machine.execRestoreCodeLoad birth gen s
  | .preemptWithdraw sl => Sys2Proof.Machine.execPreemptWithdraw sl s
  | .snoopEvent q data => Sys2Proof.Machine.execSnoopEvent q data s
  | .launch q => Sys2Proof.Machine.execLaunch q s
  | .placementRetry => Sys2Proof.Machine.execPlacementRetry s
  | .codeMulticast seq die => Sys2Proof.Machine.execCodeMulticast seq die s
  | .codeAck seq node => Sys2Proof.Machine.execCodeAck seq node s
  | .wait q => Sys2Proof.Machine.execWait q s
  | .waitRemap q => Sys2Proof.Machine.execWaitRemap q s
  | .waitTimeout q => Sys2Proof.Machine.execWaitTimeout q s
  | .signal q => Sys2Proof.Machine.execSignal q s
  | .plateop q => Sys2Proof.Machine.execPlateop q s
  | .nopPacket q => Sys2Proof.Machine.execNopPacket q s
  | .packetReread q => Sys2Proof.Machine.execPacketReread q s
  | .download rep => Sys2Proof.Machine.execDownload rep s
  | .ctxset => Sys2Proof.Machine.execCtxset s
  | .ctxend => Sys2Proof.Machine.execCtxend s
  | .qreg => Sys2Proof.Machine.execQreg s
  | .qrestart => Sys2Proof.Machine.execQrestart s
  | .qclass => Sys2Proof.Machine.execQclass s
  | .memwin => Sys2Proof.Machine.execMemwin s
  | .podkey => Sys2Proof.Machine.execPodkey s
  | .registerWrite off v => Sys2Proof.Machine.execRegisterWrite off v s
  | .hostMemAccess addr data => Sys2Proof.Machine.execHostMemAccess addr data s
  | .stateWindowRead off => Sys2Proof.Machine.execStateWindowRead off s
  | .bar2Write off v => Sys2Proof.Machine.execBar2Write off v s
  | .powerUpReset => Sys2Proof.Machine.execPowerUpReset s
  | .bucketPeriod node => Sys2Proof.Machine.execBucketPeriod node s
  | .thermalThrottle node temp => Sys2Proof.Machine.execThermalThrottle node temp s
  | .droopThrottle node => Sys2Proof.Machine.execDroopThrottle node s
  | .droopThrottleEnd node => Sys2Proof.Machine.execDroopThrottleEnd node s
  | .thermalShutdown node => Sys2Proof.Machine.execThermalShutdown node s
  | .rotorMeeting port slot => Sys2Proof.Machine.execRotorMeeting port slot s
  | .relayOffer hdr body => Sys2Proof.Machine.execRelayOffer hdr body s
  | .frameReceive port trailer payload => Sys2Proof.Machine.execFrameReceive port trailer payload s
  | .podPacketArrive hdr body => Sys2Proof.Machine.execPodPacketArrive hdr body s
  | .podReceipt dst seq => Sys2Proof.Machine.execPodReceipt dst seq s
  | .podPacketExpire id => Sys2Proof.Machine.execPodPacketExpire id s
  | .waitingNotice id => Sys2Proof.Machine.execWaitingNotice id s
  | .remoteReplyTimeout id => Sys2Proof.Machine.execRemoteReplyTimeout id s
  | .summaryPeerTimeout id => Sys2Proof.Machine.execSummaryPeerTimeout id s
  | .summaryResend sl tag peer => Sys2Proof.Machine.execSummaryResend sl tag peer s
  | .peerLostDeclare pos => Sys2Proof.Machine.execPeerLostDeclare pos s
  | .lossNotice pos => Sys2Proof.Machine.execLossNotice pos s
  | .podJoin pos epoch cap ports => Sys2Proof.Machine.execPodJoin pos epoch cap ports s
  | .keyRotate port partner => Sys2Proof.Machine.execKeyRotate port partner s
  | .keyTimeout port partner => Sys2Proof.Machine.execKeyTimeout port partner s
  | .probeEmptyReply core => Sys2Proof.Machine.execProbeEmptyReply core s
  | .thiefAnswer core => Sys2Proof.Machine.execThiefAnswer core s
  | .failedPresenceWindow port slot => Sys2Proof.Machine.execFailedPresenceWindow port slot s
  | .installMessage pos id => Sys2Proof.Machine.execInstallMessage pos id s
  | .unknownCommandCode code => Sys2Proof.Machine.execUnknownCommandCode code s
  | .relayDropRefusal id => Sys2Proof.Machine.execRelayDropRefusal id s

end Sys2Proof.Machine
end

