-- ==== Sys2Proof/Machine/Step.lean ====
section
/-! DEFINITION. One step of the module, and the placing of one instruction for the next step. All that a step does
beside the meaning of the instruction or event stands in Turn.lean and Plan.lean. -/

namespace Sys2Proof.Machine

/-- One step (log entry 3). -/
def step (s : State) : Host.Outcome State Fault Refusal :=
  match plan s with
  | .down => .fault .powerRemoved
  | .stay t => .next (noteChanges s t)
  | .run i t => noted s (exec i t)

/-- The state whose next step fetches and runs the instruction with these bits (log entry 7). -/
def State.withFetchWord (s : State) (nbits w : Nat) : State := placeWord s (BitVec.ofNat 32 (w % 2 ^ nbits))

end Sys2Proof.Machine
end

