-- ==== Sys2Proof/Safety.lean ====
section
/-! DEFINITION. The terms in which claims speak: when a word issues, what one word may change, and what counts as a safe
run of the module: no step of it ends in a fault or a refusal. The one fault of the model is the loss of module power
(R402). -/

namespace Sys2Proof.Safety

open Sys2Proof.Machine

/-- The state after `n` steps, where each answers a next state. -/
def run : Nat → State → Option State
  | 0, s => some s
  | n + 1, s =>
    match step s with
    | .next t => run n t
    | _ => none

/-- A run of `n` steps that never stops. -/
def Safe (n : Nat) (s : State) : Prop := (run n s).isSome = true

/-! ### Memory -/

/-- Memory, host memory and firmware SRAM list no byte that reads as an unlisted one and are sorted; the word states list
no FULL word and are sorted. -/
def MemoryForm (s : State) : Prop :=
  Memory.wf s.mem = true ∧ Memory.wf s.hostMem = true ∧ Memory.wf s.image = true ∧ Tab.canon 1#2 s.wst = true

/-! ### When a word issues (R75, R382) -/

/-- The word issues in the slot whose turn it is: every check of R75 passes, and no register that it reads holds an
uncorrectable error (R382). -/
structure Issues (s : State) (i : Instr) : Prop where
  /-- check 1: no lookahead window has run out (R71) -/
  window : ∀ w ∈ (s.slot s.cur).wins, w.count ≠ 0
  /-- check 2: what it reads is full and not pending (R72, R123) -/
  reads : ∀ r ∈ (usesOf i).reads, inMask (s.slot s.cur).pres r = true ∧ inMask (s.slot s.cur).pend r = false
  /-- check 2: what it writes is not pending (R72) -/
  writes : ∀ r ∈ (usesOf i).writes, inMask (s.slot s.cur).pend r = false
  /-- check 3: no earlier access stands in the way (R83, R320) -/
  access : accessBlock (s.slot s.cur) (usesOf i).access = false
  /-- check 4: the wait that its entry names is over -/
  wait : waitBlock s s.cur (usesOf i).wait = none
  /-- its operand registers can be read (R382) -/
  sound : ∀ r ∈ (usesOf i).reads, inMask (s.slot s.cur).rerr r = false

/-! ### What a word leaves alone -/

/-- The special registers, descriptors and attach records that a trap leaves alone. -/
structure SameModes (x y : Slot) : Prop where
  efmt : y.efmt = x.efmt
  shape : y.shape = x.shape
  tmsel : y.tmsel = x.tmsel
  batch : y.batch = x.batch
  bstat : y.bstat = x.bstat
  btrap : y.btrap = x.btrap
  tvec : y.tvec = x.tvec
  waitlim : y.waitlim = x.waitlim
  items : y.items = x.items
  routes : y.routes = x.routes
  edesc0 : y.edesc0 = x.edesc0
  edesc1 : y.edesc1 = x.edesc1
  estat0 : y.estat0 = x.estat0
  estat1 : y.estat1 = x.estat1
  attach : y.attach = x.attach
  owned : y.owned = x.owned
  logged : y.logged = x.logged
  named : y.named = x.named

/-- The registers of exceptions, and the deferred-fault record. -/
structure SameTraps (x y : Slot) : Prop where
  epc : y.epc = x.epc
  fcause : y.fcause = x.fcause
  faddr : y.faddr = x.faddr
  finfo : y.finfo = x.finfo
  dfr : y.dfr = x.dfr

/-- What only the words that name them, a trap or an RTE may change. -/
structure SameSpecials (x y : Slot) : Prop where
  modes : SameModes x y
  traps : SameTraps x y

/-- Registers of the slot outside the list of codes `w` (0 to 31 g, 32 to 47 v) keep value and presence. -/
structure SameRegs (x y : Slot) (w : List Nat) : Prop where
  g : ∀ r : Reg, gcode r ∉ w → y.rg r = x.rg r
  v : ∀ r : VReg, vcode r ∉ w → y.rv r = x.rv r
  pres : ∀ c : Nat, c ∉ w → inMask y.pres c = inMask x.pres c

/-- All other slots, every byte of memory, every word state, the cores, the tiles, the plates, the requests and what the
module keeps of contexts, launches, queues, the host and the pod are as they were. -/
structure SameElse (s t : State) (cur : Nat) : Prop where
  slots : ∀ k, k ≠ cur → t.slot k = s.slot k
  bytes : ∀ a, Memory.byte t.mem a = Memory.byte s.mem a
  states : ∀ a, t.wordState a = s.wordState a
  cores : ∀ c, t.core c = s.core c
  tiles : ∀ k, t.tile k = s.tile k
  plates : ∀ n e, t.plate n e = s.plate n e
  reqs : t.reqs = s.reqs
  ctxs : t.ctxs = s.ctxs
  launches : t.launches = s.launches
  queues : t.queues = s.queues
  hostMem : t.hostMem = s.hostMem
  pod : t.pod = s.pod

/-- The word issued: it counts in ISSUED, no other counter changes, and the slot runs on at `pc` (R75, R84). -/
structure Retired (x y : Slot) (pc : Nat) : Prop where
  pc : y.pc = pc
  st : y.st = .running
  issued : y.cnt.get cntIssued = x.cnt.get cntIssued + 1#64
  counters : ∀ k, k ≠ cntIssued → y.cnt.get k = x.cnt.get k

/-- The word goes on and changes nothing but the registers with codes in `w`, ISSUED, the windows and the PC. -/
structure RegStep (s t : State) (w : List Nat) (pc : Nat) : Prop where
  regs : SameRegs (s.slot s.cur) (t.slot s.cur) w
  specials : SameSpecials (s.slot s.cur) (t.slot s.cur)
  retired : Retired (s.slot s.cur) (t.slot s.cur) pc
  others : SameElse s t s.cur

/-- The word writes `v` to G[d], full, and changes nothing else (R106, R123). -/
def WritesG (s : State) (i : Instr) (d : Reg) (v : Word) : Prop :=
  ∃ t, exec i s = .next t ∧ RegStep s t [gcode d] ((s.slot s.cur).pc + 4)
    ∧ (t.slot s.cur).rg d = v ∧ inMask (t.slot s.cur).pres (gcode d) = true

/-- The word writes `v` to V[d], full, and changes nothing else (R106, R214). -/
def WritesV (s : State) (i : Instr) (d : VReg) (v : Vec) : Prop :=
  ∃ t, exec i s = .next t ∧ RegStep s t [vcode d] ((s.slot s.cur).pc + 4)
    ∧ (t.slot s.cur).rv d = v ∧ inMask (t.slot s.cur).pres (vcode d) = true

/-- The word writes no register and control goes to `pc`. -/
def GoesTo (s : State) (i : Instr) (pc : Nat) : Prop := ∃ t, exec i s = .next t ∧ RegStep s t [] pc

/-- A trap is taken in the slot whose turn it is (R378): cause, address word, info word and resume offset are recorded
(EPC has 15 bits, R389), every window is closed, and the handler at TVEC runs with INH set; no register, other special
register, counter or byte of memory changes. -/
structure TrapsTo (s t : State) (c : BitVec 8) (a f : Word) (e : Nat) : Prop where
  epc : (t.slot s.cur).epc = wd (e % 2 ^ 15)
  cause : (t.slot s.cur).fcause = (1#64 <<< 63) ||| (c.setWidth 64)
  faddr : (t.slot s.cur).faddr = a
  finfo : (t.slot s.cur).finfo = f
  pc : (t.slot s.cur).pc = (s.slot s.cur).tvec.toNat
  st : (t.slot s.cur).st = .running
  wins : (t.slot s.cur).wins = []
  regs : SameRegs (s.slot s.cur) (t.slot s.cur) []
  modes : SameModes (s.slot s.cur) (t.slot s.cur)
  counters : (t.slot s.cur).cnt = (s.slot s.cur).cnt
  dfr : (t.slot s.cur).dfr = (s.slot s.cur).dfr
  others : SameElse s t s.cur

/-- The slot takes a trap as handled: a handler is named, and it is not in one (R378, R381). -/
structure Handles (s : State) : Prop where
  out : (s.slot s.cur).inh = false
  handler : (s.slot s.cur).hasHandler = true

/-! ### Accesses (R71, R83, R159, R160, R172, R185) -/

/-- What an access word of one perform asks for. -/
structure Wants where
  relaxed : Bool
  dest : Dest
  /-- how the reply fills the destination (R158, R231) -/
  fill : Fill
  /-- lookahead count; none for a form without a completion event (R70) -/
  la : Option Nat
  /-- it is an item of the batch tag in BATCH (R160, R176) -/
  item : Bool
  /-- the address formed, the bytes touched, and the permissions it needs (R180) -/
  ea : Nat
  size : Nat
  need : Need
  op : MemOp
  /-- the operation of an atomic (R171) -/
  amo : Option Nat
  /-- what FINFO holds for its faults, less the reason (R162) -/
  info : Word

/-- Another module whose capability word lacks the operation (R172, R336). -/
def Lacks (s : State) (p : Place) (op : Nat) : Prop :=
  ∃ pos j, p = .remote pos ∧ Tab.look s.pod.joins pos = some j ∧ j.cap.getLsbD op = false

/-- Another module that has been declared lost (R350). -/
def Lost (s : State) (p : Place) : Prop := ∃ pos, p = .remote pos ∧ pos ∈ s.pod.lost

/-- The tag in BATCH (R186). -/
def tagNow (x : Slot) : Nat := x.batch.toNat % 4

/-- Items that stay open as an item of tag `k` issues: a 65th item closes the tag first (R187). -/
def openItems (x : Slot) (k : Nat) : List Item :=
  if (x.tagItems k).length < 64 then x.items else x.items.filter (fun i => decide (i.tag ≠ k))

/-- The tag can take an item: it has fewer than 64, or none of its 64 failed (R187). -/
def Room (x : Slot) (k : Nat) : Prop := (x.tagItems k).length < 64 ∨ ∀ i ∈ x.tagItems k, i.code = 0#8

/-- The sequence number of the next item of a tag: 0 after a close (R185, R187). -/
def itemNo (x : Slot) (k : Nat) : Nat := if (x.tagItems k).length < 64 then (x.tagItems k).length else 0

/-- What issuing an access leaves in its slot, but for items: the destination pending with its old value, the window
opened under the access's number with the count of the la field, every older window's count down by one, the PC after
the word, and one more outstanding access, of `parts` performs (R70, R71, R75, R83). -/
structure Opens (s t : State) (dest : Dest) (la : Option Nat) (relaxed plt : Bool) (fill : Option Fill) (parts : Nat) : Prop where
  g : ∀ r, (t.slot s.cur).rg r = (s.slot s.cur).rg r
  v : ∀ r, (t.slot s.cur).rv r = (s.slot s.cur).rv r
  pres : ∀ c, inMask (t.slot s.cur).pres c = (inMask (s.slot s.cur).pres c && !inMask dest.mask c)
  pend : ∀ c, inMask (t.slot s.cur).pend c = (inMask (s.slot s.cur).pend c || inMask dest.mask c)
  modes : SameModes { s.slot s.cur with items := (t.slot s.cur).items } (t.slot s.cur)
  traps : SameTraps (s.slot s.cur) (t.slot s.cur)
  retired : Retired (s.slot s.cur) (t.slot s.cur) ((s.slot s.cur).pc + 4)
  wins : (t.slot s.cur).wins = (s.slot s.cur).wins.map (fun w => { w with count := w.count - 1 })
    ++ (la.map (fun c => { id := s.nextId, count := c, dests := dest.mask : Win })).toList
  accs : ∃ a : Acc, (t.slot s.cur).accs = (s.slot s.cur).accs ++ [a] ∧ a.id = s.nextId ∧ a.relaxed = relaxed ∧ a.plt = plt
    ∧ a.dest = dest ∧ a.pca = (s.slot s.cur).pc ∧ a.left = parts ∧ a.fault = none ∧ (∀ f, fill = some f → a.fill = f)
  others : SameElse { s with reqs := t.reqs } t s.cur

/-- A request of the access that has just been opened lies in the slot's outbound queue (R83, R198). -/
structure Sends (s : State) (r : Req) (op : MemOp) (ea : Word) (relaxed : Bool) (item : Option (Nat × Nat)) : Prop where
  own : r.own = .slot s.cur (s.slot s.cur).th
  ctx : r.ctx = (s.slot s.cur).ctx
  op : r.op = op
  ea : r.ea = ea
  acc : r.acc = s.nextId
  relaxed : r.relaxed = relaxed
  item : r.item = item
  limit : r.limit = (s.slot s.cur).waitlim.toNat % 65536
  stage : r.stage = .outbound

/-- Where a request goes: to the owner of the byte index, or to the other module (R177, R196, R204). -/
def AimsAt (r : Req) (op : MemOp) (ea : Word) : Place → Prop
  | .mem loc => r.loc = loc ∧ r.tgt = targetOf loc op.size
  | .remote pos => r.loc = ea.toNat % 2 ^ 42 ∧ r.tgt = .remote pos

/-- The access word issues: its one perform stands in the outbound queue, and a batch item is numbered (R159, R185). -/
structure Posts (s t : State) (w : Wants) (p : Place) : Prop where
  opens : Opens s t w.dest w.la w.relaxed false (some w.fill) 1
  request : ∃ r : Req, t.reqs = s.reqs ++ [r] ∧ AimsAt r w.op (wd w.ea) p ∧
    Sends s r w.op (wd w.ea) w.relaxed
      (if w.item then some (tagNow (s.slot s.cur), itemNo (s.slot s.cur) (tagNow (s.slot s.cur))) else none)
  noItem : w.item = false → (t.slot s.cur).items = (s.slot s.cur).items
  item : w.item = true → ∃ i : Item,
    (t.slot s.cur).items = openItems (s.slot s.cur) (tagNow (s.slot s.cur)) ++ [i]
    ∧ i.tag = tagNow (s.slot s.cur) ∧ i.seq = itemNo (s.slot s.cur) (tagNow (s.slot s.cur))
    ∧ i.left = 1 ∧ i.code = 0#8 ∧ i.known = false

/-- What the word changes is what `e` makes of the state, and beside it only registers in `w`, ISSUED, windows and PC. -/
def Acts (s : State) (i : Instr) (e : State → State) (w : List Nat) (pc : Nat) : Prop :=
  ∃ t, exec i s = .next t ∧ RegStep (e s) t w pc

/-- A change of the slot whose turn it is. -/
def onSlot (f : Slot → Slot) (s : State) : State := s.updSlot s.cur f

/-- The mask of a tag's failed items, bit by bit (R190, R191). -/
def Failures (x : Slot) (k : Nat) (m : Word) : Prop :=
  ∀ n < 64, m.getLsbD n = (x.tagItems k).any (fun i => i.known && decide (i.code ≠ 0#8) && decide (i.seq = n))

/-- A tag of `x` is closed in `y` (R186, R190): it has no items, and BSTAT records its lowest failed item while CODE is 0. -/
structure Closes (x y : Slot) (k : Nat) : Prop where
  items : y.items = x.items.filter (fun i => decide (i.tag ≠ k))
  kept : x.bstat.toNat % 256 ≠ 0 ∨ x.lowFail k = none → y.bstat = x.bstat
  recorded : ∀ i, x.bstat.toNat % 256 = 0 → x.lowFail k = some i →
    y.bstat = BitVec.ofNat 16 (i.seq * 2 ^ 10 + k * 2 ^ 8 + i.code.toNat)

/-- What closing a tag leaves alone in its slot. -/
def ClosedOnly (x y : Slot) : Prop :=
  SameModes { x with items := y.items, bstat := y.bstat } y ∧ SameTraps x y

end Sys2Proof.Safety
end

