-- ==== Sys2Proof/Certificates/Slice0/Obligations.lean ====
section
/-! DEFINITION. The statements for the provers. -/

namespace Sys2Proof.Claims

open Sys2Proof.Machine Sys2Proof.Safety

/-- What the additive, multiplicative and logical forms write (R127): A and B unsigned, As and Bs in two's complement. -/
def additive (x : Slot) : Instr → Option (Reg × Word)
  | .add d a b => some (d, wd ((x.rg a).toNat + (x.rg b).toNat))
  | .sub d a b => some (d, wi ((x.rg a).toNat - (x.rg b).toNat : Int))
  | .neg d a => some (d, wi (0 - (x.rg a).toNat : Int))
  | .mul d a b => some (d, wd ((x.rg a).toNat * (x.rg b).toNat))
  | .mulh d a b => some (d, wi ((x.rg a).toInt * (x.rg b).toInt / 2 ^ 64))
  | .mulhn d a b => some (d, wd ((x.rg a).toNat * (x.rg b).toNat / 2 ^ 64))
  | .and d a b => some (d, x.rg a &&& x.rg b)
  | .or d a b => some (d, x.rg a ||| x.rg b)
  | .xor d a b => some (d, x.rg a ^^^ x.rg b)
  | .andn d a b => some (d, x.rg a &&& ~~~(x.rg b))
  | .orn d a b => some (d, x.rg a ||| ~~~(x.rg b))
  | _ => none

/-- What the divisions write (R128). -/
def division (x : Slot) : Instr → Option (Reg × Word)
  | .div d a b => some (d,
      if (x.rg b).toInt = 0 then 0xFFFFFFFFFFFFFFFF#64
      else if (x.rg a).toInt = -2 ^ 63 ∧ (x.rg b).toInt = -1 then 0x8000000000000000#64
      else wi ((x.rg a).toInt.tdiv (x.rg b).toInt))
  | .rem d a b => some (d,
      if (x.rg b).toInt = 0 then x.rg a
      else if (x.rg a).toInt = -2 ^ 63 ∧ (x.rg b).toInt = -1 then 0#64
      else wi ((x.rg a).toInt - (x.rg b).toInt * (x.rg a).toInt.tdiv (x.rg b).toInt))
  | .divn d a b => some (d,
      if (x.rg b).toNat = 0 then 0xFFFFFFFFFFFFFFFF#64 else wd ((x.rg a).toNat / (x.rg b).toNat))
  | .remn d a b => some (d, if (x.rg b).toNat = 0 then x.rg a else wd ((x.rg a).toNat % (x.rg b).toNat))
  | _ => none

/-- What the shifts write, by registers (R129) and by an immediate amount (R134). -/
def shift (x : Slot) : Instr → Option (Reg × Word)
  | .shl d a b => some (d, wd ((x.rg a).toNat * 2 ^ ((x.rg b).toNat % 64)))
  | .shr d a b => some (d, wd ((x.rg a).toNat / 2 ^ ((x.rg b).toNat % 64)))
  | .shra d a b => some (d, wi ((x.rg a).toInt / 2 ^ ((x.rg b).toNat % 64)))
  | .rotr d a b => some (d,
      wd ((x.rg a).toNat / 2 ^ ((x.rg b).toNat % 64) + (x.rg a).toNat * 2 ^ (64 - (x.rg b).toNat % 64)))
  | .shli d a k => some (d, wd ((x.rg a).toNat * 2 ^ k.toNat))
  | .shri d a k => some (d, wd ((x.rg a).toNat / 2 ^ k.toNat))
  | .shrai d a k => some (d, wi ((x.rg a).toInt / 2 ^ k.toNat))
  | .rotri d a k => some (d, wd ((x.rg a).toNat / 2 ^ k.toNat + (x.rg a).toNat * 2 ^ (64 - k.toNat)))
  | _ => none

/-- 1 where the relation holds, else 0. -/
def truth (p : Prop) [Decidable p] : Word := if p then 1#64 else 0#64

/-- What compares, minima, maxima and SEL write (R130, R131, R135). -/
def relation (x : Slot) : Instr → Option (Reg × Word)
  | .cmpeq d a b => some (d, truth ((x.rg a).toNat = (x.rg b).toNat))
  | .cmpne d a b => some (d, truth ((x.rg a).toNat ≠ (x.rg b).toNat))
  | .cmplt d a b => some (d, truth ((x.rg a).toInt < (x.rg b).toInt))
  | .cmpge d a b => some (d, truth ((x.rg a).toInt ≥ (x.rg b).toInt))
  | .cmpltn d a b => some (d, truth ((x.rg a).toNat < (x.rg b).toNat))
  | .cmpgen d a b => some (d, truth ((x.rg a).toNat ≥ (x.rg b).toNat))
  | .min d a b => some (d, wi (min (x.rg a).toInt (x.rg b).toInt))
  | .max d a b => some (d, wi (max (x.rg a).toInt (x.rg b).toInt))
  | .minn d a b => some (d, wd (min (x.rg a).toNat (x.rg b).toNat))
  | .maxn d a b => some (d, wd (max (x.rg a).toNat (x.rg b).toNat))
  | .sel d a b => some (d, if (x.rg d).toNat ≠ 0 then x.rg a else x.rg b)
  | .cmpeqi d a i => some (d, truth (x.rg a = wi i.toInt))
  | .cmpnei d a i => some (d, truth (x.rg a ≠ wi i.toInt))
  | .cmplti d a i => some (d, truth ((x.rg a).toInt < i.toInt))
  | .cmpgei d a i => some (d, truth ((x.rg a).toInt ≥ i.toInt))
  | .cmpltni d a i => some (d, truth ((x.rg a).toNat < i.toNat))
  | .cmpgeni d a i => some (d, truth ((x.rg a).toNat ≥ i.toNat))
  | _ => none

/-- What bit counts and extensions write (R132). -/
def bitForm (x : Slot) : Instr → Option (Reg × Word)
  | .clz d a => some (d, wd (((List.range 64).takeWhile (fun k => !(x.rg a).getLsbD (63 - k))).length))
  | .ctz d a => some (d, wd (((List.range 64).takeWhile (fun k => !(x.rg a).getLsbD k)).length))
  | .popc d a => some (d, wd (((List.range 64).filter (fun k => (x.rg a).getLsbD k)).length))
  | .sextb d a => some (d, wi ((x.rg a).setWidth 8).toInt)
  | .sexth d a => some (d, wi ((x.rg a).setWidth 16).toInt)
  | .sextw d a => some (d, wi ((x.rg a).setWidth 32).toInt)
  | .zextb d a => some (d, wd ((x.rg a).toNat % 2 ^ 8))
  | .zexth d a => some (d, wd ((x.rg a).toNat % 2 ^ 16))
  | .zextw d a => some (d, wd ((x.rg a).toNat % 2 ^ 32))
  | _ => none

/-- What the immediate majors write (R133, R136). -/
def immediate (x : Slot) : Instr → Option (Reg × Word)
  | .addi d a i => some (d, wi ((x.rg a).toNat + i.toInt))
  | .andi d a i => some (d, x.rg a &&& wd i.toNat)
  | .ori d a i => some (d, x.rg a ||| wd i.toNat)
  | .xori d a i => some (d, x.rg a ^^^ wd i.toNat)
  | .ldi d i => some (d, wi i.toInt)
  | .ldih d a i => some (d, wd ((x.rg a).toNat * 2 ^ 16) ||| wd i.toNat)
  | _ => none

/-- The unit of a format, where R48 accepts its byte `f` with `l` (R47; R41 for the block stride). -/
def unitOf (f l : Nat) : Option Nat :=
  if f < 0x0D then
    if l = 0 then nth none [some 1, some 1, some 2, some 4, some 8, some 1, some 2, some 4, some 2, some 2, some 4, some 8, some 8] f
    else none
  else if f < 0x80 then none
  else
    let stored := f / 16 % 8 + 1
    let read := f / 2 % 8 + 1
    if stored = 1 ∨ read = 1 ∨ stored < read ∨ l < 5 ∨ 10 < l then none
    else some (8 + 8 * ((stored * 2 ^ (l - 3) + 7) / 8))

/-- The first check of R48 that rejects a format byte, as its reason. -/
def formatReason (f : Nat) : Nat :=
  if 0x0D ≤ f ∧ f < 0x80 then 1
  else if 0x80 ≤ f ∧ (f / 16 % 8 = 0 ∨ f / 2 % 8 = 0) then 2
  else if 0x80 ≤ f ∧ f / 16 % 8 < f / 2 % 8 then 3
  else 4

/-- What the pointer forms write (R138, R140); `tag` is bits [63:52] of A, `at_` bits [51:0]. -/
def pointer (x : Slot) : Instr → Option (Reg × Word)
  | .addp d a b => some (d, wd ((x.rg a).toNat / 2 ^ 52 * 2 ^ 52 + ((x.rg a).toNat % 2 ^ 52 + (x.rg b).toNat) % 2 ^ 52))
  | .addpi d a i => some (d, wi ((x.rg a).toNat / 2 ^ 52 * 2 ^ 52 + ((x.rg a).toNat % 2 ^ 52 + i.toInt) % 2 ^ 52))
  | .subp d a b => some (d, ((x.rg a).setWidth 52 - (x.rg b).setWidth 52).signExtend 64)
  | .mkp d a b => some (d,
      wd ((x.rg b).toNat % 2 ^ 8 * 2 ^ 56 + (x.rg b).toNat / 2 ^ 8 % 2 ^ 4 * 2 ^ 52 + (x.rg a).toNat % 2 ^ 52))
  | .getf d a => some (d, wd ((x.rg a).toNat / 2 ^ 52 % 2 ^ 4 * 2 ^ 8 + (x.rg a).toNat / 2 ^ 56))
  | .adrp d a => some (d, wd ((x.rg a).toNat % 2 ^ 52))
  | _ => none

/-- A branch's relation, and its offset in instructions (R147). -/
def branchOf (x : Slot) : Instr → Option (Bool × Int)
  | .beq a b o => some (decide ((x.rg a).toNat = (x.rg b).toNat), o.toInt)
  | .bne a b o => some (decide ((x.rg a).toNat ≠ (x.rg b).toNat), o.toInt)
  | .blt a b o => some (decide ((x.rg a).toInt < (x.rg b).toInt), o.toInt)
  | .bge a b o => some (decide ((x.rg a).toInt ≥ (x.rg b).toInt), o.toInt)
  | .bltn a b o => some (decide ((x.rg a).toNat < (x.rg b).toNat), o.toInt)
  | .bgen a b o => some (decide ((x.rg a).toNat ≥ (x.rg b).toNat), o.toInt)
  | .j o => some (true, o.toInt)
  | _ => none

/-- A FP32 pattern is a NaN, an infinity, a zero; its sign (R38). -/
def patNan (w : Word) : Bool := decide (0x7F800000 < w.toNat % 2 ^ 31)
def patInf (w : Word) : Bool := decide (w.toNat % 2 ^ 31 = 0x7F800000)
def patZero (w : Word) : Bool := decide (w.toNat % 2 ^ 31 = 0)
def patNeg (w : Word) : Bool := w.getLsbD 31

/-- The canonical NaN of FP32. -/
def theNan : Word := 0x7FC00000#64

/-- What the special operands of the FLT major give, and where its results lie (R142 to R146). -/
def floatFact (x : Slot) (v : Word) : Instr → Prop
  | .fpadd _ a b => v.toNat < 2 ^ 32 ∧ (patNan (x.rg a) ∨ patNan (x.rg b) → v = theNan)
      ∧ (patInf (x.rg a) ∧ patInf (x.rg b) ∧ patNeg (x.rg a) ≠ patNeg (x.rg b) → v = theNan)
  | .fpsub _ a b => v.toNat < 2 ^ 32 ∧ (patNan (x.rg a) ∨ patNan (x.rg b) → v = theNan)
      ∧ (patInf (x.rg a) ∧ patInf (x.rg b) ∧ patNeg (x.rg a) = patNeg (x.rg b) → v = theNan)
  | .fpmul _ a b => v.toNat < 2 ^ 32 ∧ (patNan (x.rg a) ∨ patNan (x.rg b) → v = theNan)
      ∧ (patInf (x.rg a) ∧ patZero (x.rg b) ∨ patZero (x.rg a) ∧ patInf (x.rg b) → v = theNan)
  | .fpdiv _ a b => v.toNat < 2 ^ 32 ∧ (patNan (x.rg a) ∨ patNan (x.rg b) → v = theNan)
      ∧ (patZero (x.rg a) ∧ patZero (x.rg b) ∨ patInf (x.rg a) ∧ patInf (x.rg b) → v = theNan)
      ∧ (!patNan (x.rg a) ∧ !patInf (x.rg a) ∧ !patZero (x.rg a) ∧ patZero (x.rg b) →
          v = if patNeg (x.rg a) = patNeg (x.rg b) then 0x7F800000#64 else 0xFF800000#64)
  | .fpfma d a b => v.toNat < 2 ^ 32 ∧ (patNan (x.rg a) ∨ patNan (x.rg b) ∨ patNan (x.rg d) → v = theNan)
      ∧ (patInf (x.rg a) ∧ patZero (x.rg b) ∨ patZero (x.rg a) ∧ patInf (x.rg b) → v = theNan)
  | .fpsqrt _ a => v.toNat < 2 ^ 32 ∧ (patNan (x.rg a) → v = theNan)
      ∧ (patZero (x.rg a) → v = wd ((x.rg a).toNat % 2 ^ 32))
      ∧ (patNeg (x.rg a) ∧ !patZero (x.rg a) → v = theNan)
  | .fpmin _ a b => v.toNat < 2 ^ 32 ∧ (patNan (x.rg a) ∨ patNan (x.rg b) → v = theNan)
      ∧ (patZero (x.rg a) ∧ patZero (x.rg b) ∧ patNeg (x.rg a) ≠ patNeg (x.rg b) → v = 0x80000000#64)
  | .fpmax _ a b => v.toNat < 2 ^ 32 ∧ (patNan (x.rg a) ∨ patNan (x.rg b) → v = theNan)
      ∧ (patZero (x.rg a) ∧ patZero (x.rg b) ∧ patNeg (x.rg a) ≠ patNeg (x.rg b) → v = 0#64)
  | .fpabs _ a => v = if patNan (x.rg a) then theNan else wd ((x.rg a).toNat % 2 ^ 31)
  | .fpneg _ a => v = if patNan (x.rg a) then theNan else wd (((x.rg a).toNat + 2 ^ 31) % 2 ^ 32)
  | .fpcmpeq _ a b => (v = 0#64 ∨ v = 1#64) ∧ (patNan (x.rg a) ∨ patNan (x.rg b) → v = 0#64)
      ∧ (patZero (x.rg a) ∧ patZero (x.rg b) → v = 1#64)
  | .fpcmplt _ a b => (v = 0#64 ∨ v = 1#64) ∧ (patNan (x.rg a) ∨ patNan (x.rg b) → v = 0#64)
      ∧ (patZero (x.rg a) ∧ patZero (x.rg b) → v = 0#64)
  | .fpcmple _ a b => (v = 0#64 ∨ v = 1#64) ∧ (patNan (x.rg a) ∨ patNan (x.rg b) → v = 0#64)
      ∧ (patZero (x.rg a) ∧ patZero (x.rg b) → v = 1#64)
  | .fptoi _ a => (patNan (x.rg a) → v = 0#64)
      ∧ (patInf (x.rg a) → v = if patNeg (x.rg a) then 0x8000000000000000#64 else 0x7FFFFFFFFFFFFFFF#64)
  | .fptoiz _ a => (patNan (x.rg a) → v = 0#64)
      ∧ (patInf (x.rg a) → v = if patNeg (x.rg a) then 0x8000000000000000#64 else 0x7FFFFFFFFFFFFFFF#64)
  | .fpton _ a => (patNan (x.rg a) → v = 0#64)
      ∧ (patInf (x.rg a) → v = if patNeg (x.rg a) then 0#64 else 0xFFFFFFFFFFFFFFFF#64)
  | .itofp _ a => v.toNat < 2 ^ 32 ∧ (x.rg a = 0#64 → v = 0#64)
  | .ntofp _ a => v.toNat < 2 ^ 32 ∧ (x.rg a = 0#64 → v = 0#64)
  | .fptoh _ a => v.toNat < 2 ^ 16 ∧ (patNan (x.rg a) → v = 0x7E00#64)
  | .fptob _ a => v.toNat < 2 ^ 16 ∧ (patNan (x.rg a) → v = 0x7FC0#64)
  | .htofp _ a => v.toNat < 2 ^ 32 ∧ (0x7C00 < (x.rg a).toNat % 2 ^ 15 → v = theNan)
  | .btofp _ a => v.toNat < 2 ^ 32 ∧ (0x7F80 < (x.rg a).toNat % 2 ^ 15 → v = theNan)
  | _ => False

/-- The exact result of an FLT word, rounded once in its own format (R39, R40, R143 to R146); FPMIN and FPMAX choose an operand,
and a compare gives 1 or 0. -/
def floatExact (x : Slot) : Instr → Word :=
  let p := fun (r : Reg) => (x.rg r).toNat % 2 ^ 32
  let h := fun (r : Reg) => (x.rg r).toNat % 2 ^ 16
  let f := fun (r : Reg) => f32 (p r)
  let rel := fun (a b : Reg) (q : Ordering → Bool) => truth (!patNan (x.rg a) && !patNan (x.rg b) && q ((f a).cmp (f b)))
  fun
  | .fpadd _ a b => wd ((Fp.sum [f a, f b]).encode fp32)
  | .fpsub _ a b => wd ((Fp.sum [f a, (f b).neg]).encode fp32)
  | .fpmul _ a b => wd (((f a).mul (f b)).encode fp32)
  | .fpdiv _ a b => wd (Fp.divRound fp32 (f a) (f b))
  | .fpfma d a b => wd ((Fp.sum [(f a).mul (f b), f d]).encode fp32)
  | .fpsqrt _ a => wd (Fp.sqrtRound fp32 (f a))
  | .fpmin _ a b => wd (fpMinMax fp32 false (p a) (p b))
  | .fpmax _ a b => wd (fpMinMax fp32 true (p a) (p b))
  | .fpabs _ a => if patNan (x.rg a) then theNan else wd ((x.rg a).toNat % 2 ^ 31)
  | .fpneg _ a => if patNan (x.rg a) then theNan else wd (((x.rg a).toNat + 2 ^ 31) % 2 ^ 32)
  | .fpcmpeq _ a b => rel a b (fun o => decide (o = .eq))
  | .fpcmplt _ a b => rel a b (fun o => decide (o = .lt))
  | .fpcmple _ a b => rel a b (fun o => decide (o ≠ .gt))
  | .fptoi _ a => wi ((f a).toIntSat false (-2 ^ 63) (2 ^ 63 - 1))
  | .fptoiz _ a => wi ((f a).toIntSat true (-2 ^ 63) (2 ^ 63 - 1))
  | .fpton _ a => wi ((f a).toIntSat false 0 (2 ^ 64 - 1))
  | .itofp _ a => wd ((Fp.ofInt (x.rg a).toInt).encode fp32)
  | .ntofp _ a => wd ((Fp.ofInt (x.rg a).toNat).encode fp32)
  | .fptoh _ a => wd ((f a).encode fp16)
  | .fptob _ a => wd ((f a).encode bf16)
  | .htofp _ a => wd ((Fp.decode fp16 (h a)).encode fp32)
  | .btofp _ a => wd ((Fp.decode bf16 (h a)).encode fp32)
  | _ => 0#64

/-- The destination of an FLT word. -/
def floatDest : Instr → Option Reg
  | .fpadd d _ _ | .fpsub d _ _ | .fpmul d _ _ | .fpdiv d _ _ | .fpfma d _ _ | .fpmin d _ _ | .fpmax d _ _
  | .fpcmpeq d _ _ | .fpcmplt d _ _ | .fpcmple d _ _ => some d
  | .fpsqrt d _ | .fpabs d _ | .fpneg d _ | .fptoi d _ | .fptoiz d _ | .fpton d _ | .itofp d _ | .ntofp d _
  | .fptoh d _ | .fptob d _ | .htofp d _ | .btofp d _ => some d
  | _ => none

/-- Base plus displacement, mod 2^52 (R159). -/
def displaced (p : Word) (disp : Int) : Nat := (((p.toNat % 2 ^ 52 : Nat) + disp) % (2 ^ 52 : Nat)).toNat

/-- FINFO of an access less its reason: PCA, XOP, SIZE, SY, MAJ (R162). -/
def accInfo (x : Slot) (xop lg sy maj : Nat) : Word :=
  wd (x.pc % 2 ^ 16 * 2 ^ 32 + xop * 2 ^ 25 + lg * 2 ^ 22 + sy * 2 ^ 20 + maj * 2 ^ 14)

/-- A scalar load of major `maj` and `2 ^ lg` bytes (R158, R159, R180): the narrow forms of majors 0x1C to 0x1E sign-extend, every
other form zero-extends. -/
def wantLoad (x : Slot) (maj lg : Nat) (d a : Reg) (l : BitVec 4) (r : BitVec 1) (sy : BitVec 2) (o : BitVec 9) : Wants where
  fill := if maj < 0x1F then .sx (2 ^ lg) else .zx (2 ^ lg)
  relaxed := decide (r = 1#1)
  dest := .g d
  la := some l.toNat
  item := false
  ea := displaced (x.rg a) (o.toInt * 2 ^ lg)
  size := 2 ^ lg
  need := { r := true, w := false, a := false, sync := decide (sy ≠ 0#2), hart := false }
  op := .load (2 ^ lg) sy
  amo := none
  info := accInfo x 0 lg sy.toNat maj

/-- A scalar store (R158, R159, R160, R180). -/
def wantStore (x : Slot) (maj lg : Nat) (d a : Reg) (l : BitVec 4) (r : BitVec 1) (sy : BitVec 2) (o : BitVec 9) : Wants where
  fill := .zx 8
  relaxed := decide (r = 1#1)
  dest := .none
  la := if r = 1#1 then none else some l.toNat
  item := decide (r = 1#1)
  ea := displaced (x.rg a) (o.toInt * 2 ^ lg)
  size := 2 ^ lg
  need := { r := false, w := true, a := false, sync := decide (sy ≠ 0#2), hart := false }
  op := .store (2 ^ lg) sy (x.rg d)
  amo := none
  info := accInfo x 0 lg sy.toNat maj

/-- A plain atomic of `op` on 8 bytes; AFADD takes 4 and ATMERGE 16 (R171, R172). -/
def wantAtomic (x : Slot) (op : Nat) (d a b : Reg) (l : BitVec 4) (e : Word) : Wants where
  fill := .zx 8
  relaxed := false
  dest := .g d
  la := some l.toNat
  item := false
  ea := (x.rg a).toNat % 2 ^ 52
  size := if op = 0x0B then 4 else if op = 0x0D then 16 else 8
  need := { r := true, w := true, a := true, sync := false, hart := false }
  op := .amo (BitVec.ofNat 6 op) (x.rg b) (x.rg (b + 1)) e
  amo := some op
  info := accInfo x op (if op = 0x0B then 2 else if op = 0x0D then 4 else 3) 0 0x2B

/-- The relaxed form of an atomic (R171, R176). -/
def wantRelaxed (x : Slot) (op : Nat) (a b : Reg) : Wants :=
  { wantAtomic x op 0#5 a b 0#4 0#64 with
    relaxed := true, dest := .none, la := none, item := true,
    info := accInfo x (op + 64) (if op = 0x0B then 2 else if op = 0x0D then 4 else 3) 0 0x2B }

/-- What every access word of one perform asks for: scalar loads and stores, LDV and STV, the atomics, WSTATE, WSET and
JOIN (R98, R158, R168, R171, R231). -/
def access (x : Slot) : Instr → Option Wants
  | .ldb d a l r y o => some (wantLoad x 0x1C 0 d a l r y o)
  | .ldh d a l r y o => some (wantLoad x 0x1D 1 d a l r y o)
  | .ldw d a l r y o => some (wantLoad x 0x1E 2 d a l r y o)
  | .ldd d a l r y o => some (wantLoad x 0x1F 3 d a l r y o)
  | .ldnb d a l r y o => some (wantLoad x 0x20 0 d a l r y o)
  | .ldnh d a l r y o => some (wantLoad x 0x21 1 d a l r y o)
  | .ldnw d a l r y o => some (wantLoad x 0x22 2 d a l r y o)
  | .stb d a l r y o => some (wantStore x 0x23 0 d a l r y o)
  | .sth d a l r y o => some (wantStore x 0x24 1 d a l r y o)
  | .stw d a l r y o => some (wantStore x 0x25 2 d a l r y o)
  | .std d a l r y o => some (wantStore x 0x26 3 d a l r y o)
  | .ldv d a l r o => some
      { wantLoad x 0x27 5 d a l r 0#2 o with dest := .v (d.setWidth 4), op := .loadV, fill := .vec }
  | .stv d a l r o => some
      { wantStore x 0x28 5 d a l r 0#2 o with op := .storeV (x.rv (d.setWidth 4)), fill := .vec }
  | .aadd d a b l => some (wantAtomic x 0x01 d a b l 0#64)
  | .aand d a b l => some (wantAtomic x 0x02 d a b l 0#64)
  | .aor d a b l => some (wantAtomic x 0x03 d a b l 0#64)
  | .axor d a b l => some (wantAtomic x 0x04 d a b l 0#64)
  | .amin d a b l => some (wantAtomic x 0x05 d a b l 0#64)
  | .amax d a b l => some (wantAtomic x 0x06 d a b l 0#64)
  | .aminn d a b l => some (wantAtomic x 0x07 d a b l 0#64)
  | .amaxn d a b l => some (wantAtomic x 0x08 d a b l 0#64)
  | .aswap d a b l => some (wantAtomic x 0x09 d a b l 0#64)
  | .acas d a b l => some (wantAtomic x 0x0A d a b l (x.rg d))
  | .afadd d a b l => some (wantAtomic x 0x0B d a b l 0#64)
  | .abump d a b l => some (wantAtomic x 0x0C d a b l 0#64)
  | .atmerge d a b l => some (wantAtomic x 0x0D d a b l 0#64)
  | .aaddRx a b => some (wantRelaxed x 0x01 a b)
  | .aandRx a b => some (wantRelaxed x 0x02 a b)
  | .aorRx a b => some (wantRelaxed x 0x03 a b)
  | .axorRx a b => some (wantRelaxed x 0x04 a b)
  | .aminRx a b => some (wantRelaxed x 0x05 a b)
  | .amaxRx a b => some (wantRelaxed x 0x06 a b)
  | .aminnRx a b => some (wantRelaxed x 0x07 a b)
  | .amaxnRx a b => some (wantRelaxed x 0x08 a b)
  | .afaddRx a b => some (wantRelaxed x 0x0B a b)
  | .atmergeRx a b => some (wantRelaxed x 0x0D a b)
  | .wstate d a l o => some
      { wantLoad x 0x2C 3 d a l 0#1 0#2 0#9 with ea := displaced (x.rg a) (o.toInt * 8), op := .wstate }
  | .wset d a l o => some
      { wantStore x 0x2C 3 d a l 0#1 0#2 0#9 with
        ea := displaced (x.rg a) (o.toInt * 8), op := .wset ((x.rg d).setWidth 2),
        need := { r := false, w := true, a := false, sync := true, hart := false } }
  | .join a l => some
      { wantStore x 0x2F 3 0#5 a l 0#1 0#2 0#9 with
        ea := (x.rg a).toNat % 2 ^ 52, op := .join, info := accInfo x 3 3 0 0x2F,
        need := { r := true, w := true, a := false, sync := true, hart := false } }
  | _ => none

/-- Elements in a chunk for each code of EFMT: the lanes of R37, at most 32 (R232). -/
def chunkOfCode (e : Nat) : Nat := nth 0 [32, 32, 32, 32, 16, 8, 16, 16, 8] e

/-- A block word's pointer a, chunk displacement and EFMT: format byte, L, base, S, k, rounding and chunk number. -/
structure Block where
  f : Nat
  l : Nat
  base : Nat
  e : Nat
  c : Nat

/-- The block that LDBP or STBP addresses (R232). -/
def blockAt (x : Slot) (a : Reg) (o : BitVec 9) : Block where
  f := (x.rg a).toNat / 2 ^ 56
  l := (x.rg a).toNat / 2 ^ 52 % 2 ^ 4
  base := (x.rg a).toNat % 2 ^ 52
  e := x.efmt.toNat % 16
  c := (o.toInt % (2 ^ ((x.rg a).toNat / 2 ^ 52 % 2 ^ 4) / chunkOfCode (x.efmt.toNat % 16) : Nat)).toNat

/-- Planes stored, planes read, rounding (R47). -/
def Block.stored (b : Block) : Nat := b.f / 16 % 8 + 1
def Block.depth (b : Block) : Nat := b.f / 2 % 8 + 1
def Block.rounds (b : Block) : Bool := b.f % 2 = 1 && b.depth < b.stored

/-- Byte address of the chunk's piece of a plane (R232). -/
def Block.piece (b : Block) (p : Nat) : Nat := b.base + 8 + p * 2 ^ (b.l - 3) + b.c * chunkOfCode b.e / 8

/-- Each entry once, at its first place. -/
def distinct : List Nat → List Nat
  | [] => []
  | h :: t => h :: (distinct t).filter (fun n => decide (n ≠ h))

/-- The words that LDBP reads, in order (R233). -/
def Block.words (b : Block) : List Nat :=
  (distinct (b.base :: (List.range (if b.rounds then b.depth + 1 else b.depth)).map (fun p => b.piece p / 8 * 8))).map
    (fun a => a % 2 ^ 52)

/-- The bytes that STBP writes, plane by plane (R234). -/
def Block.pieces (b : Block) : List Nat := (List.range b.stored).map (fun p => b.piece p % 2 ^ 52)

/-- The piece of plane `p`: bit i is bit 7 - p of the q8 of lane i (R42, R234). -/
def Block.planeBits (b : Block) (v : Vec) (p : Nat) : Word :=
  wd (sumNat ((List.range (chunkOfCode b.e)).map (fun i => stbpQ8 b.e (laneBits b.e v i) / 2 ^ (7 - p) % 2 * 2 ^ i)))

/-- Lane `i` of the chunk, where the block's bytes are `m` (R42, R43, R233): q_k of the planes read, in two's complement, or the
element's value in the lane's float format. -/
def Block.loaded (b : Block) (m : Nat → BitVec 8) (i : Nat) : Nat :=
  let n := b.c * chunkOfCode b.e + i
  let bit := fun (p : Nat) => (m (b.base + 8 + p * 2 ^ (b.l - 3) + n / 8)).toNat / 2 ^ (n % 8) % 2
  let q8 : Int := (List.range (if b.rounds then b.depth + 1 else b.depth)).foldl (fun (z : Int) p =>
    z + (if p = 0 then -((2 ^ 7 * bit p : Nat) : Int) else ((2 ^ (7 - p) * bit p : Nat) : Int))) 0
  let q := qkOf q8 b.depth b.stored (decide (b.f % 2 = 1))
  if b.e ≤ 5 then (q % (2 ^ nth 0 [8, 6, 4, 8, 16, 32] b.e : Nat)).toNat
  else (elemValue q b.depth (m b.base).toNat).encode (if b.e = 6 then fp16 else if b.e = 7 then bf16 else fp32)

/-- The 8 bytes of `m` from an address on, as a word. -/
def eightBytes (m : Nat → BitVec 8) (a : Nat) : Nat := sumNat ((List.range 8).map (fun j => (m (a + j)).toNat * 2 ^ (8 * j)))

/-- The format checks of R232 pass. -/
def Block.legal (b : Block) : Prop := b.e < 9 ∧ 0x80 ≤ b.f ∧ (unitOf b.f b.l).isSome = true ∧ b.base % 8 = 0

/-- An integer lane narrower than the depth (R232): INT8 8, INT6 6, INT4 4, NAT8 8, INT16 16, INT32 32. -/
def Block.narrow (b : Block) : Prop := b.e ≤ 5 ∧ nth 0 [8, 6, 4, 8, 16, 32] b.e < b.depth

/-- The words of a block access lie at the places `ps`, none of them in a lost module. -/
def Admitted (s : State) (n : Need) : List Nat → List Place → Prop
  | [], ps => ps = []
  | a :: l, ps => ∃ p q, ps = p :: q ∧ checkAddr s (s.slot s.cur).ctx n a = .ok p ∧ ¬ Lost s p ∧ Admitted s n l q

/-- The requests of a block access: one for each address, in order, with the operation that `op` gives it. -/
def Requests (s : State) (relaxed : Bool) (item : Option (Nat × Nat)) (op : Nat → MemOp) :
    Nat → List Nat → List Place → List Req → Prop
  | _, [], _, rs => rs = []
  | k, a :: l, ps, rs => ∃ p q r rest, ps = p :: q ∧ rs = r :: rest ∧ AimsAt r (op k) (wd a) p ∧
      Sends s r (op k) (wd a) relaxed item ∧ r.part = k ∧ Requests s relaxed item op (k + 1) l q rest

/-- The scope of a fence (R188). -/
def fenceScope : Instr → Option Nat
  | .fenceCore => some 0
  | .fenceNode => some 1
  | .fenceDev => some 2
  | .fencePod => some 3
  | _ => none

/-- FINFO of LANDREF for a failed item (R192). -/
def landrefInfo (x : Slot) (i : Item) (k reason : Nat) : Word :=
  wd (x.failCount k * 2 ^ 48 + i.seq * 2 ^ 42 + k * 2 ^ 40 + i.code.toNat * 2 ^ 32 + reason)

/-- The index of the lowest set bit, or 64 (R309). -/
def lowest (m : Word) : Word := wd ((List.range 64).takeWhile (fun k => !m.getLsbD k)).length

/-- The forms of SENDR: the address and value registers, .RL, and the tag (R111, R112). -/
def sendForm (x : Slot) : Instr → Option (Reg × Reg × Bool × Nat)
  | .sendr a b => some (a, b, false, x.batch.toNat % 4)
  | .sendrRl a b => some (a, b, true, x.batch.toNat % 4)
  | .sendrB a b t => some (a, b, false, t.toNat)
  | .sendrRlB a b t => some (a, b, true, t.toNat)
  | _ => none

/-- A VDN that names no module (R110): not 0x3FF, and without a valid entry in the context's pod table. -/
def Unnamed (s : State) (vdn : Nat) : Prop :=
  vdn ≠ 0x3FF ∧ ∀ c, s.context (s.slot s.cur).ctx = some c → (Tab.get 0#64 c.podTab vdn).getLsbD 63 = false

/-- A VDN that names the issuing module (R109, R181). -/
def Named (s : State) (vdn : Nat) : Prop :=
  vdn = 0x3FF ∨ ∃ c, s.context (s.slot s.cur).ctx = some c ∧ (Tab.get 0#64 c.podTab vdn).getLsbD 63 = true
    ∧ s.pod.pos = some ((Tab.get 0#64 c.podTab vdn).toNat % 2 ^ 10)

/-- A VDN that names another module, at `pos`. -/
def Elsewhere (s : State) (vdn pos : Nat) : Prop :=
  vdn ≠ 0x3FF ∧ ∃ c, s.context (s.slot s.cur).ctx = some c ∧ (Tab.get 0#64 c.podTab vdn).getLsbD 63 = true
    ∧ pos = (Tab.get 0#64 c.podTab vdn).toNat % 2 ^ 10 ∧ s.pod.pos ≠ some pos

/-- The layout checks that SENDR makes of a landing address (R108, R110). -/
def misformed (a : Word) : Prop :=
  a.toNat / 2 ^ 7 % 2 ^ 12 ≠ 0 ∨ 32 ≤ a.toNat % 2 ^ 7 ∧ a.toNat % 2 ^ 7 < 64 ∨ 9 < a.toNat / 2 ^ 50 % 2 ^ 4

/-- The slot may send direct to core `c` (R120, R121): its route cache names it, and no unsettled item to the same handle
went by way of the home core. -/
def Direct (x : Slot) (a : Word) (c : Nat) : Prop :=
  (∀ i ∈ x.items, i.viaHome = some (a.extractLsb' 19 45) → i.left = 0)
  ∧ (x.routes.find? (fun e => decide (e.1 = a.extractLsb' 19 45))).map (fun e => e.2) = some c

/-- The record that FORK and SPAWNAT make (R90, R95). -/
def forked (s : State) (pc : Nat) (b : Reg) : Task where
  pc := pc
  w0 := (s.slot s.cur).rg b
  w1 := (s.slot s.cur).rg (b + 1)
  w2 := (s.slot s.cur).rg (b + 2)
  w3 := (s.slot s.cur).rg (b + 3)
  launch := (s.slot s.cur).launch
  parent := handleWord s (s.slot s.cur).ctx (s.slot s.cur).th
  transit := false
  stolen := false

/-- The reserved bits and MISS of a plate reference are zero (R317, R321). -/
def cleanRef (w : Word) : Prop := w.toNat / 2 ^ 58 = 0 ∧ w.toNat / 2 ^ 12 % 2 ^ 20 = 0 ∧ w.toNat / 2 ^ 6 % 4 = 0

/-- The node a reference names (R317), die and logical node, and whether it lies in the allotment (R320). -/
def refAt (w : Word) : Nat := w.toNat / 2 ^ 44 % 2 ^ 14
def refAllotted (s : State) (w : Word) : Prop :=
  w.toNat / 2 ^ 54 % 2 ^ 4 ≤ 9 ∧ ∃ c, s.context (s.slot s.cur).ctx = some c ∧ c.allots (refAt w) = true

/-- A PLT word with its op, register a, the lookahead count, its destination, and whether it takes a reference (R319). -/
def pltForm : Instr → Option (Nat × Reg × BitVec 4 × Dest × Bool)
  | .plook d a l => some (0x01, a, l, .g d, false)
  | .pmake d a _ l => some (0x02, a, l, .gg d, false)
  | .patt d a l => some (0x03, a, l, .gg d, false)
  | .pattT d a l => some (0x04, a, l, .gg d, false)
  | .pdet a l => some (0x05, a, l, .none, true)
  | .pseal a l => some (0x06, a, l, .none, true)
  | .pevict a l => some (0x07, a, l, .none, true)
  | .pfree a l => some (0x08, a, l, .none, true)
  | _ => none

/-- What a PLT word captures of b and the register after it (R319, R323). -/
def pltOperands (x : Slot) : Instr → Word × Word
  | .pmake _ _ b _ => (x.rg b, x.rg (b + 1))
  | _ => (0#64, 0#64)

/-- A slot's attach record matches a reference: all but the STATE field (R317, R325). -/
def sameRef (a b : Word) : Prop := a &&& ~~~0xF00#64 = b &&& ~~~0xF00#64

/-- The slot after the first matching attach record is dropped (R325). -/
def unattached (r : Word) (x : Slot) : Slot := { x with attach := eraseFirst (fun k => decide (k &&& ~~~0xF00#64 = r &&& ~~~0xF00#64)) x.attach }

/-- The extra issue checks of a PLT word (R320, R321, R323, R324): PATT holds fewer than 4 records; PDET names a record of
the slot; the spec and the backing of PMAKE are good; PSEAL and PEVICT find no deferred fault to raise (R189). -/
def pltReady (s : State) : Instr → Prop
  | .patt _ _ _ | .pattT _ _ _ => (s.slot s.cur).attach.length < 4
  | .pdet a _ => ∃ k ∈ (s.slot s.cur).attach, sameRef k ((s.slot s.cur).rg a)
  | .pmake _ _ b _ => badSpec ((s.slot s.cur).rg b) = false
      ∧ backingFault s (s.slot s.cur).ctx ((s.slot s.cur).rg b) ((s.slot s.cur).rg (b + 1)) = none
  | .pseal _ _ | .pevict _ _ => (s.slot s.cur).dfr = none ∨ (s.slot s.cur).inh = true
  | _ => True

/-- FINFO of PLSTATE at issue (R321), and of ACCESS and ALIGN of a PLT word (R320). -/
def plstateInfo (x : Slot) (op reason : Nat) : Word := wd (x.pc % 2 ^ 16 * 2 ^ 32 + op * 2 ^ 25 + reason)
def pltAccInfo (x : Slot) (op reason : Nat) : Word := accInfo x op 3 0 0x31 ||| wd reason

/-- A command of the slot with its captured operands (R271, R288), standing in the engine-pending latch. -/
def command (s : State) (kind : CmdKind) (a b : Word) (desc : List Word) (sg : BitVec 2) (ring : Nat) (mode : Bool) : Cmd where
  id := s.nextId
  kind := kind
  sl := s.cur
  th := (s.slot s.cur).th
  ctx := (s.slot s.cur).ctx
  launch := (s.slot s.cur).launch
  pca := (s.slot s.cur).pc
  a := a
  b := b
  desc := desc
  sg := sg
  rt := ring
  mode := mode
  nextJ := 0
  nextR := 0

/-- The command word issues: beside `f` its slot changes only ISSUED, windows, PC and the latch (R70, R71, R206). -/
def Queues (s : State) (i : Instr) (l : BitVec 4) (c : Cmd) (f : Slot → Slot) : Prop :=
  ∃ t, exec i s = .next t ∧ RegStep (onSlot f s) t [] ((s.slot s.cur).pc + 4) ∧ (t.slot s.cur).latch = some c
    ∧ (t.slot s.cur).wins = (s.slot s.cur).wins.map (fun w => { w with count := w.count - 1 })
        ++ [{ id := s.nextId, count := l.toNat, dests := 0#48 }]

/-- Bit-plane operand formats of MMA (R47, R48). -/
def planesFormat (p : Word) : Prop := 0x80 ≤ p.toNat / 2 ^ 56 ∧ (unitOf (p.toNat / 2 ^ 56) (p.toNat / 2 ^ 52 % 2 ^ 4)).isSome = true

/-- The ring tile changes of a command (R271): owned tiles, oldest first. -/
def dropOldest (x : Slot) : Slot := { x with owned := x.owned.drop 1 }
def ownNewest (r : Nat) (x : Slot) : Slot := { x with owned := x.owned ++ [r] }
/-- The tag of a control word is named (R270, R289, R310). -/
def names (ctl : Word) (x : Slot) : Slot := { x with named := x.named ||| (1#64 <<< (ctl.toNat % 2 ^ 6)) }

/-- An engine-2 command of a descriptor: kind, descriptor bytes, registers, lookahead count (R288). -/
def hartForm : Instr → Option (CmdKind × Nat × Reg × Reg × BitVec 4)
  | .copy a b l => some (.copy, 256, a, b, l)
  | .gather a b l => some (.gather, 64, a, b, l)
  | .scatter a b l => some (.scatter, 64, a, b, l)
  | .bins a b l => some (.bins, 128, a, b, l)
  | .mcast a b l => some (.mcast, 64, a, b, l)
  | .fillw a b l => some (.fillw, 32, a, b, l)
  | _ => none

/-- The words of a descriptor pass R181 for a hart: all as reads, the last as a write (R290). -/
def descriptorFault (s : State) (p : Word) (n : Nat) : Option (Nat × Nat) :=
  let r : Need := { r := true, w := false, a := false, sync := false, hart := true }
  let w : Need := { r := false, w := true, a := false, sync := false, hart := true }
  let at_ := fun k => (p.toNat % 2 ^ 52 + 8 * k) % 2 ^ 52
  let tests := (List.range (n / 8)).map (fun k => (r, at_ k)) ++ [(w, at_ (n / 8 - 1))]
  tests.findSome? (fun t => match checkAddr s (s.slot s.cur).ctx t.1 t.2 with | .error e => some (t.2, e) | .ok _ => none)

/-- A descriptor register of engine 0 or 1 exists (R272). -/
def descriptor (e n : Nat) : Prop := e = 0 ∧ (n < 9 ∨ n = 12) ∨ e = 1 ∧ n < 2

/-! ### Vectors -/

/-- EFMT's code, lane widths and lane counts (R51). -/
def efmt (s : State) : Nat := (s.slot s.cur).efmt.toNat % 16
def laneBitsOf (e : Nat) : Nat := nth 0 [8, 6, 4, 8, 16, 32, 16, 16, 32] e
def laneCount (e : Nat) : Nat := nth 0 [32, 42, 64, 32, 16, 8, 16, 16, 8] e

/-- Lane `i` of a vector under a code, as its bits (R37, R212). -/
def lane (e : Nat) (v : Vec) (i : Nat) : Nat := v.toNat / 2 ^ (laneBitsOf e * i) % 2 ^ laneBitsOf e

/-- A lane's integer: unsigned under NAT8, in two's complement under every other code (R216). -/
def laneInteger (e n : Nat) : Int := if e = 3 then n else if n < 2 ^ (laneBitsOf e - 1) then n else (n : Int) - 2 ^ laneBitsOf e

/-- An integer mod 2^w (R216). -/
def wrapped (e : Nat) (z : Int) : Nat := (z % (2 ^ laneBitsOf e : Nat)).toNat

/-- An integer saturated to the lane (R216): SatN for NAT8. -/
def saturated (e : Nat) (z : Int) : Nat :=
  if e = 3 then (max 0 (min z 255)).toNat
  else wrapped e (max (-(2 ^ (laneBitsOf e - 1) : Nat)) (min z ((2 ^ (laneBitsOf e - 1) : Nat) - 1)))

/-- The magnitude of a finite value is at least 2^k (R220). -/
def Reaches (v : Fp) (k : Int) : Prop :=
  ∃ n m e, v = .fin n m e ∧ (scaleRat m 1 (e - k)).2 ≤ (scaleRat m 1 (e - k)).1

/-- An exact FP value rounded once to the lane (R39, R217). -/
def rounded (e : Nat) (z : Fp) : Nat := z.encode (if e = 6 then fp16 else if e = 7 then bf16 else fp32)

/-- All ones or zero, by a relation (R218). -/
def flagLane (e : Nat) (p : Bool) : Nat := if p then 2 ^ laneBitsOf e - 1 else 0

/-- The destination and the lanes of the lane-wise VOP forms (R215 to R218), for the vectors of the slot `x` under code `e`. -/
def vectorLanes (x : Slot) (e : Nat) : Instr → Option (VReg × (Nat → Nat)) :=
  let bits := fun (r : VReg) (i : Nat) => lane e (x.rv r) i
  let int := fun (r : VReg) (i : Nat) => laneInteger e (lane e (x.rv r) i)
  let fp := fun (r : VReg) (i : Nat) => laneValue e (lane e (x.rv r) i)
  let fmt := if e = 6 then fp16 else if e = 7 then bf16 else fp32
  let nan := fun (r : VReg) (i : Nat) => e ≥ 6 && (fp r i).isNan
  fun
  | .vadd d a b => some (d, fun i => if e < 6 then wrapped e (int a i + int b i) else rounded e (Fp.sum [fp a i, fp b i]))
  | .vsub d a b => some (d, fun i => if e < 6 then wrapped e (int a i - int b i) else rounded e (Fp.sum [fp a i, (fp b i).neg]))
  | .vmul d a b => some (d, fun i => if e < 6 then wrapped e (int a i * int b i) else rounded e ((fp a i).mul (fp b i)))
  | .vmad d a b c => some (d, fun i =>
      if e < 6 then wrapped e (int a i * int b i + int c i) else rounded e (Fp.sum [(fp a i).mul (fp b i), fp c i]))
  | .vmin d a b => some (d, fun i =>
      if e < 6 then (if int b i < int a i then bits b i else bits a i) else fpMinMax fmt false (bits a i) (bits b i))
  | .vmax d a b => some (d, fun i =>
      if e < 6 then (if int a i < int b i then bits b i else bits a i) else fpMinMax fmt true (bits a i) (bits b i))
  | .vabs d a => some (d, fun i =>
      if e < 6 then wrapped e (int a i).natAbs else if nan a i then fmt.nanPat else bits a i % 2 ^ (laneBitsOf e - 1))
  | .vneg d a => some (d, fun i =>
      if e < 6 then wrapped e (0 - int a i) else if nan a i then fmt.nanPat else (bits a i + 2 ^ (laneBitsOf e - 1)) % 2 ^ laneBitsOf e)
  | .vadds d a b => some (d, fun i => saturated e (int a i + int b i))
  | .vsubs d a b => some (d, fun i => saturated e (int a i - int b i))
  | .vmuls d a b => some (d, fun i => saturated e (int a i * int b i))
  | .vshl d a b => some (d, fun i => if laneBitsOf e ≤ bits b i then 0 else bits a i * 2 ^ bits b i)
  | .vshr d a b => some (d, fun i => if laneBitsOf e ≤ bits b i then 0 else bits a i / 2 ^ bits b i)
  | .vshra d a b => some (d, fun i => wrapped e (int a i / 2 ^ min (bits b i) (laneBitsOf e)))
  | .vcmpeq d a b => some (d, fun i =>
      flagLane e (if e < 6 then int a i == int b i else !nan a i && !nan b i && decide ((fp a i).cmp (fp b i) = .eq)))
  | .vcmpne d a b => some (d, fun i =>
      flagLane e (if e < 6 then int a i != int b i else nan a i || nan b i || decide ((fp a i).cmp (fp b i) ≠ .eq)))
  | .vcmplt d a b => some (d, fun i =>
      flagLane e (if e < 6 then decide (int a i < int b i) else !nan a i && !nan b i && decide ((fp a i).cmp (fp b i) = .lt)))
  | .vcmple d a b => some (d, fun i =>
      flagLane e (if e < 6 then decide (int a i ≤ int b i) else !nan a i && !nan b i && decide ((fp a i).cmp (fp b i) ≠ .gt)))
  | .vsel d a b c => some (d, fun i => if bits c i ≠ 0 then bits a i else bits b i)
  | _ => none

/-- The forms that act on all 256 bits (R216), and VPERM's bytes (R218). -/
def vectorBits (x : Slot) : Instr → Option (VReg × Vec)
  | .vand d a b => some (d, x.rv a &&& x.rv b)
  | .vor d a b => some (d, x.rv a ||| x.rv b)
  | .vxor d a b => some (d, x.rv a ^^^ x.rv b)
  | .vandn d a b => some (d, x.rv a &&& ~~~(x.rv b))
  | .vperm d a b c => some (d, BitVec.ofNat 256 (sumNat ((List.range 32).map (fun j =>
      let k := (x.rv c).toNat / 2 ^ (8 * j) % 2 ^ 8
      (if 2 ^ 7 ≤ k then 0
       else ((x.rv a).toNat + (x.rv b).toNat * 2 ^ 256) / 2 ^ (8 * (k % 2 ^ 6)) % 2 ^ 8) * 2 ^ (8 * j)))))
  | _ => none

/-- Bits [255:252] cleared (R212). -/
def noTop (e : Nat) (v : Vec) : Vec := if e = 1 then v &&& BitVec.ofNat 256 (2 ^ 252 - 1) else v

/-- The lanes of VDOT's group `j` (R226). -/
def dotGroup (e j : Nat) : List Nat :=
  (List.range (laneCount e)).filter (fun i => decide (i / ((laneCount e + 7) / 8) = j))

/-- An integer sum of products over lanes (R226). -/
def dotSum (e : Nat) (a b : Vec) (l : List Nat) : Int :=
  (l.map (fun i => laneInteger e (lane e a i) * laneInteger e (lane e b i))).foldl (fun x y => x + y) 0

/-- The FP32 pattern of 2^i, +0 below the least and +∞ above the greatest. -/
def powerOfTwo (i : Int) : Nat :=
  if 128 ≤ i then 0x7F800000 else if -126 ≤ i then (i + 127).toNat * 2 ^ 23 else if -149 ≤ i then 2 ^ (i + 149).toNat else 0

/-- y = 2^x keeps between the powers of two around it, and is exact at an integer (R223, monotone between its exact points). -/
def exp2Fact (p y : Nat) : Prop := ∀ i : Int, p % 2 ^ 31 < 0x7F800000 → (Fp.ofInt i).cmp (f32 p) ≠ .gt →
  (f32 p).cmp (Fp.ofInt (i + 1)) = .lt →
  powerOfTwo i ≤ y ∧ y ≤ powerOfTwo (i + 1) ∧ ((f32 p).cmp (Fp.ofInt i) = .eq → y = powerOfTwo i)

/-- y = log2 x of a positive x keeps between the integers around it, and is exact at a power of two (R223). -/
def log2Fact (p y : Nat) : Prop := ∀ k : Int, 0 < p → p < 0x7F800000 → (Fp.fin false 1 k).cmp (f32 p) ≠ .gt →
  (f32 p).cmp (.fin false 1 (k + 1)) = .lt →
  y % 2 ^ 31 < 0x7F800000 ∧ (Fp.ofInt k).cmp (f32 y) ≠ .gt ∧ (f32 y).cmp (Fp.ofInt (k + 1)) ≠ .gt
    ∧ ((f32 p).cmp (.fin false 1 k) = .eq → y = (Fp.ofInt k).encode fp32)

/-- y = 1/√x of a positive x is the exact value or one of its two neighbours, and exact at a power of four (R224). -/
def rsqrtFact (p y : Nat) : Prop :=
  let product := fun (n : Nat) => (((f32 n).mul (f32 n)).mul (f32 p)).cmp (.fin false 1 0)
  0 < p → p < 0x7F800000 → 0 < y ∧ y < 0x7F800000 ∧ product (y - 1) = .lt ∧ product (y + 1) = .gt
    ∧ ∀ j : Int, (f32 p).cmp (.fin false 1 (2 * j)) = .eq → y = powerOfTwo (-j)

/-- The values of the function conversions (R223, R224), on FP32 patterns. -/
def functionFact (p y : Nat) : Instr → Prop
  | .vexp2 _ _ _ => (0x7F800000 < p % 2 ^ 31 → y = 0x7FC00000) ∧ (p = 0x7F800000 → y = 0x7F800000) ∧ (p = 0xFF800000 → y = 0)
      ∧ (p % 2 ^ 31 = 0 → y = 0x3F800000) ∧ exp2Fact p y
  | .vlog2 _ _ _ => (0x7F800000 < p % 2 ^ 31 → y = 0x7FC00000) ∧ (p % 2 ^ 31 = 0 → y = 0xFF800000)
      ∧ (2 ^ 31 < p → p ≤ 0xFF800000 → y = 0x7FC00000) ∧ (p = 0x7F800000 → y = 0x7F800000) ∧ (p = 0x3F800000 → y = 0)
      ∧ log2Fact p y
  | .vrcp _ _ _ => (0x7F800000 < p % 2 ^ 31 → y = 0x7FC00000) ∧ (p % 2 ^ 31 = 0 → y = p / 2 ^ 31 * 2 ^ 31 + 0x7F800000)
      ∧ (p % 2 ^ 31 = 0x7F800000 → y = p / 2 ^ 31 * 2 ^ 31) ∧ y = Fp.divRound fp32 (.fin false 1 0) (f32 p)
  | .vrsq _ _ _ => (0x7F800000 < p % 2 ^ 31 → y = 0x7FC00000) ∧ (p % 2 ^ 31 = 0 → y = p / 2 ^ 31 * 2 ^ 31 + 0x7F800000)
      ∧ (2 ^ 31 < p → p ≤ 0xFF800000 → y = 0x7FC00000) ∧ (p = 0x7F800000 → y = 0) ∧ (p = 0x3F800000 → y = 0x3F800000)
      ∧ rsqrtFact p y
  | _ => False

/-- The function conversions: destination, source, lookahead count (R222). -/
def functionForm : Instr → Option (VReg × VReg × BitVec 4)
  | .vexp2 d a l => some (d, a, l)
  | .vlog2 d a l => some (d, a, l)
  | .vrcp d a l => some (d, a, l)
  | .vrsq d a l => some (d, a, l)
  | _ => none

/-- The word issues into a pipeline of its core: `d` is pending, its window is open, and its result `v` is due after
`delay` cycles (R222, R242). -/
def Pipes (s : State) (i : Instr) (d : VReg) (l : BitVec 4) (delay : Nat) (mean : Bool) (v : Vec) : Prop :=
  ∃ t, exec i s = .next t
    ∧ (∀ r, (t.slot s.cur).rg r = (s.slot s.cur).rg r) ∧ (∀ r, (t.slot s.cur).rv r = (s.slot s.cur).rv r)
    ∧ (∀ c, inMask (t.slot s.cur).pres c = (inMask (s.slot s.cur).pres c && decide (c ≠ vcode d)))
    ∧ (∀ c, inMask (t.slot s.cur).pend c = (inMask (s.slot s.cur).pend c || decide (c = vcode d)))
    ∧ SameSpecials (s.slot s.cur) (t.slot s.cur) ∧ Retired (s.slot s.cur) (t.slot s.cur) ((s.slot s.cur).pc + 4)
    ∧ (t.slot s.cur).accs = (s.slot s.cur).accs
    ∧ (t.slot s.cur).wins = (s.slot s.cur).wins.map (fun w => { w with count := w.count - 1 })
        ++ [{ id := s.nextId, count := l.toNat, dests := regBit (vcode d) }]
    ∧ t.pipe = s.pipe ++ [{ id := s.nextId, due := s.cycle + delay, sl := s.cur, th := (s.slot s.cur).th, mean := mean,
                            dest := d, val := v }]
    ∧ SameElse s t s.cur

/-- A word of VOP, VXF or MEAN (R52). -/
def usesEfmt : Instr → Bool
  | .vadd _ _ _ | .vsub _ _ _ | .vmul _ _ _ | .vmad _ _ _ _ | .vmin _ _ _ | .vmax _ _ _ | .vabs _ _ | .vneg _ _
  | .vadds _ _ _ | .vsubs _ _ _ | .vmuls _ _ _ | .vand _ _ _ | .vor _ _ _ | .vxor _ _ _ | .vandn _ _ _ | .vshl _ _ _
  | .vshr _ _ _ | .vshra _ _ _ | .vcmpeq _ _ _ | .vcmpne _ _ _ | .vcmplt _ _ _ | .vcmple _ _ _ | .vsel _ _ _ _
  | .vperm _ _ _ _ | .vcvt _ _ _ _ | .vqscl _ _ _ | .vqnt _ _ _ _ | .vexp2 _ _ _ | .vlog2 _ _ _ | .vrcp _ _ _
  | .vrsq _ _ _ | .vdot _ _ _ | .vdots _ _ _ | .vrsum _ _ | .vrmin _ _ | .vrmax _ _ | .vsplat _ _ | .vext _ _ _
  | .vins _ _ _ | .tminit _ | .tmacc _ _ _ _ | .tmmrg _ _ _ _ | .tmfin _ _ _ | .tmload _ _ _ => true
  | _ => false

/-! ### Mean records (R237) -/

def sigmaOf (v : Vec) : Nat := v.toNat / 2 ^ 108 % 2 ^ 20
def pairOf (v : Vec) : Nat := v.toNat / 2 ^ 104 % 2 ^ 4
def flagEmpty (v : Vec) : Bool := v.getLsbD 98
def flagSkip (v : Vec) : Bool := v.getLsbD 97
def flagNans (v : Vec) : Bool := v.getLsbD 96
def countOf (v : Vec) : Nat := v.toNat / 2 ^ 64 % 2 ^ 32
def sumOf (v : Vec) : Nat := v.toNat / 2 ^ 32 % 2 ^ 32
def anchorOf (v : Vec) : Nat := v.toNat % 2 ^ 32

/-- σ is NaN or infinite (R243). -/
def wildSigma (sigt : Nat) : Prop := 0x7F800 ≤ sigt % 2 ^ 19

/-- The pair names a table that the slot's tile has (R243, R251). -/
def tablePresent (s : State) (p : Nat) : Prop :=
  p < 2 ∨ p = 2 ∧ (s.tile (tileOfSlot s.cur)).pair2 ≠ none ∨ p = 3 ∧ (s.tile (tileOfSlot s.cur)).pair3 ≠ none

/-- The image of a pair of the slot's tile. -/
def tableImage (s : State) (p : Nat) : List Word :=
  if p = 2 then (s.tile (tileOfSlot s.cur)).pair2.getD []
  else if p = 3 then (s.tile (tileOfSlot s.cur)).pair3.getD [] else []

/-- The FP32 pattern of σ (R237). -/
def sigmaPat (v : Vec) : Nat := sigmaOf v * 2 ^ 12

/-- `v` is the merge of the records `p` and `q` of one pair and one σ (R246). -/
structure Merged (p q v : Vec) : Prop where
  tags : sigmaOf v = sigmaOf p ∧ pairOf v = pairOf p
  flags : flagNans v = (flagNans p || flagNans q) ∧ flagSkip v = (flagSkip p || flagSkip q)
  empty : flagEmpty v = (flagEmpty p && flagEmpty q)
  second : flagEmpty p = true → flagEmpty q = false → countOf v = countOf q ∧ sumOf v = sumOf q ∧ anchorOf v = anchorOf q
  first : flagEmpty p = false → flagEmpty q = true → countOf v = countOf p ∧ sumOf v = sumOf p ∧ anchorOf v = anchorOf p
  count : flagEmpty p = false → flagEmpty q = false → countOf v = min (countOf p + countOf q) 0xFFFFFFFF
  anchor : flagEmpty p = false → flagEmpty q = false → anchorOf v = fpMinMax fp32 true (anchorOf p) (anchorOf q)
  sum : flagEmpty p = false → flagEmpty q = false →
    sumOf v = (Fp.sum [(f32 (sumOf p)).mul (f32 (exp2Pat (fsub (anchorOf p) (anchorOf v)))),
      (f32 (sumOf q)).mul (f32 (exp2Pat (fsub (anchorOf q) (anchorOf v))))]).encode fp32

/-- One term folded into EMPTY, S and M (R244, R245). -/
def foldTerm (zero : Bool) (r : Bool × Nat × Nat) (u : Nat) : Bool × Nat × Nat :=
  match zero, r with
  | true, (true, _, _) => (false, (Fp.sum [f32 0, f32 u]).encode fp32, 0)
  | true, (false, a, m) => (false, (Fp.sum [f32 a, f32 u]).encode fp32, m)
  | false, (true, _, _) => (false, 0x3F800000, u)
  | false, (false, a, m) =>
    let n := fpMinMax fp32 true m u
    (false, (Fp.sum [(f32 a).mul (f32 (exp2Pat (fsub m n))), f32 (exp2Pat (fsub u n))]).encode fp32, n)

/-- The fates of the lanes that TMACC selects, in ascending order (R244). -/
def termFates (s : State) (e : Nat) (rec_ terms mask : Vec) : List Fate :=
  ((List.range (laneCount e)).filter (fun i => decide (lane e mask i ≠ 0))).map (fun i =>
    classify (tableImage s (pairOf rec_)) (sigmaOf rec_ * 2 ^ 12) (pairOf rec_)
      (let p := (s.slot s.cur).tmsel.toNat / 2 ^ 4 % 4; if p = 3 then 0 else p)
      (if e = 8 then lane e terms i else (laneValue e (lane e terms i)).encode fp32))

/-! ### Special registers and system words (R383 to R389) -/

/-- What SRD reads of a register whose value the slot, its core or the module keeps as it stands (R386); `c` is the slot's
core. -/
def plainSpecials (s : State) : List (Nat × Word) :=
  let x := s.slot s.cur
  let c := s.core (coreOfSlot s.cur)
  [(0x004, wd s.cycle), (0x005, 1#64), (0x010, x.efmt), (0x011, x.shape), (0x012, x.tmsel), (0x018, x.batch), (0x01A, x.btrap),
   (0x020, c.tags), (0x021, c.tagerr), (0x030, x.tvec), (0x031, x.epc), (0x032, x.fcause), (0x033, x.faddr),
   (0x034, x.finfo), (0x038, x.waitlim)]

/-- What SWR does to its slot (R386, R389): the writable fields take the bits of `v`, every other bit reads 0. -/
def specialWrites (v : Word) : List (Nat × (Slot → Slot)) :=
  [(0x010, fun y => { y with efmt := v &&& 0xF#64 }), (0x011, fun y => { y with shape := v &&& 0xFFFFF000#64 }),
   (0x012, fun y => { y with tmsel := v &&& 0x33#64 }), (0x018, fun y => { y with batch := v &&& 3#64 }),
   (0x019, fun y => { y with bstat := v.setWidth 16 }), (0x01A, fun y => { y with btrap := v &&& 0xF#64 }),
   (0x028, fun y => { y with routes := if v.getLsbD 32 then [] else y.routes }),
   (0x030, fun y => { y with tvec := v &&& 0x7FFF#64 }), (0x031, fun y => { y with epc := v &&& 0x7FFF#64 }),
   (0x032, fun y => { y with fcause := v &&& 0x80000000000000FF#64 }), (0x033, fun y => { y with faddr := v }),
   (0x034, fun y => { y with finfo := v }), (0x038, fun y => { y with waitlim := v &&& 0xFFFF#64 })]

/-- The numbers of the special registers (R386), and those that are read-only. -/
def specialMap : List Nat :=
  [0x001, 0x002, 0x003, 0x004, 0x005, 0x010, 0x011, 0x012, 0x018, 0x019, 0x01A, 0x020, 0x021, 0x028, 0x030, 0x031, 0x032, 0x033,
   0x034, 0x038] ++ (List.range 16).map (fun k => 0x050 + k)
def readOnly : List Nat := [0x001, 0x002, 0x003, 0x004, 0x005, 0x020, 0x021] ++ (List.range 16).map (fun k => 0x050 + k)

/-- The slot out of its handler: INH is clear (R384). -/
def outOfHandler (x : Slot) : Slot := { x with fcause := x.fcause &&& 0x7FFFFFFFFFFFFFFF#64 }

/-! ### Parks -/

/-- The slot parks on its word (R3, R75, R84): nothing issues, PC and registers stay, WASTED rises, and the counter of the
reason rises once in a park. -/
structure Parks (s t : State) (r : Reason) : Prop where
  st : (t.slot s.cur).st = .parked
  reason : (t.slot s.cur).reason = r
  pc : (t.slot s.cur).pc = (s.slot s.cur).pc
  regs : SameRegs (s.slot s.cur) (t.slot s.cur) []
  traps : SameTraps (s.slot s.cur) (t.slot s.cur)
  wins : (t.slot s.cur).wins = (s.slot s.cur).wins
  issued : (t.slot s.cur).cnt.get cntIssued = (s.slot s.cur).cnt.get cntIssued
  wasted : (t.slot s.cur).cnt.get cntWasted = (s.slot s.cur).cnt.get cntWasted + 1#64
  counted : (t.slot s.cur).cnt.get r.counter
    = (s.slot s.cur).cnt.get r.counter + (if (s.slot s.cur).inPark then 0#64 else 1#64)
  others : SameElse s t s.cur

/-- An access with this number stands in a wait list of this module or, as its notices have said, of another (R164, R346). -/
def WaitsOnWord (s : State) (id : Nat) : Prop :=
  ∃ q ∈ s.reqs, q.acc = id ∧ ∃ c, q.stage = .waiting c ∨ q.stage = .sent c ∧ q.listed = true

/-- Steps to a state that differs from `t` in CHANGES alone (R404). -/
def StepsTo (s t : State) : Prop :=
  ∃ u, step s = .next u ∧ u = { t with slots := u.slots } ∧ ∀ k, { u.slot k with changes := (t.slot k).changes } = t.slot k

/-! ### Memory -/

/-- What an integer atomic leaves in its word and answers (R171, R173): the word `m`, operands b, the register after b, and
the destination's old value. -/
def amoRule (m b b2 d : Word) : List (Nat × Word × Word) :=
  [(0x01, wd (m.toNat + b.toNat), m), (0x02, m &&& b, m), (0x03, m ||| b, m), (0x04, m ^^^ b, m),
   (0x05, wi (min m.toInt b.toInt), m), (0x06, wi (max m.toInt b.toInt), m), (0x07, wd (min m.toNat b.toNat), m),
   (0x08, wd (max m.toNat b.toNat), m), (0x09, b, m), (0x0A, (if m = d then b else m), m),
   (0x0C, (if m.toNat + b.toNat ≤ b2.toNat % 2 ^ 32 then wd (m.toNat + b.toNat) else m),
     (if m.toNat + b.toNat ≤ b2.toNat % 2 ^ 32 then wd (m.toNat % 2 ^ 63) else wd (2 ^ 63 + m.toNat % 2 ^ 63)))]

/-! ### Events

An event that the schedule brings when its conditions hold has its effect; the frames say what it leaves alone. -/

/-- Every byte and every word state of memory is as it was. -/
structure SameMemory (s t : State) : Prop where
  bytes : ∀ a, Memory.byte t.mem a = Memory.byte s.mem a
  states : ∀ a, t.wordState a = s.wordState a

/-- What the module keeps of contexts, launches, host queues, the mailbox, the host and the pod is as it was. -/
structure SameModule (s t : State) : Prop where
  ctxs : t.ctxs = s.ctxs
  launches : t.launches = s.launches
  queues : t.queues = s.queues
  mbox : t.mbox = s.mbox
  hostMem : t.hostMem = s.hostMem
  pod : t.pod = s.pod

/-- The slot's turn of this cycle is over, or it has none to take (R81; log entry 92). -/
def TurnOver (s : State) (sl : Nat) : Prop :=
  let x := s.slot sl
  s.cycle % 8 ≠ sl % 8 ∨ x.turnAt = s.cycle + 1
    ∨ ¬ ((x.st = .running ∨ x.st = .parked ∧ x.reason ≠ .idle) ∧ x.ending = none)

/-- A core's own issue stage has done what it does in this cycle. -/
def StageOver (s : State) (c : Nat) : Prop := TurnOver s (c * 8 + s.cycle % 8)

/-- The transfer core of a node offers the turn of this cycle to hart `h`, and no hart has used it (R285). -/
def HartTurn (s : State) (node h : Nat) : Prop := s.cycle % 8 = h ∧ (s.node node).hartAt ≤ s.cycle

/-- A hart of the node is free on its turn and does firmware's work (R287; log entry 100). -/
def FreeHart (s : State) (node : Nat) : Prop :=
  (s.node node).hartAt ≤ s.cycle ∧ Tab.look (s.node node).harts (s.cycle % 8) = none

/-- Slots, cores, tiles and nodes outside the lists are as they were. -/
structure OnlyAt (s t : State) (sl co ti no : List Nat) : Prop where
  slots : ∀ k, k ∉ sl → t.slot k = s.slot k
  cores : ∀ k, k ∉ co → t.core k = s.core k
  tiles : ∀ k, k ∉ ti → t.tile k = s.tile k
  nodes : ∀ k, k ∉ no → t.node k = s.node k

/-- Slot `sl` becomes what `f` makes of it, and nothing else of SameElse changes. -/
structure OnSlot (s t : State) (sl : Nat) (f : Slot → Slot) : Prop where
  slot : t.slot sl = f (s.slot sl)
  others : SameElse s t sl

/-- The requests, with one moved to a stage behind all that are there. -/
def restaged (s : State) (id : Nat) (st : Stage) : List Req :=
  s.reqs.map (fun q => if q.id = id then { q with stage := st, stamp := s.nextId } else q)

/-- The requests without one. -/
def without (s : State) (id : Nat) : List Req := s.reqs.filter (fun q => decide (q.id ≠ id))

/-- A slot's items after one perform of an item has settled with a code; the first failure stands (R185). -/
def settledItems (x : Slot) (tag seq : Nat) (code : BitVec 8) : List Item :=
  x.items.map (fun i => if i.tag = tag ∧ i.seq = seq then
    { i with left := i.left - 1, code := if i.code = 0#8 then code else i.code } else i)

/-- `l` is `a :: r` behind elements that fail the test, which `a` meets: `a` is its first such element. -/
def FirstIn {α : Type} (p : α → Prop) (l before : List α) (a : α) (after : List α) : Prop :=
  l = before ++ a :: after ∧ p a ∧ ∀ b ∈ before, ¬ p b

/-- Turns of a node are not lost to throttling in this cycle (R402). -/
def fullSpeed (s : State) (n : Nat) : Prop :=
  (∀ e ∈ (s.node n).droop, s.cycle < e.1 ∨ e.2 ≤ s.cycle) ∧ (s.node n).level ≤ s.cycle / 8 % 8

/-- A slot's item `(g, n)`, sent by the thread `th`, has settled with a code; no other item of the slot changes. -/
def SettlesAs (s t : State) (sl : Nat) (th : Thread) (g n : Nat) (code : BitVec 8) : Prop :=
  (s.slot sl).th = th → (s.slot sl).ending = none → (t.slot sl).items = settledItems (s.slot sl) g n code

/-- A landing whose slot has sent it as an item, in its route set behind no earlier value of its path or landing address (R116,
R121, R200); the resident slot's instruction of this cycle has gone first (R107). -/
structure AtCore (s : State) (id : Nat) (r : Req) (v : Word) (c sl : Nat) (th : Thread) (g n : Nat) : Prop where
  here : s.req? id = some r
  op : r.op = .landing v none false
  tgt : r.tgt = .landing c
  stage : r.stage = .route
  first : ∀ q ∈ s.reqs, q.stage = .route → q.src = r.src → q.tgt.meets r.tgt = true → q.op.vc = 2 → r.stamp ≤ q.stamp
  free : (s.node (nodeOfCore c)).landHead = none
  own : r.own = .slot sl th
  item : r.item = some (g, n)
  behind : ∀ q ∈ s.reqs, q.own = r.own → q.op.isLanding = true → q.ea = r.ea → q.id < r.id → q.stage ≠ .route
  turn : let k := addrThread r.ea
    (s.slot k.birth).holds k = true → TurnOver s k.birth

/-- The slot's landing register code: g0 to g31, then the 64-bit lanes of v0 to v15 from 64 on (R108). -/
def landed (x y : Slot) (code : Nat) (v : Word) : Prop :=
  (code < 32 → y.rg (BitVec.ofNat 5 code) = v ∧ SameRegs x y [code])
  ∧ (64 ≤ code → (y.rv (BitVec.ofNat 4 (code / 4 % 16))).toNat / 2 ^ (64 * (code % 4)) % 2 ^ 64 = v.toNat
      ∧ (∀ k < 4, k ≠ code % 4 → (y.rv (BitVec.ofNat 4 (code / 4 % 16))).toNat / 2 ^ (64 * k) % 2 ^ 64
          = (x.rv (BitVec.ofNat 4 (code / 4 % 16))).toNat / 2 ^ (64 * k) % 2 ^ 64)
      ∧ SameRegs x y [32 + code / 4 % 16])

/-- The register of a landing code in the order of R71. -/
def landSlot (code : Nat) : Nat := if code < 32 then code else 32 + code / 4 % 16

/-- Bytes outside the ranges are as they were; a range is a first address and a length. -/
def BytesBut (s t : State) (l : List (Nat × Nat)) : Prop :=
  ∀ a, (∀ p ∈ l, a < p.1 ∨ p.1 + p.2 ≤ a) → Memory.byte t.mem a = Memory.byte s.mem a

/-- A thread of launch `l` (number `k`) is born in slot `sl` at `pc` with g0 and the registers above it from a list (R85, R88,
R89, R91): generation + 1, every other register 0 and present, special registers at their launch values. -/
structure Born (x y : Slot) (sl k : Nat) (l : Launch) (pc : Nat) (g : List Word) : Prop where
  st : y.st = .running
  pc : y.pc = pc
  gen : y.gen = x.gen + 1#12
  th : y.th = { birth := sl, gen := x.gen + 1#12 }
  launch : y.launch = k ∧ y.ctx = l.ctx ∧ y.n = l.pkt.n ∧ y.cls = l.cls
  regs : (∀ q : Reg, y.rg q = nth 0#64 g q.toNat) ∧ ∀ q, y.rv q = 0#256
  present : ∀ c < 48, inMask y.pres c = true ∧ inMask y.pend c = false
  specials : y.efmt = 0#64 ∧ y.shape = 0x3F800000#64 ∧ y.tmsel = 0#64 ∧ y.batch = 0#64 ∧ y.bstat = 0#16 ∧ y.btrap = 0#64
    ∧ y.tvec = wd (4 * l.pkt.tvec) ∧ y.waitlim = 256#64 ∧ y.fcause = 0#64 ∧ y.epc = 0#64 ∧ y.faddr = 0#64 ∧ y.finfo = 0#64
  empty : y.wins = [] ∧ y.accs = [] ∧ y.items = [] ∧ y.dfr = none ∧ y.attach = [] ∧ y.owned = [] ∧ y.routes = [] ∧ y.pre = none

/-- A thread is born from a task record (R91); a bound slot keeps its counters (R84). -/
structure BornFrom (x y : Slot) (sl k : Nat) (l : Launch) (r : Task) : Prop where
  born : Born x y sl k l r.pc [r.parent, r.w0, r.w1, r.w2, r.w3]
  kept : x.st ≠ .free → ∀ c, c ≠ cntStolen → y.cnt.get c = x.cnt.get c
  fresh : x.st = .free → ∀ c, c ≠ cntStolen → y.cnt.get c = 0#64
  stolen : y.cnt.get cntStolen = (if x.st = .free then 0#64 else x.cnt.get cntStolen) + (if r.stolen then 1#64 else 0#64)

/-- An IDLE slot of a launch (R79). -/
def IdleOf (x : Slot) (k : Nat) : Prop := x.st = .parked ∧ x.reason = .idle ∧ x.launch = k

/-- Slots keep all but the cycle from which they probe again (R92). -/
def OnlyProbeTimes (s t : State) : Prop := ∀ i, ∃ k, t.slot i = { s.slot i with retryAt := k }

/-- The dispatch queue of a command's engine: 0 for MMAZ, MMA and RFREE, 1 for EPI, 2 for the rest (R258, R288). -/
def queueFor (k : Core) (c : CmdKind) : List Cmd :=
  match c with
  | .mmaz | .mma | .rfree => k.q0
  | .epi => k.q1
  | _ => k.q2

/-- The array time of an MMA of `n` steps (R265, R279): each takes one cycle for every 64 elements of a block and every 4
products of plane depths, or twice that while R-Bus 1 is configured. -/
def arrayTime (s : State) (tile : Nat) (c : Cmd) (n : Nat) : Nat :=
  n * (max 1 (2 ^ (c.a.toNat / 2 ^ 52 % 16) / 64) * ((fmtK (c.a.toNat / 2 ^ 56) * fmtK (c.b.toNat / 2 ^ 56) + 3) / 4)
    * (if (s.tile tile).rbus = 1 then 2 else 1))

/-- Some slot owns the ring tile (R259). -/
def Owned (s : State) (rt : Nat) : Prop := ∃ e ∈ s.slots, rt ∈ e.2.owned

/-- Places of a tile's ring whose tiles are owned stay as they are. -/
def KeepsOwned (s t : State) (tile : Nat) : Prop :=
  ∀ j : Fin 8, ∀ r, (s.tile tile).ring.get j = some r → Owned s r.rt → (t.tile tile).ring.get j = some r

/-- The bank of an access of an engine has no performs of its wait list to make (R165, R201). -/
def BankFree (s : State) (loc n : Nat) : Prop :=
  ∀ c, (targetOf loc n).storeCore = some c → (s.core c).walks = [] ∧ (s.core c).waitl = []

/-- The earlier accesses of a slot are performed for its command with number `id` (R199, R206). -/
def AccessesDone (s : State) (sl id : Nat) : Prop :=
  (∀ a ∈ (s.slot sl).accs, a.counts = true → a.id < id → a.relaxed = true ∧ a.dest = .none)
  ∧ ∀ q ∈ s.reqs, q.ofSlot sl = true → q.item ≠ none → q.id < id → q.stage.isReplied = true

/-- Address and bytes of write `i` of an epilogue (R41, R277): in row order for a float destination; block by block for bit
planes: the header, the planes, and for an odd S the padding. -/
def epilogueWrite (c : Cmd) (i : Nat) : Nat × Nat :=
  let f := c.a.toNat / 2 ^ 56
  let d := c.a.toNat % 2 ^ 52
  let rs := (c.desc[1]?.getD 0#64).toNat
  if 2 ^ 7 ≤ f then
    let n := fmtS f + 1 + fmtS f % 2
    let b := d + i / n * (8 + 8 * ((fmtS f * 4 + 7) / 8))
    if i % n = 0 then (b % 2 ^ 52, 8) else ((b + 8 + 4 * (i % n - 1)) % 2 ^ 52, 4)
  else
    let z := if f = 0x0A then 4 else 2
    ((d + i / 8 * (if rs = 0 then 8 * z else rs) + i % 8 * z) % 2 ^ 52, z)

/-- The result of element (r, c) of an epilogue, as an FP32 pattern (R277). -/
def epilogueResult (x : EpiJob) (k : Ring) (r c : Nat) : Nat :=
  let acc := k.acc.get (Fin.ofNat 256 (8 * r + c))
  let half := fun (o : Nat) => (x.tw[o / 2]?.getD 0#64).toNat / 2 ^ (32 * (o % 2)) % 2 ^ 32
  let table := decide (x.cmd.desc[0]?.getD 0#64 ≠ 0#64)
  let v := if k.mode then (Fp.ofInt acc.toInt).encode fp32 else acc.toNat
  let y := (Fp.sum [(f32 v).mul (f32 (if table then half c else 0x3F800000)), f32 (if table then half (8 + c) else 0)]).encode fp32
  match x.cmd.b.toNat / 2 ^ 8 % 4 with
  | 1 => if (f32 y).isNan then y else if 2 ^ 31 ≤ y then 0 else y
  | 2 => exp2Pat y
  | _ => y

/-- The data of write `i` (R46, R277). -/
def epilogueData (x : EpiJob) (k : Ring) (i : Nat) : Nat :=
  let f := x.cmd.a.toNat / 2 ^ 56
  let e := x.cmd.b.toNat / 2 ^ 16 % 2 ^ 8
  if 2 ^ 7 ≤ f then
    let n := fmtS f + 1 + fmtS f % 2
    if i % n = 0 then e
    else if fmtS f < i % n then 0
    else sumNat ((List.range 32).map (fun r =>
      (q8Of (f32 (epilogueResult x k r (i / n))) e (fmtS f) % 2 ^ 8).toNat / 2 ^ (8 - i % n) % 2 * 2 ^ r))
  else
    let y := epilogueResult x k (i / 8) (i % 8)
    if f = 0x0A then y else (f32 y).encode (if f = 8 then fp16 else bf16)

/-- The command `c` at the head of the queue of core `m` of a tile is next in core rotation from `rot` (R262): cores before
it have nothing queued. -/
structure NextUp (s : State) (tile rot m : Nat) (q : Core → List Cmd) (c : Cmd) (rest : List Cmd) : Prop where
  lt : m < 4
  skipped : ∀ k < m, q (s.core (4 * tile + (rot + k) % 4)) = []
  queue : q (s.core (4 * tile + (rot + m) % 4)) = c :: rest
  fresh : ∀ d ∈ rest, d.id ≠ c.id

/-- The boundaries at which an MMA may stop (R76, R280): after 16 k-blocks, after each, after each step; never for SG 0. -/
def atGranule (x : BurinJob) : Prop :=
  x.aw = [] ∧ 0 < x.steps ∧ x.cmd.sg ≠ 0#2 ∧ (x.cmd.sg = 1#2 → x.r = 0 ∧ x.bw = [] ∧ x.j % 16 = 0)
    ∧ (x.cmd.sg = 2#2 → x.r = 0 ∧ x.bw = [])

/-- Harts of a node other than `h` are as they were, and hart `h` has the job given. -/
def HartIs (s t : State) (node h : Nat) (j : Option HartJob) : Prop :=
  Tab.look (t.node node).harts h = j ∧ ∀ k, k ≠ h → Tab.look (t.node node).harts k = Tab.look (s.node node).harts k

/-- Signed 64-bit word `i` of a descriptor, and its unsigned low 32 bits. -/
def descInt (j : HartJob) (i : Nat) : Int := (j.dw[i]?.getD 0#64).toInt
def descNat (j : HartJob) (i : Nat) : Nat := (j.dw[i]?.getD 0#64).toNat
def descLow (j : HartJob) (i : Nat) : Nat := descNat j i % 2 ^ 32

/-- A 52-bit address at an offset. -/
def offsetBy (b off : Int) : Nat := ((b + off) % (2 ^ 52 : Nat)).toNat

/-- The offset of element `n` of a COPY with strides from descriptor word `w` on, i_0 changing fastest (R295, R296); bits [63:32] of
an extent are ignored (log entry 98). -/
def elementOffset (j : HartJob) (n w : Nat) : Int :=
  ((List.range (descNat j 2 % 2 ^ 4)).map (fun d =>
    ((n / ((List.range d).map (fun e => descLow j (4 + 3 * e))).foldl (fun a b => a * b) 1 % descLow j (4 + 3 * d) : Nat) : Int)
      * descInt j (w + 3 * d))).foldl (fun a b => a + b) 0

/-- A row of `len` bytes is copied in words of 8 bytes (R299, R301). -/
def rowAccesses (src dst len : Nat) : List Micro :=
  (List.range (len / 8)).flatMap (fun k => [.read 8 ((src + 8 * k) % 2 ^ 52) false, .copy 8 ((dst + 8 * k) % 2 ^ 52) k false])

/-- The accesses with which element, row, item or word `unit` of a command begins (R296, R299, R301, R303, R305). -/
def unitAccesses (j : HartJob) : List Micro :=
  let u := j.unit
  match j.cmd.kind with
  | .copy =>
    let z := 2 ^ (descNat j 2 / 2 ^ 4 % 2 ^ 3)
    let n := min z 8
    let src := offsetBy (descNat j 0) (elementOffset j u 5)
    let dst := offsetBy (descNat j 1) (elementOffset j u 6)
    (List.range (z / n)).map (fun i => .read n ((src + i * n) % 2 ^ 52) false)
      ++ (List.range (z / n)).map (fun i => .copy n ((dst + i * n) % 2 ^ 52) i (decide (descNat j 2 / 2 ^ 8 % 4 = 1)))
  | .gather | .scatter => [.read 8 (offsetBy (descNat j 2) (8 * u : Nat)) true]
  | .bins => [.read 8 (offsetBy (descNat j 1) (8 * u : Nat)) true]
  | .fillw => [.fill (offsetBy (descNat j 0) (8 * u : Nat)) (j.dw[2]?.getD 0#64) (BitVec.ofNat 2 (descNat j 1 / 2 ^ 32))]
  | .mcast =>
    let at_ := fun (i off : Nat) => 0x3FF * 2 ^ 42 + 0x20000000000 + (descLow j 3 + i) * 2 ^ 21 + off
    let n := descNat j 3 / 2 ^ 32
    let rcpt := descNat j 4 % 2 ^ 21
    if u < descLow j 1 / 8 then
      .read 8 (offsetBy (descNat j 0) (8 * u : Nat)) false
        :: (List.range n).map (fun i => .copy 8 (at_ i (descNat j 2 + 8 * u)) 0 false)
    else if rcpt = 2 ^ 21 - 1 then [] else (List.range n).map (fun i => .put (at_ i rcpt) j.handle true)
  | _ => []

/-- How many units a command has (R295, R298, R300, R302, R305). -/
def unitCount (j : HartJob) : Nat :=
  match j.cmd.kind with
  | .copy => ((List.range (descNat j 2 % 2 ^ 4)).map (fun e => descLow j (4 + 3 * e))).foldl (fun a b => a * b) 1
  | .gather | .scatter => descNat j 3
  | .bins => descLow j 2
  | .fillw => descLow j 1
  | .mcast => descLow j 1 / 8 + 1
  | _ => 0

/-- The write of an item's position (R301). -/
def positionWrite (j : HartJob) (v : Nat) : List Micro :=
  if descNat j 12 = 0 then [] else [.put (offsetBy (descNat j 12) (8 * j.unit : Nat)) (wd v) false]

/-- What the table of R299 makes of an index word `v`, `bad` where it is EMPTY, POISON or uncorrectable: the accesses of the row,
the error to record, and whether the command stops. -/
def rowStep (j : HartJob) (v : Word) (bad : Bool) : List Micro × Nat × Bool :=
  let gather := decide (j.cmd.kind = .gather)
  let half := fun (i : Nat) => Int.bmod ((descNat j 6 / 2 ^ (32 * i) % 2 ^ 32 : Nat) : Int) (2 ^ 32)
  let lin := offsetBy (descNat j 1) ((j.unit : Int) * half 1)
  let tab := offsetBy (descNat j 0) ((v.toNat : Int) * half 0)
  let row := (List.range (descNat j 5 / 8)).map (fun k => (lin + 8 * k) % 2 ^ 52)
  if bad then (if gather then row.map .poison else [], 5, false)
  else if descNat j 4 ≤ v.toNat then
    if j.cmd.b.getLsbD 8 then ([], 4, true) else (if gather then row.map (fun a => .put a 0#64 false) else [], 3, false)
  else (if gather then rowAccesses tab lin (descNat j 5) else rowAccesses lin tab (descNat j 5), 0, false)

/-- The item of R301 after the answer `v` of its key word, of the counter of bin `k`, or of the overflow counter: its accesses, the
error to record, whether it is dropped, whether the command stops. -/
def itemStep (j : HartJob) (v : Word) (bad : Bool) : List Micro × Nat × Bool × Bool :=
  let u := j.unit
  let row := descLow j 3
  let item := offsetBy (descNat j 0) ((u * row : Nat) : Int)
  let drop := (positionWrite j (2 ^ 63), 9, true, false)
  match j.phase with
  | .key =>
    if bad then (positionWrite j (2 ^ 63), 5, false, false)
    else if descLow j 4 ≤ v.toNat then
      if j.cmd.b.getLsbD 8 then ([], 4, false, true) else (positionWrite j (2 ^ 63), 3, false, false)
    else ([.bump (offsetBy (descNat j 7) (8 * v.toNat : Nat)) (descLow j 5)], 0, false, false)
  | .bump k =>
    let place := k * descLow j 5 + v.toNat
    if v.toNat < 2 ^ 63 then
      (rowAccesses item (offsetBy (descNat j 6) ((place * row : Nat) : Int)) row ++ positionWrite j place, 0, false, false)
    else ([.bump (descNat j 10 % 2 ^ 52) (descLow j 9)], 0, false, false)
  | .ovf k =>
    if v.toNat < 2 ^ 63 then
      (rowAccesses item (offsetBy (descNat j 8) ((v.toNat * row : Nat) : Int)) row
        ++ .put (offsetBy (descNat j 11) (8 * v.toNat : Nat)) (wd (k * 2 ^ 32 + u)) false :: positionWrite j (2 ^ 62 + v.toNat),
        0, false, false)
    else drop
  | _ => ([], 0, false, false)

/-- The writes with which a command ends: DROPS of BINS, then STATUS (R291, R292, R301). -/
def completionWrites (c : Cmd) (k : HartJob) : List Micro :=
  (if c.kind = .bins then [.put ((c.a.toNat % 2 ^ 52 + 0x68) % 2 ^ 52) (wd k.drops) false] else [])
    ++ [.put ((c.a.toNat % 2 ^ 52 + 8 * (descWords c.kind - 1)) % 2 ^ 52) (wd (2 ^ 63 + b2n k.more * 2 ^ 62
      + k.err % 2 ^ 8 * 2 ^ 48 + k.fcause % 2 ^ 8 * 2 ^ 40 + k.where_ % 2 ^ 40)) false]

/-- Where the first of them goes. -/
def firstCompletion (c : Cmd) : Nat :=
  (c.a.toNat % 2 ^ 52 + (if c.kind = .bins then 0x68 else 8 * (descWords c.kind - 1))) % 2 ^ 52

/-- An error is recorded with the unit: the first as ERR and WHERE, a later one in MORE (R291). -/
def Noted (j k : HartJob) (e : Nat) : Prop :=
  (e = 0 → k.err = j.err ∧ k.more = j.more ∧ k.where_ = j.where_ ∧ k.fcause = j.fcause)
  ∧ (e ≠ 0 → j.err = 0 → k.err = e ∧ k.where_ = j.unit ∧ k.fcause = 0 ∧ k.more = j.more)
  ∧ (e ≠ 0 → j.err ≠ 0 → k.err = j.err ∧ k.more = true ∧ k.where_ = j.where_ ∧ k.fcause = j.fcause)

/-- Address, bytes and need of an access (R180, R286), and what it does at its bank (R296, R297, R301, R305); a buffer entry that was
read POISON marks the word that it is written to. -/
def accessOf (j : HartJob) (m : Micro) : Nat × Nat × Need × MemOp :=
  let need := fun (r w a y : Bool) => ({ r := r, w := w, a := a, sync := y, hart := true } : Need)
  match m with
  | .read n a _ => (a, n, need true false false false, .peek n)
  | .copy n a i sf =>
    match j.buf[i]?.getD (0#64, false) with
    | (_, true) => (a, n, need false true false false, .mark n)
    | (v, false) => (a, n, need false true false sf, .hput n sf v)
  | .put a v sf => (a, 8, need false true false sf, .hput 8 sf v)
  | .poison a => (a, 8, need false true false false, .mark 8)
  | .fill a v st => (a, 8, need false true false false, .fillw v st)
  | .bump a lim => (a, 8, need true true true false, .amo 0x0C#6 1#64 (wd lim) 0#64)

/-- Access `m` of a hart's job can be issued at byte `loc` of this module: its checks pass and its context has tokens (R193, R286). -/
structure Issuable (s : State) (node : Nat) (j : HartJob) (m : Micro) (loc : Nat) : Prop where
  place : checkAddr s j.cmd.ctx (accessOf j m).2.2.1 ((accessOf j m).1 % 2 ^ 52) = .ok (.mem loc)
  aligned : (accessOf j m).1 % 2 ^ 52 % (accessOf j m).2.1 = 0
  tokens : ∀ ch, targetOf loc (accessOf j m).2.1 = .hbm ch →
    max 1 (((accessOf j m).2.1 + 63) / 64) ≤ (s.bucket node j.cmd.ctx).hbm

/-- A hart has used its turn: its job is `k`, which waits for the request of its first access `m` at `loc` (R286). -/
structure HartIssues (s t : State) (node h : Nat) (k : HartJob) (m : Micro) (loc : Nat) : Prop where
  job : HartIs s t node h (some { k with busy := true })
  request : ∃ r : Req, t.reqs = s.reqs ++ [r] ∧ r.own = .hart node h ∧ r.ctx = k.cmd.ctx ∧ r.op = (accessOf k m).2.2.2
    ∧ r.loc = loc ∧ r.tgt = targetOf loc (accessOf k m).2.1 ∧ r.limit = 256 ∧ r.stage = .route ∧ r.item = none
  used : (t.node node).hartAt = s.cycle + 1
  frame : SameMemory s t ∧ OnlyAt s t [] [] [] [node] ∧ SameModule s t

/-- The hart can act on its turn: its job is `j`, none of its requests is in flight, and its context is not being ended (R285,
R311). -/
structure HartActs (s : State) (node h : Nat) (j : HartJob) : Prop where
  job : Tab.look (s.node node).harts h = some j
  idle : j.busy = false
  turn : HartTurn s node h
  going : s.mbox.ending ≠ some j.cmd.ctx

/-- The combining entries of a router other than `pos` are as they were. -/
def OtherRouters (s t : State) (pos : Nat) : Prop := ∀ q, q ≠ pos → t.router q = s.router q

/-- The router above an entry's, or at the root the sender's hart, is answered (R303). -/
def answerOf (id pos : Nat) (c : Comb) : Ctl :=
  match c.parent with
  | some p => .answer id p pos c.handle c.ctx
  | none => .ready id pos c.root c.h c.ctx

/-- The next router from position `p` toward `q`, along x first (R20, R194, R303): positions are x + 165 y. -/
def nextRouter (p q : Nat) : Nat :=
  if q % 165 = p % 165 then (if q / 165 = p / 165 then p else if p / 165 < q / 165 then p + 165 else p - 165)
  else if p % 165 < q % 165 then p + 1 else p - 1

/-- The oldest request in the queue of a node's plate table is `r`, of slot `sl` (R330). -/
structure AtTable (s : State) (node : Nat) (r : Req) (sl : Nat) (th : Thread) : Prop where
  mem : r ∈ s.reqs
  queued : r.stage = .queued
  tgt : r.tgt = .plates node
  oldest : ∀ q ∈ s.reqs, q.stage = .queued → q.tgt = .plates node → q = r ∨ r.stamp < q.stamp
  own : r.own = .slot sl th
  item : r.item = none

/-- The reply of a PLT word leaves with the two result words (R320). -/
def TableOk (s t : State) (r : Req) (a b : Nat) : Prop :=
  t.reqs = restaged s r.id (.replied (BitVec.ofNat 256 (a % 2 ^ 64 + b % 2 ^ 64 * 2 ^ 64)) none)

/-- Or with PLMISS or PLSTATE, the state found and the reason (R318, R321). -/
def TableFault (s t : State) (r : Req) (c : BitVec 8) (st reason : Nat) : Prop :=
  t.reqs = restaged s r.id (.replied 0#256
    (some { cause := c, faddr := r.ea, finfo := r.info ||| wd (st * 2 ^ 8 + reason) }))

/-- No entry of the table but `e` changes. -/
def PlateIs (s t : State) (node e : Nat) (p : Plate) : Prop :=
  t.plate node e = p ∧ ∀ k, k ≠ e → t.plate node k = s.plate node k

/-- The lowest entry of a node that holds a name for a context (R322). -/
def NamedAt (s : State) (node ctx : Nat) (name : Word) (e : Nat) : Prop :=
  let named := fun (k : Nat) => (s.plate node k).st ≠ .free ∧ (s.plate node k).name = name ∧ (s.plate node k).ctx = ctx
  e < 64 ∧ named e ∧ ∀ k, k < e → ¬ named k

/-- No entry holds the name for the context. -/
def NotNamed (s : State) (node ctx : Nat) (name : Word) : Prop :=
  ∀ k < 64, (s.plate node k).st = .free ∨ (s.plate node k).name ≠ name ∨ (s.plate node k).ctx ≠ ctx

/-- The entry that a PMAKE with a spec fills (R323): the EVICTED one of the name, of the same KIND and LEN, else the lowest FREE. -/
def EntryFor (s : State) (node ctx : Nat) (name spec : Word) (e : Nat) : Prop :=
  (NamedAt s node ctx name e ∧ (s.plate node e).st = .evicted ∧ (s.plate node e).kind = spec.getLsbD 36
    ∧ (s.plate node e).len = spec.toNat % 2 ^ 4)
  ∨ (NotNamed s node ctx name ∧ e < 64 ∧ (s.plate node e).st = .free ∧ ∀ i < e, (s.plate node i).st ≠ .free)

/-- Firmware may evict entry `e` for the space that a spec asks for (R323): SEALED, the same KIND, PINS 0, BV 1, and of UNIT, if it
is named. -/
def Candidate (s : State) (node : Nat) (spec : Word) (e : Nat) : Prop :=
  let p := s.plate node e
  e < 64 ∧ p.st = .sealed ∧ p.kind = spec.getLsbD 36 ∧ p.pins = 0#16 ∧ p.bv = true
    ∧ (spec.getLsbD 47 = true ∨ p.unit = spec.toNat / 2 ^ 40 % 2 ^ 6)

/-- The candidate that goes first (R323): the least LAST, then the lowest entry number. -/
def Victim (s : State) (node : Nat) (spec : Word) (e : Nat) : Prop :=
  Candidate s node spec e ∧ ∀ k, Candidate s node spec k →
    (s.plate node e).last.toNat < (s.plate node k).last.toNat ∨ ((s.plate node e).last = (s.plate node k).last ∧ e ≤ k)

/-- The words of a reference and of a plate's base pointer (R317, R323); entry `e` is named by `a` (R321). -/
def referenceTo (node e : Nat) (p : Plate) : Nat := node * 2 ^ 44 + p.egen.toNat * 2 ^ 32 + p.st.code * 2 ^ 8 + e
def basePointer (node : Nat) (p : Plate) : Nat :=
  0x3FF * 2 ^ 42 + (if p.kind then 0x28000000000 + (node * 16 + p.unit) * 2 ^ 17 else 0x20000000000 + (node * 64 + p.unit) * 2 ^ 15)
    + p.base * 2 ^ 11
def freshRef (p : Plate) (ctx : Nat) (a : Word) : Prop :=
  p.st ≠ .free ∧ p.ctx = ctx ∧ p.egen.toNat = a.toNat / 2 ^ 32 % 2 ^ 12

/-- The away entry of a thread in its home core's directory becomes `a`; entries of other threads stay (R117). -/
def AwayIs (s t : State) (th : Thread) (a : Option Away) : Prop :=
  awayOf t th = a ∧ ∀ o, o ≠ th → awayOf t o = awayOf s o

/-- A 64-bit word of memory. -/
def wordAt (s : State) (a : Nat) : Nat := Memory.readNat s.mem a 8

/-- The words of a save record that stand for one register each, by offset: special registers, counters, descriptors and
engine status words (R375). -/
def recordFields (x : Slot) : List (Nat × Word) :=
  [(0x300, x.pres.setWidth 64), (0x308, wd x.pc), (0x320, x.efmt), (0x328, x.shape), (0x330, x.tmsel), (0x338, x.batch),
   (0x348, x.btrap), (0x358, x.tvec), (0x360, x.epc), (0x368, x.fcause), (0x370, x.faddr), (0x378, x.finfo),
   (0x380, x.waitlim), (0x488, x.edesc0.get 12), (0x490, x.edesc1.get 0), (0x498, x.edesc1.get 1), (0x4A0, x.estat0),
   (0x4A8, x.estat1), (0x540, x.named)]
  ++ (List.finRange 9).map (fun i => (0x440 + 8 * i.val, x.edesc0.get (i.castLE (by omega))))
  ++ (List.finRange 16).map (fun i => (0x3C0 + 8 * i.val, x.cnt.get i))

/-- The bits of such a word that a register has; a restore ignores the others (R7, R375). -/
def recordMask (off : Nat) : Nat :=
  match off with
  | 0x320 => 0xF
  | 0x328 => 0xFFFFF000
  | 0x330 => 0x33
  | 0x338 => 0x3
  | 0x348 => 0xF
  | 0x358 => 0x7FFF
  | 0x360 => 0x7FFF
  | 0x368 => 0x80000000000000FF
  | 0x380 => 0xFFFF
  | 0x4A0 => 0xC000FFFF0000FFFF
  | 0x4A8 => 0xC000FFFF0000FFFF
  | _ => 2 ^ 64 - 1

/-- KIND of a progress record (R281). -/
def recordKind (k : CmdKind) : Nat :=
  match k with
  | .mmaz => 1
  | .mma => 2
  | .rfree => 3
  | .epi => 4
  | _ => 0

/-- Words 0 to 2 of progress record `i` at byte `b` of a record, and word 6 of an MMA, hold the stopped command `c` (R281). -/
def ProgressAt (s : State) (b i : Nat) (c : Cmd) : Prop :=
  let at_ := fun (w : Nat) => wordAt s (b + 0x4C0 + 64 * i + 8 * w)
  at_ 0 = recordKind c.kind * 2 ^ 60 + c.sg.toNat * 2 ^ 58 + c.pca % 2 ^ 16 * 2 ^ 32 + c.nextJ * 2 ^ 20 + c.nextR * 2 ^ 15
  ∧ (c.kind = .mma ∨ c.kind = .epi → at_ 1 = c.a.toNat ∧ at_ 2 = c.b.toNat)
  ∧ (c.kind = .mma → at_ 6 = c.plate.toNat)

/-- A save record at byte `b` holds the slot `x`. -/
def RecordAt (s : State) (b : Nat) (x : Slot) : Prop :=
  (∀ p ∈ recordFields x, wordAt s (b + p.1) = p.2.toNat)
  ∧ (∀ r : Reg, wordAt s (b + 8 * r.toNat) = (x.rg r).toNat)
  ∧ ∀ r : VReg, Memory.readNat s.mem (b + 0x100 + 32 * r.toNat) 32 = (x.rv r).toNat

/-- The head packet of queue `q`, of type `ty` at host address `a`, can be taken: the queue is RUNNING with an event, holds a
hardware slot and awaits no re-read; the packet is marked, its CRC matches and byte 0x7E is 0 (R358 to R362, R367). -/
structure PacketReady (s : State) (q ty : Nat) (x : HQueue) (a : Nat) : Prop where
  queue : Tab.look s.queues q = some x
  running : x.state = 0
  event : x.event = true
  slot : x.slot.isSome = true
  wait : x.rereadAt = 0
  here : a = x.ring + 128 * (x.idx % 2 ^ x.size)
  mark : Memory.byte s.hostMem (a + 0x7F) = 0xA5#8
  crc : crcOk s a = true
  type : Memory.readNat s.hostMem a 1 = ty
  zero : Memory.readNat s.hostMem (a + 0x7E) 1 = 0

/-- Bytes `lo` up to `hi` of a packet are 0 (R363 to R365). -/
def Zero (s : State) (a lo hi : Nat) : Prop := ∀ i, lo ≤ i → i < hi → Memory.byte s.hostMem (a + i) = 0#8

/-- A field of a packet. -/
def field (s : State) (a off n : Nat) : Nat := Memory.readNat s.hostMem (a + off) n

/-- Bytes of host memory outside the ranges are as they were; a range is a first address and a length. -/
def HostBut (s t : State) (l : List (Nat × Nat)) : Prop :=
  ∀ a, (∀ p ∈ l, a < p.1 ∨ p.1 + p.2 ≤ a) → Memory.byte t.hostMem a = Memory.byte s.hostMem a

/-- Two ranges of addresses share no byte. -/
def Apart (a m b n : Nat) : Prop := a + m ≤ b ∨ b + n ≤ a

/-- The packet is taken (R362): its mark is 0, RIDX is the next index, and the queue goes on with the next packet. -/
structure Taken (s t : State) (q : Nat) (x : HQueue) (a : Nat) (also : List (Nat × Nat)) : Prop where
  mark : Memory.byte t.hostMem (a + 0x7F) = 0#8
  ridx : Memory.readNat t.hostMem x.ridx 4 = (x.idx + 1) % 2 ^ 32
  queue : ∃ y, Tab.look t.queues q = some y ∧ y.idx = x.idx + 1 ∧ y.state = 0 ∧ y.event = true ∧ y.ctx = x.ctx
  rest : ∀ k, k ≠ q → Tab.look t.queues k = Tab.look s.queues k
  bytes : HostBut s t ((a + 0x7F, 1) :: (x.ridx, 4) :: also)

/-- The status word of a queue is written (R361): state, ERR, and SEQ of the packet it stands on. -/
def Status (t : State) (x : HQueue) (state err seq : Nat) : Prop :=
  Memory.readNat t.hostMem x.qstat 8 = state * 2 ^ 56 + err * 2 ^ 48 + seq

/-- Only host memory and the queues change (R358). -/
structure OnlyQueues (s t : State) : Prop where
  memory : SameMemory s t
  agents : OnlyAt s t [] [] [] []
  ctxs : t.ctxs = s.ctxs
  launches : t.launches = s.launches
  pod : t.pod = s.pod

/-- The condition of a WAIT packet holds for a word (R364): EQ, NE, GE, LT of the masked word and the value, unsigned. -/
def waitTrue (s : State) (a : Nat) (w : Word) : Prop :=
  let v := w.toNat &&& field s a 0x18 8
  let c := field s a 0x10 8
  match field s a 4 1 with
  | 0 => v = c
  | 1 => v ≠ c
  | 2 => c ≤ v
  | _ => v < c

/-- A mailbox command completes with an ERR and RESULT 0 (R393). -/
def Answers (s t : State) (err : Nat) : Prop := t.mbox = { s.mbox with busy := false, err := err, result := 0#32 }

/-- The command completes with ERR `err` and does nothing else (R393). -/
def Refuses (s : State) (i : Instr) (err : Nat) : Prop :=
  exec i s = .next { s with mbox := { s.mbox with busy := false, err := err, result := 0#32 } }

/-- The commands of the mailbox that need a module in phase 6 (R393). -/
def mailCommands : List Instr := [.ctxset, .ctxend, .qreg, .qrestart, .qclass, .memwin, .podkey]

/-- A byte of a host range cannot be read over CXL (R393). -/
def Unreadable (s : State) (a n : Nat) : Prop := ∃ h ∈ s.hostHoles, a < h.2 ∧ h.1 < a + n

/-- No slot, core, tile, node or byte of memory changes, and the pod does not (R393). -/
structure OnlyMail (s t : State) : Prop where
  memory : SameMemory s t
  agents : OnlyAt s t [] [] [] []
  pod : t.pod = s.pod

/-- Local stores and B-SRAM of the nodes of an allotment, but the B-SRAM of tiles with two retired buses, read 0, and the local
stores FULL; every other byte is as it was (R154, R279). -/
structure Cleared (s t : State) (c : Ctx) : Prop where
  zero : ∀ a, holds s c a = true → Memory.byte t.mem a = 0#8
  full : ∀ w, holds s c (8 * w) = true → t.wordState (8 * w) = 1#2
  other : ∀ a, holds s c a = false → Memory.byte t.mem a = Memory.byte s.mem a

/-- Context `n` has ended (R80, R119, R154, R251, R260, R311, R393): its slots are FREE, its launches and requests gone but what
another module is still to be told, its nodes' memory cleared. -/
structure Ended (s : State) (n : Nat) (c : Ctx) (t : State) : Prop where
  gone : t.context n = none ∧ ∀ k, k ≠ n → t.context k = s.context k
  memory : Cleared s t c
  slots : ∀ i, (s.slot i).ctx = n → (s.slot i).st ≠ .disabled → (t.slot i).st = .free
  launches : (∀ k, k / 2 ^ 32 = n → t.launch? k = none) ∧ ∀ k, k / 2 ^ 32 ≠ n → t.launch? k = s.launch? k
  requests : ∀ r ∈ t.reqs, r.ctx = n → ∃ pos rid g b, r.own = .remote pos rid g b
  harts : ∀ e ∈ t.nodes, ∀ h ∈ e.2.harts, h.2.cmd.ctx ≠ n
  commands : ∀ k, ∀ d ∈ (t.core k).q0 ++ (t.core k).q1 ++ (t.core k).q2, d.ctx ≠ n

/-- What bring-up leaves of a port with result `x` (R357): disabled without laser or lock, or with two of its nine wavelengths
failing. -/
def PortUp (x : PortTest) (p : Port) : Prop :=
  let failing := ((List.finRange 8).filter (fun i => !x.data.get i)).length + if x.spare then 0 else 1
  p = { Port.reset with test := some x, disabled := p.disabled }
    ∧ (p.disabled = true ↔ x.laser = false ∨ x.lock = false ∨ 2 ≤ failing)

/-- This module stands at position `d` and meets `e` on port `p` in slot `n` (R337, R348): `e` is a member, not this module,
not declared lost; the slot is not over. -/
structure Meets (s : State) (d e p n : Nat) : Prop where
  pos : s.pod.pos = some d
  partner : e = d ^^^ (16 * p + (n + p) % 16)
  other : e ≠ d
  member : ∃ j, Tab.look s.pod.joins e = some j
  live : e ∉ s.pod.lost
  slot : s.pod.slot ≤ n

/-- The record of a port. -/
def portAt (s : State) (p : Nat) : Port := Tab.get Port.reset s.pod.ports p

/-- The pair with `e` meets directly on port `p`: the port is enabled and up for it, and it has a key (R355 to R357). -/
def DirectPair (s : State) (e p : Nat) : Prop :=
  (portAt s p).disabled = false ∧ e ∉ (portAt s p).down ∧ Tab.look s.pod.keys (2 * e) ≠ none

/-- Nothing changes but the pod's view and the number of the next request. -/
structure OnlyPod (s t : State) : Prop where
  memory : SameMemory s t
  agents : OnlyAt s t [] [] [] []
  ctxs : t.ctxs = s.ctxs
  launches : t.launches = s.launches
  mbox : t.mbox = s.mbox

/-- Links other than those of port `p` are as they were. -/
def OtherPorts (s t : State) (p : Nat) : Prop := ∀ q, q ≠ p → portAt t q = portAt s q

/-- The info string of the key state that sends from `d` to `e` (R355): KZLINK1, d, e, p and r. -/
def linkInfo (d e p r : Nat) : List (BitVec 8) :=
  ([0x4B, 0x5A, 0x4C, 0x49, 0x4E, 0x4B, 0x31, d, d / 256, e, e / 256, p, r, r / 2 ^ 8, r / 2 ^ 16, r / 2 ^ 24]).map (BitVec.ofNat 8)

/-- A field of a trailer (R354). -/
def trailerField (t : Vec) (hi lo : Nat) : Nat := t.toNat / 2 ^ lo % 2 ^ (hi - lo + 1)

/-- Key, salt and opening of a frame from position `e` at `d` on rotor `p`, under key state `k` at rotation `r` (R354, R355). -/
def opened (k : Key) (d e p r : Nat) (tr : Vec) (pl : List Vec) : BitVec 128 × List Vec :=
  let m := Config.hkdf k.secret (linkInfo e d p r)
  Config.gcm (m.extractLsb' 32 256) (m.extractLsb' 0 32 ++ BitVec.ofNat 64 (trailerField tr 255 192)) (tr.extractLsb' 128 128) pl

/-- A frame from position `e` to `d` on rotor `p` is accepted under key state `k` at rotation `r` (R354, R355). -/
structure FrameGood (k : Key) (d e p r : Nat) (tr : Vec) (pl : List Vec) : Prop where
  sender : trailerField tr 191 182 = e
  receiver : trailerField tr 181 172 = d
  rotor : trailerField tr 171 166 = p
  flits : trailerField tr 163 160 + 1 = pl.length
  index : k.rot ≤ r ∧ r < k.rot + 4 ∧ r % 4 = trailerField tr 165 164
  newer : ∀ c, k.last = some c → r = k.rot → c < trailerField tr 255 192
  tag : (opened k d e p r tr pl).1 = tr.extractLsb' 0 128

/-- The frame `w` carries the flits `f` from position `d` to `e` on rotor `p`, sealed under key state `k` with the counter value
`c` of its first flit (R353, R354). -/
structure SealedWith (k : Key) (d e p c : Nat) (f : List Vec) (w : Frame) : Prop where
  count : 1 ≤ f.length ∧ f.length ≤ 16
  ctr : trailerField w.trailer 255 192 = c
  sender : trailerField w.trailer 191 182 = d
  receiver : trailerField w.trailer 181 172 = e
  rotor : trailerField w.trailer 171 166 = p
  index : trailerField w.trailer 165 164 = k.rot % 4
  flits : trailerField w.trailer 163 160 = f.length - 1
  zero : trailerField w.trailer 159 128 = 0
  sealed_ : let m := Config.hkdf k.secret (linkInfo d e p k.rot)
    let g := Config.gcmSeal (m.extractLsb' 32 256) (m.extractLsb' 0 32 ++ BitVec.ofNat 64 c) (w.trailer.extractLsb' 128 128) f
    w.trailer.extractLsb' 0 128 = g.1 ∧ w.payload = g.2

/-- The frames carry the lists of flits in order, with counter values from `c` on, none used twice (R353). -/
def SealedRun (k : Key) (d e p : Nat) : Nat → List (List Vec) → List Frame → Prop
  | _, [], [] => True
  | c, f :: fs, w :: ws => SealedWith k d e p c f w ∧ SealedRun k d e p (c + f.length) fs ws
  | _, _, _ => False

/-- Positions `a` and `b` meet first in slot `u`, from slot `t` on (R337). -/
def FirstMeeting (a b t u : Nat) : Prop :=
  t ≤ u ∧ u < t + 16 ∧ u % 16 = ((a ^^^ b) % 16 + 16 - (a ^^^ b) / 16 % 16) % 16

/-- Port `q` of position `d` may send to the partner `f` that it meets (R356). -/
def CanSend (s : State) (f q : Nat) : Prop :=
  DirectPair s f q ∧ ∀ k, Tab.look s.pod.keys (2 * f) = some k → k.exhausted = none

/-- The record of R344 shows that a SEQ has been accepted. -/
def Recorded (w : RxWin) (q : BitVec 32) : Prop :=
  ∃ h, w.high = some h ∧ (h - q).toNat < 4096 ∧ w.seen.getLsbD (h - q).toNat = true

/-- A SEQ is newer than H mod 2^32 (R344). -/
def Newer (q h : BitVec 32) : Prop := 1 ≤ (q - h).toNat ∧ (q - h).toNat ≤ 2 ^ 31 - 1

/-- R344 accepts a SEQ. -/
def Acceptable (w : RxWin) (q : BitVec 32) : Prop :=
  ∀ h, w.high = some h → Newer q h ∨ ((h - q).toNat < 4096 ∧ ¬ Recorded w q)

/-- What this module has recorded of a source. -/
def windowOf (s : State) (src : BitVec 10) : RxWin := Tab.get { high := none, seen := 0#4096 } s.pod.rx src.toNat

/-- A packet's source admits it here (R343, R350): a member, not lost, of the current epoch. -/
structure FromMember (s : State) (h : PodHeader) : Prop where
  live : h.src.toNat ∉ s.pod.lost
  member : ∃ j, Tab.look s.pod.joins h.src.toNat = some j ∧ j.epoch = h.epoch

/-- The packet's header CRC is right (R342): CRC-16 over the bytes of bits [127:16], the highest first. -/
def CrcRight (h : PodHeader) : Prop :=
  let top : BitVec 128 := h.src ++ h.dst ++ h.epoch ++ h.pctx ++ h.vc ++ h.cls ++ h.seq ++ h.len ++ h.rsv ++ 0#16
  h.hcrc = crc16 ((List.range 14).map (fun i => top.extractLsb' (8 * (15 - i)) 8))

/-- A whole packet stands among the accepted flits of port `p` and no lower one; `u` is the state without its flits (R343). -/
structure TakenAt (s : State) (h : PodHeader) (b : PodBody) (p : Nat) (u : State) : Prop where
  port : p < 64
  here : ∃ before after, (portAt s p).rx = before ++ (flitsOf h b).map some ++ after
    ∧ (∀ x y, (portAt s p).rx = x ++ (flitsOf h b).map some ++ y → before.length ≤ x.length)
    ∧ u = { s with pod := { s.pod with ports := Tab.put s.pod.ports p { portAt s p with rx := before ++ after } } }
  lower : ∀ q < p, ∀ x y, (portAt s q).rx ≠ x ++ (flitsOf h b).map some ++ y

/-- No port has the packet whole. -/
def NotArrived (s : State) (h : PodHeader) (b : PodBody) : Prop :=
  ∀ q < 64, ∀ x y, (portAt s q).rx ≠ x ++ (flitsOf h b).map some ++ y

/-- A packet is dropped and counted at the link of port `p` (R344, R345). -/
def CountedAt (u t : State) (p : Nat) : Prop :=
  t = { u with pod := { u.pod with ports := Tab.put u.pod.ports p { portAt u p with errs := (portAt u p).errs + 1 } } }

/-- A packet of virtual channel 3 to a member waits at the ports (R342). -/
def Sends (t : State) (to_ : Nat) (b : PodBody) : Prop :=
  ∃ o ∈ t.pod.out, o.hdr.dst = BitVec.ofNat 10 to_ ∧ o.body = b ∧ o.hdr.vc = 3#2 ∧ CrcRight o.hdr

/-- The packet is accepted and receipted, unless it is a receipt, and its SEQ recorded (R344). -/
structure AcceptedIn (s t : State) (h : PodHeader) (b : PodBody) : Prop where
  receipt : (∀ q, b ≠ .receipt q) → Sends t h.src.toNat (.receipt h.seq)
  quiet : ∀ q, b = .receipt q → t.pod.out = s.pod.out
  kept : ∀ o ∈ s.pod.out, o ∈ t.pod.out
  record : ∃ m, (windowOf t h.src).high = some m ∧ ∀ q, Recorded (windowOf t h.src) q ↔
    q = h.seq ∨ (Recorded (windowOf s h.src) q ∧ (m - q).toNat < 4096)
  highest : ∀ m, (windowOf s h.src).high = some m → (windowOf t h.src).high = some (if (m - h.seq).toNat < 4096 then m else h.seq)
  others : ∀ k, k ≠ h.src.toNat → Tab.look t.pod.rx k = Tab.look s.pod.rx k

/-- The packet of a request has not been put on a live link (R349). -/
def Unsent (s : State) (r : Req) : Prop := r.stage = .outbound ∨ ∃ o ∈ s.pod.out, o.req = some r.id

/-- A request of this module toward `e` that has not yet had its reply. -/
def Outstanding (s : State) (e : Nat) (r : Req) : Prop := r ∈ s.reqs ∧ r.tgt = .remote e ∧ r.stage.isReplied = false

/-- The fault of a request: cause, FINFO with its reason (R162, R352). -/
def FaultOf (r : Req) (c : BitVec 8) (reason : Nat) (f : FaultInfo) : Prop := f.cause = c ∧ f.finfo = r.info ||| wd reason

/-- The operation is a load: plain, LDV, WSTATE, or a transfer hart's read (R346, R349). -/
def Reads (op : MemOp) : Prop := (∃ n y, op = .load n y) ∨ (∃ n, op = .peek n) ∨ op = .loadV ∨ op = .wstate
/-- The operation is an atomic. -/
def Atomic (op : MemOp) : Prop := ∃ k a b c, op = .amo k a b c
/-- The operation is a landing. -/
def Lands (op : MemOp) : Prop := ∃ v c b, op = .landing v c b

/-- The causes of R349 for an access without item: PEERLOST for reads, unsent atomics and a slot's other writes, INDET for sent
atomics and a transfer hart's other writes. -/
def LossEnds (s : State) (r : Req) (c : BitVec 8) : Prop :=
  (Reads r.op → c = 0x0E#8) ∧ (Atomic r.op → Unsent s r → c = 0x0E#8) ∧ (Atomic r.op → ¬ Unsent s r → c = 0x0F#8)
  ∧ (¬ Reads r.op → ¬ Atomic r.op → (∀ n h, r.own ≠ .hart n h) → c = 0x0E#8)
  ∧ (¬ Reads r.op → ¬ Atomic r.op → (∃ n h, r.own = .hart n h) → c = 0x0F#8)

/-- The codes of R349 for an item. -/
def LossFails (s : State) (r : Req) (c : BitVec 8) : Prop :=
  (Lands r.op → c = 5#8) ∧ (Atomic r.op → ¬ Unsent s r → c = 0x8F#8) ∧ (Atomic r.op → Unsent s r → c = 0x8E#8)
  ∧ (¬ Lands r.op → ¬ Atomic r.op → c = 0x8E#8)

/-- The table of R349 for member `e`. -/
structure LossTable (s t : State) (e : Nat) : Prop where
  accesses : ∀ r, Outstanding s e r → r.item = none →
    ∃ q ∈ t.reqs, q.id = r.id ∧ ∃ f, q.stage = .replied 0#256 (some f) ∧ FaultOf r f.cause 1 f ∧ LossEnds s r f.cause
  items : ∀ r g, Outstanding s e r → r.item = some g → ∀ q ∈ t.reqs, q.id ≠ r.id
  codes : ∀ r sl g n i, Outstanding s e r → r.own = .slot sl (s.slot sl).th → (s.slot sl).ending = none → r.item = some (g, n) →
    (∀ q ∈ s.reqs, q.ofSlot sl = true → q.item = some (g, n) → q = r) → i ∈ (s.slot sl).items → i.tag = g → i.seq = n →
    i.code = 0#8 → ∃ j ∈ (t.slot sl).items, j.tag = g ∧ j.seq = n ∧ LossFails s r j.code
  known : ∀ sl, ∀ i ∈ (t.slot sl).items, i.peer = some (.module e) → i.known = true ∧ i.left = 0
  asked : ∀ sl, ∀ a ∈ (t.slot sl).asked, a.peer ≠ .module e
  slots : ∀ sl, ∃ i a c, t.slot sl = { s.slot sl with items := i, asked := a, accs := c }
  out : (∀ o ∈ s.pod.out, o.hdr.dst.toNat ≠ e → o ∈ t.pod.out)
    ∧ ((∀ o ∈ s.pod.relay, o.hdr.dst.toNat = e → o.hdr.src.toNat ≠ e) → ∀ o ∈ t.pod.out, o.hdr.dst.toNat ≠ e)
  relay : t.pod.relay = s.pod.relay.filter (fun o => decide (o.hdr.dst.toNat ≠ e))
  told : ∀ o ∈ s.pod.relay, o.hdr.dst.toNat = e → o.hdr.src.toNat ≠ e → o.hdr.src.toNat ∉ s.pod.lost →
    Sends t o.hdr.src.toNat (.dropRefusal e o.hdr.seq)
  memory : SameMemory s t
  tiles : ∀ k, t.tile k = s.tile k
  nodes : ∀ k, t.node k = s.node k
  joins : t.pod.joins = s.pod.joins

/-- The declaration step of member `e` (R348 to R350). -/
structure Declared (s t : State) (e : Nat) : Prop where
  table : LossTable s t e
  lost : ∀ m, m ∈ t.pod.lost ↔ m = e ∨ m ∈ s.pod.lost
  waiting : ∀ r ∈ t.reqs, ∀ rid g b c, r.own = .remote e rid g b → r.stage ≠ .waiting c
  notices : ∀ m j, m ≠ e → m < 1024 → s.pod.pos ≠ some m → Tab.look s.pod.joins m = some j → m ∉ s.pod.lost → Sends t m (.lossNotice e)
  forgotten : (∀ i ∈ t.pod.items, i.pos ≠ e) ∧ (∀ a ∈ t.pod.asks, a.pos ≠ e) ∧ (∀ u ∈ t.pod.unreceipted, u.dst ≠ e)
    ∧ ∀ h ∈ t.hints, ∀ rid g b, h.own ≠ .remote e rid g b
  fails : Tab.get 0 t.pod.fails e = 0

/-- A member other than this module that is not declared lost. -/
def CanLose (s : State) (e : Nat) : Prop := (∃ j, Tab.look s.pod.joins e = some j) ∧ s.pod.pos ≠ some e ∧ e ∉ s.pod.lost

/-- Requests have numbers of their own. -/
def Numbered (s : State) : Prop := s.reqs.Pairwise (fun a b => a.id ≠ b.id)

end Sys2Proof.Claims

open Sys2Proof Sys2Proof.Machine Sys2Proof.Safety Sys2Proof.Claims

/-- R127 to R129, and the shifts of R134: every additive, multiplicative and logical form, division (by zero and in the one signed overflow
included), shift and rotation that issues writes its result and changes nothing else. -/
def Obligations.IntegerArithmeticResults : Prop :=
  ∀ (s : State) (i : Instr) (d : Reg) (v : Word),
    additive (s.slot s.cur) i = some (d, v)
      ∨ division (s.slot s.cur) i = some (d, v)
      ∨ shift (s.slot s.cur) i = some (d, v) →
    Issues s i → WritesG s i d v

/-- R130 to R132, R135: compares, minima, maxima, SEL, bit counts and extensions. -/
def Obligations.CompareAndBitResults : Prop :=
  ∀ (s : State) (i : Instr) (d : Reg) (v : Word),
    relation (s.slot s.cur) i = some (d, v)
      ∨ bitForm (s.slot s.cur) i = some (d, v) →
    Issues s i → WritesG s i d v

/-- R133, R136, R138, R140: the immediate majors, pointer arithmetic, and building and taking apart a pointer. -/
def Obligations.ImmediateAndPointerResults : Prop :=
  ∀ (s : State) (i : Instr) (d : Reg) (v : Word),
    immediate (s.slot s.cur) i = some (d, v)
      ∨ pointer (s.slot s.cur) i = some (d, v) →
    Issues s i → WritesG s i d v

/-- R139, R47, R48, R50: IDXP moves the address by G[b] units of the format, and traps FMT where R48 rejects it. -/
def Obligations.IndexedPointer : Prop :=
  ∀ (s : State) (d a b : Reg), Issues s (.idxp d a b) →
    let p := ((s.slot s.cur).rg a).toNat
    match unitOf (p / 2 ^ 56) (p / 2 ^ 52 % 16) with
    | some u => WritesG s (.idxp d a b) d
        (wi (p / 2 ^ 52 * 2 ^ 52 + (p % 2 ^ 52 + ((s.slot s.cur).rg b).toInt * u) % 2 ^ 52))
    | none => Handles s → ∃ t : State, exec (.idxp d a b) s = .next t ∧
        TrapsTo s t 0x04#8 ((s.slot s.cur).rg a)
          (wd (formatReason (p / 2 ^ 56) * 2 ^ 12 + p / 2 ^ 52 % 16 * 2 ^ 8 + p / 2 ^ 56)) (s.slot s.cur).pc

/-- R39, R142 to R146: every FLT word that issues writes its exact result, rounded once, in the result's width, with the special
values of the tables. -/
def Obligations.ScalarFloatResults : Prop :=
  ∀ (s : State) (i : Instr) (d : Reg), floatDest i = some d → Issues s i →
    ∃ v, WritesG s i d v ∧ v = floatExact (s.slot s.cur) i ∧ floatFact (s.slot s.cur) v i

/-- R147, R148: a branch whose relation holds, and J, go to their target inside the kernel; a branch whose relation does
not hold goes on, its target unchecked; a target outside the kernel traps FETCH with reason 2. -/
def Obligations.BranchesAndJumps : Prop :=
  ∀ (s : State) (i : Instr) (p : Bool) (o : Int), branchOf (s.slot s.cur) i = some (p, o) → Issues s i →
    let t : Int := (s.slot s.cur).pc + 4 + 4 * o
    (p = false → GoesTo s i ((s.slot s.cur).pc + 4))
    ∧ (p = true → 0 ≤ t → t < 4 * (s.slot s.cur).n → GoesTo s i t.toNat)
    ∧ (p = true → t < 0 ∨ 4 * (s.slot s.cur).n ≤ t → Handles s →
        ∃ u, exec i s = .next u ∧ TrapsTo s u 0x02#8 (wi t) 2#64 (s.slot s.cur).pc)

/-- R148, R149: JAL links g31 and goes to its target, or traps FETCH and writes no link; JR and JALR go to the offset in
G[a], read before the link is written; a misaligned offset traps FETCH with reason 1, one at or past the end with reason 2. -/
def Obligations.LinkingAndRegisterJumps : Prop :=
  (∀ (s : State) (o : BitVec 26), Issues s (.jal o) →
    let t : Int := (s.slot s.cur).pc + 4 + 4 * o.toInt
    (0 ≤ t → t < 4 * (s.slot s.cur).n →
      ∃ u, exec (.jal o) s = .next u ∧ RegStep s u [31] t.toNat ∧ (u.slot s.cur).rg 31#5 = wd ((s.slot s.cur).pc + 4))
    ∧ (t < 0 ∨ 4 * (s.slot s.cur).n ≤ t → Handles s →
      ∃ u, exec (.jal o) s = .next u ∧ TrapsTo s u 0x02#8 (wi t) 2#64 (s.slot s.cur).pc))
  ∧ (∀ (s : State) (a d : Reg),
    let x := s.slot s.cur
    let t := (x.rg a).toNat
    (Issues s (.jr a) → t % 4 = 0 → t < 4 * x.n → GoesTo s (.jr a) t)
    ∧ (Issues s (.jalr d a) → t % 4 = 0 → t < 4 * x.n →
        ∃ u, exec (.jalr d a) s = .next u ∧ RegStep s u [gcode d] t ∧ (u.slot s.cur).rg d = wd (x.pc + 4))
    ∧ (∀ i, i = .jr a ∨ i = .jalr d a → Issues s i → Handles s →
        (t % 4 ≠ 0 → ∃ u, exec i s = .next u ∧ TrapsTo s u 0x02#8 (x.rg a) 1#64 x.pc)
        ∧ (t % 4 = 0 → 4 * x.n ≤ t → ∃ u, exec i s = .next u ∧ TrapsTo s u 0x02#8 (x.rg a) 2#64 x.pc)))

/-- R158 to R160, R168, R172, R185, R231: an access word that issues, whose address passes the checks of R181 at the place
`p` and is aligned, posts its request, and its access records how its reply fills the destination: sign-extended for LDB, LDH and
LDW, zero-extended for the other scalar forms and the atomics, all 256 bits for LDV; no byte of memory changes before the request
is performed. That JOIN is checked for reading and writing is the model's choice (log entry 112): R180 does not list it. -/
def Obligations.AccessWordsPost : Prop :=
  ∀ (s : State) (i : Instr) (w : Wants) (p : Place),
    access (s.slot s.cur) i = some w → Issues s i → (w.item = true → Room (s.slot s.cur) (tagNow (s.slot s.cur))) →
    checkAddr s (s.slot s.cur).ctx w.need w.ea = .ok p → w.ea % w.size = 0 →
    (∀ k, w.amo = some k → ¬ Lacks s p k) → ¬ Lost s p →
    ∃ t : State, exec i s = .next t ∧ Posts s t w p

/-- R159, R161, R162, R172, R181, R350: the issue faults of the same words, in their order: ACCESS with the reason of the
address checks, ALIGN, ATOMUNS, PEERLOST with reason 3; EPC is the word's own offset. That JOIN is checked for reading and writing is
the model's choice (log entry 112). -/
def Obligations.AccessWordsTrap : Prop :=
  ∀ (s : State) (i : Instr) (w : Wants),
    access (s.slot s.cur) i = some w → Issues s i → Handles s →
    (w.item = true → ((s.slot s.cur).tagItems (tagNow (s.slot s.cur))).length < 64) →
    let trap := fun (c : BitVec 8) (reason : Nat) =>
      ∃ t : State, exec i s = .next t ∧ TrapsTo s t c (wd w.ea) (w.info ||| wd reason) (s.slot s.cur).pc
    (∀ r, checkAddr s (s.slot s.cur).ctx w.need w.ea = .error r → trap 0x03#8 r)
    ∧ (∀ p, checkAddr s (s.slot s.cur).ctx w.need w.ea = .ok p → w.ea % w.size ≠ 0 → trap 0x05#8 1)
    ∧ (∀ p k, checkAddr s (s.slot s.cur).ctx w.need w.ea = .ok p → w.ea % w.size = 0 → w.amo = some k → Lacks s p k →
        trap 0x0D#8 1)
    ∧ (∀ p, checkAddr s (s.slot s.cur).ctx w.need w.ea = .ok p → w.ea % w.size = 0 → (∀ k, w.amo = some k → ¬ Lacks s p k) →
        Lost s p → trap 0x0E#8 3)

/-- R187, R190, R192: the word that would be the 65th item of its tag, a relaxed store or atomic, a relaxed STBP or a SENDR, where
all 64 are known and one failed, closes the tag and traps LANDREF with reason 3 at its own offset; a close with a failure whose trap BTRAP enables has its effect and then
traps LANDREF with reason 1 at the next word, or, with the deferred-fault record occupied, only raises that record. That the
65th item's LANDREF comes before the word's own ACCESS and ALIGN checks is the model's choice (log entry 30, DEDUCED): R187 gives
no order. -/
def Obligations.BatchTagTraps : Prop :=
  (∀ (s : State) (i : Instr) (k : Nat), Issues s i → Handles s →
    let x := s.slot s.cur
    ((∃ w, access x i = some w ∧ w.item = true) ∧ k = tagNow x
      ∨ (∃ d a l o, i = .stbp d a l 1#1 o) ∧ efmt s < 9 ∧ k = tagNow x
      ∨ ∃ a b rl, sendForm x i = some (a, b, rl, k)) →
    64 ≤ (x.tagItems k).length → x.failMap k ≠ 0#64 →
    ∃ t : State, exec i s = .next t ∧ (t.slot s.cur).fcause = (1#64 <<< 63) ||| 0x08#64 ∧ (t.slot s.cur).faddr = x.failMap k
      ∧ (t.slot s.cur).finfo.toNat % 2 ^ 8 = 3 ∧ (t.slot s.cur).finfo.toNat / 2 ^ 40 % 4 = k
      ∧ (t.slot s.cur).epc = wd (x.pc % 2 ^ 15) ∧ (t.slot s.cur).pc = x.tvec.toNat
      ∧ (t.slot s.cur).tagItems k = [] ∧ (∀ j, j ≠ k → (t.slot s.cur).tagItems j = x.tagItems j)
      ∧ t.reqs = s.reqs ∧ (∀ a, Memory.byte t.mem a = Memory.byte s.mem a))
  ∧ (∀ (s : State) (i : Instr) (d : Reg) (k : BitVec 2), i = .bclose d k ∨ i = .btest d k → Issues s i → Handles s →
    let x := s.slot s.cur
    (∀ j ∈ x.tagItems k.toNat, j.known = true) →
    (∀ f, x.dfr = none → x.failMap k.toNat ≠ 0#64 → x.btrap.getLsbD k.toNat = true → x.lowFail k.toNat = some f →
      ∃ t : State, exec i s = .next t ∧ (t.slot s.cur).fcause = (1#64 <<< 63) ||| 0x08#64 ∧ (t.slot s.cur).faddr = x.failMap k.toNat
        ∧ (t.slot s.cur).finfo = landrefInfo x f k.toNat 1 ∧ (t.slot s.cur).epc = wd ((x.pc + 4) % 2 ^ 15)
        ∧ (t.slot s.cur).pc = x.tvec.toNat ∧ (t.slot s.cur).rg d = x.failMap k.toNat
        ∧ Closes x (t.slot s.cur) k.toNat ∧ SameElse s t s.cur)
    ∧ (∀ f, x.dfr = some f → ∃ t : State, exec i s = .next t ∧ (t.slot s.cur).items = x.items ∧
        TrapsTo (onSlot (fun y => { y with dfr := none }) s) t f.cause f.faddr (f.finfo ||| (1#64 <<< 63)) x.pc))

/-- R33, R163, R181, R279: the address checks at the issuer, in their order: those of class, space, die and code banks for every
module; allotment, windows, retired buses and units for this module's addresses, the units alone for another's. -/
def Obligations.AddressChecks : Prop :=
  ∀ (s : State) (ctx : Nat) (c : Ctx) (n : Need) (ea : Nat), s.context ctx = some c → ea < 2 ^ 52 →
    let vdn := ea / 2 ^ 42
    let m := ea % 2 ^ 42
    let entry := Tab.get 0#64 c.podTab vdn
    let known := vdn = 0x3FF ∨ entry.getLsbD 63 = true
    let here := vdn = 0x3FF ∨ entry.getLsbD 63 = true ∧ s.pod.pos = some (entry.toNat % 2 ^ 10)
    let cls := m / 2 ^ 40
    let space := m / 2 ^ 38 % 4
    let onChip := cls = 2 ∧ space ≠ 1 ∧ m / 2 ^ 35 % 8 = 0 ∧ m / 2 ^ 31 % 16 ≤ 9
      ∧ (space = 3 → n.hart = true ∧ m / 2 ^ 19 % 4 = 0)
    let buses := (s.tile (m / 2 ^ 17 % 2 ^ 18)).rbus
    (vdn ≠ 0x3FF → entry.getLsbD 63 = false → checkAddr s ctx n ea = .error 8)
    ∧ (known →
        (cls = 1 → checkAddr s ctx n ea = .error 1)
        ∧ (cls = 3 → checkAddr s ctx n ea = .error 2)
        ∧ (cls = 2 → space = 1 → checkAddr s ctx n ea = .error 1)
        ∧ (cls = 2 → space ≠ 1 → m / 2 ^ 35 % 8 ≠ 0 ∨ 9 < m / 2 ^ 31 % 16 → checkAddr s ctx n ea = .error 3)
        ∧ (cls = 2 → space = 3 → m / 2 ^ 35 % 8 = 0 → m / 2 ^ 31 % 16 ≤ 9 → n.hart = false ∨ m / 2 ^ 19 % 4 ≠ 0 →
            checkAddr s ctx n ea = .error 4))
    ∧ (known → ¬ here → cls = 0 ∨ onChip →
        let unit := n.sync = true ∧ ¬ (cls = 2 ∧ space = 0) ∨ n.a = true ∧ cls = 2 ∧ space ≠ 0
        (unit → checkAddr s ctx n ea = .error 10) ∧ (¬ unit → checkAddr s ctx n ea = .ok (.remote (entry.toNat % 2 ^ 10))))
    ∧ (here →
        (onChip → c.allots (m / 2 ^ 21 % 2 ^ 14) = false → checkAddr s ctx n ea = .error 5)
        ∧ (onChip → c.allots (m / 2 ^ 21 % 2 ^ 14) = true →
            (space = 0 → checkAddr s ctx n ea = .ok (.mem m))
            ∧ (space ≠ 0 → n.sync = true ∨ n.a = true → checkAddr s ctx n ea = .error 10)
            ∧ (space ≠ 0 → n.sync = false → n.a = false →
                let beyond := space = 2 ∧ (2 ≤ buses ∨ buses = 1 ∧ 65536 ≤ m % 2 ^ 17)
                (beyond → checkAddr s ctx n ea = .error 11) ∧ (¬ beyond → checkAddr s ctx n ea = .ok (.mem m))))
        ∧ (cls = 0 → (∀ w ∈ c.windows, winCovers (m % 2 ^ 40) w = false) → checkAddr s ctx n ea = .error 6)
        ∧ (∀ w, cls = 0 → c.windows.find? (winCovers (m % 2 ^ 40)) = some w →
            (n.r = true ∧ w.getLsbD 0 = false ∨ n.w = true ∧ w.getLsbD 1 = false ∨ n.a = true ∧ w.getLsbD 2 = false →
              checkAddr s ctx n ea = .error 7)
            ∧ ((n.r = true → w.getLsbD 0 = true) → (n.w = true → w.getLsbD 1 = true) → (n.a = true → w.getLsbD 2 = true) →
                checkAddr s ctx n ea = if n.sync then .error 10
                  else .ok (.mem (winPbase w * 65536 + m % 2 ^ 40 - winVbase w * 65536)))))

/-- R230, R232, R233, R235: LDBP that issues with its checks passed posts one read for each distinct word, in order. -/
def Obligations.BlockLoads : Prop :=
  ∀ (s : State) (d a : Reg) (l : BitVec 4) (r : BitVec 1) (o : BitVec 9) (ps : List Place),
    let b := blockAt (s.slot s.cur) a o
    Issues s (.ldbp d a l r o) → b.legal → ¬ b.narrow →
    Admitted s { r := true, w := false, a := false, sync := false, hart := false } b.words ps →
    ∃ t rs, exec (.ldbp d a l r o) s = .next t
      ∧ Opens s t (.v (d.setWidth 4)) (some l.toNat) (decide (r = 1#1)) false
          (some (.planes (BitVec.ofNat 8 b.f) b.l b.c b.e b.base)) b.words.length
      ∧ (t.slot s.cur).items = (s.slot s.cur).items
      ∧ t.reqs = s.reqs ++ rs ∧ Requests s (decide (r = 1#1)) none (fun _ => .load 8 0#2) 0 b.words ps rs

/-- R230, R232, R234, R235: STBP posts one narrow store for each plane stored, in plane order; relaxed, all of them are one
batch item. -/
def Obligations.BlockStores : Prop :=
  ∀ (s : State) (d a : Reg) (l : BitVec 4) (r : BitVec 1) (o : BitVec 9) (ps : List Place),
    let x := s.slot s.cur
    let b := blockAt x a o
    let k := tagNow x
    Issues s (.stbp d a l r o) → (r = 1#1 → Room x k) → b.legal →
    Admitted s { r := false, w := true, a := false, sync := false, hart := false } b.pieces ps →
    ∃ t rs, exec (.stbp d a l r o) s = .next t
      ∧ Opens s t .none (if r = 1#1 then none else some l.toNat) (decide (r = 1#1)) false none b.stored
      ∧ t.reqs = s.reqs ++ rs
      ∧ Requests s (decide (r = 1#1)) (if r = 1#1 then some (k, itemNo x k) else none)
          (fun p => .store (chunkOfCode b.e / 8) 0#2 (b.planeBits (x.rv (d.setWidth 4)) p)) 0 b.pieces ps rs
      ∧ (r = 0#1 → (t.slot s.cur).items = x.items)
      ∧ (r = 1#1 → ∃ i : Item, (t.slot s.cur).items = openItems x k ++ [i] ∧ i.tag = k ∧ i.seq = itemNo x k ∧ i.left = b.stored)

/-- R50, R162, R232: the checks of LDBP and STBP in their order, with R162's words for the last two. That FADDR of the ACCESS trap is
the address of the first word, or piece, that fails is the model's choice (log entry 106): R162 has one address for an access. -/
def Obligations.BlockTraps : Prop :=
  ∀ (s : State) (i : Instr) (d a : Reg) (l : BitVec 4) (r : BitVec 1) (o : BitVec 9) (load : Bool),
    i = (if load then .ldbp d a l r o else .stbp d a l r o) → Issues s i → Handles s →
    (load = false → r = 1#1 → ((s.slot s.cur).tagItems (tagNow (s.slot s.cur))).length < 64) →
    let x := s.slot s.cur
    let b := blockAt x a o
    let need : Need := { r := load, w := !load, a := false, sync := false, hart := false }
    let trap := fun (c : BitVec 8) (f i' : Word) => ∃ t : State, exec i s = .next t ∧ TrapsTo s t c f i' x.pc
    let fmt := fun (n : Nat) => trap 0x04#8 (x.rg a) (wd (n * 2 ^ 12 + b.l * 2 ^ 8 + b.f))
    let acc := fun (c : BitVec 8) (n ea : Nat) => trap c (wd ea) (accInfo x 0 3 0 (if load then 0x29 else 0x2A) ||| wd n)
    (9 ≤ b.e → trap 0x04#8 0#64 (wd (5 * 2 ^ 12 + b.e)))
    ∧ (b.e < 9 →
        (unitOf b.f b.l = none → fmt (formatReason b.f))
        ∧ (unitOf b.f b.l ≠ none → b.f < 0x80 → fmt 7)
        ∧ (unitOf b.f b.l ≠ none → 0x80 ≤ b.f →
            (load = true → b.narrow → trap 0x04#8 0#64 (wd (6 * 2 ^ 12 + b.depth * 2 ^ 8 + b.e)))
            ∧ ((load = true → ¬ b.narrow) →
                let ws := if load then b.words else b.pieces
                (∀ p q ea why, ws = p ++ ea :: q → (∀ w ∈ p, ∃ pl, checkAddr s x.ctx need w = .ok pl) →
                    checkAddr s x.ctx need ea = .error why → acc 0x03#8 why ea)
                ∧ ((∀ w ∈ ws, ∃ pl, checkAddr s x.ctx need w = .ok pl) → b.base % 8 ≠ 0 → acc 0x05#8 1 b.base))))

/-- R189: a fence whose wait is over goes on: FENCE.CORE, .NODE and .DEV change nothing; FENCE.POD closes every tag. R189,
R380: a fence raises the deferred-fault record as its own trap, DEFER set, and clears the record; FENCE.POD traps LANDREF
with reason 2 at the next word for the lowest failing tag that BTRAP enables. -/
def Obligations.FencesCompleteAndReport : Prop :=
  (∀ (s : State) (i : Instr) (k : Nat), fenceScope i = some k → Issues s i →
    (s.slot s.cur).dfr = none ∨ (s.slot s.cur).inh = true →
    (k ≠ 3 → GoesTo s i ((s.slot s.cur).pc + 4))
    ∧ (k = 3 → (∀ j < 4, (s.slot s.cur).failMap j = 0#64 ∨ (s.slot s.cur).btrap.getLsbD j = false) →
        ∃ t : State, exec i s = .next t ∧ SameRegs (s.slot s.cur) (t.slot s.cur) []
          ∧ Retired (s.slot s.cur) (t.slot s.cur) ((s.slot s.cur).pc + 4) ∧ SameElse s t s.cur
          ∧ ClosedOnly (s.slot s.cur) (t.slot s.cur) ∧ (∀ n < 4, (t.slot s.cur).tagItems n = [])
          ∧ ((s.slot s.cur).bstat.toNat % 256 ≠ 0 → (t.slot s.cur).bstat = (s.slot s.cur).bstat)))
  ∧ (∀ (s : State) (i : Instr) (k : Nat), fenceScope i = some k → Issues s i → Handles s →
    let x := s.slot s.cur
    (∀ d, x.dfr = some d → k ≠ 3 → ∃ t : State, exec i s = .next t ∧
      TrapsTo (onSlot (fun y => { y with dfr := none }) s) t d.cause d.faddr (d.finfo ||| (1#64 <<< 63)) x.pc)
    ∧ (∀ d, x.dfr = some d → k = 3 → ∃ t : State, exec i s = .next t ∧ (t.slot s.cur).dfr = none
        ∧ (t.slot s.cur).fcause = (1#64 <<< 63) ||| d.cause.setWidth 64 ∧ (t.slot s.cur).faddr = d.faddr
        ∧ (t.slot s.cur).finfo = d.finfo ||| (1#64 <<< 63) ∧ (t.slot s.cur).epc = wd (x.pc % 2 ^ 15)
        ∧ (t.slot s.cur).pc = x.tvec.toNat ∧ (∀ n < 4, (t.slot s.cur).tagItems n = []) ∧ SameElse s t s.cur)
    ∧ (∀ j f, x.dfr = none → k = 3 → j < 4 → x.failMap j ≠ 0#64 → x.btrap.getLsbD j = true → x.lowFail j = some f →
        (∀ n < j, x.failMap n = 0#64 ∨ x.btrap.getLsbD n = false) →
        ∃ t : State, exec i s = .next t ∧ (t.slot s.cur).fcause = (1#64 <<< 63) ||| 0x08#64 ∧ (t.slot s.cur).faddr = x.failMap j
          ∧ (t.slot s.cur).finfo = landrefInfo x f j 2 ∧ (t.slot s.cur).epc = wd ((x.pc + 4) % 2 ^ 15)
          ∧ (t.slot s.cur).pc = x.tvec.toNat ∧ (∀ n < 4, (t.slot s.cur).tagItems n = []) ∧ SameElse s t s.cur))

/-- R190, R191: BCLOSE writes the bitmap of the tag's failures and closes it; BTEST of a tag whose outcomes are all known
does the same, with 0 in the register after d; with an outcome outstanding it writes the failures known so far and the
number not yet known, and the tag stays open. -/
def Obligations.BatchClosesAndTests : Prop :=
  (∀ (s : State) (i : Instr) (d : Reg) (k : BitVec 2), i = .bclose d k ∨ i = .btest d k → Issues s i →
    let x := s.slot s.cur
    (∀ j ∈ x.tagItems k.toNat, j.known = true) → x.dfr = none ∨ x.inh = true →
    (x.failMap k.toNat = 0#64 ∨ x.btrap.getLsbD k.toNat = false) →
    ∃ t : State, exec i s = .next t ∧ (t.slot s.cur).rg d = x.failMap k.toNat ∧ Failures x k.toNat (x.failMap k.toNat)
      ∧ inMask (t.slot s.cur).pres (gcode d) = true
      ∧ (i = .btest d k → (t.slot s.cur).rg (d + 1) = 0#64 ∧ inMask (t.slot s.cur).pres (gcode (d + 1)) = true)
      ∧ SameRegs x (t.slot s.cur) (if i = .btest d k then [gcode d, gcode (d + 1)] else [gcode d])
      ∧ Retired x (t.slot s.cur) (x.pc + 4) ∧ SameElse s t s.cur ∧ Closes x (t.slot s.cur) k.toNat ∧ ClosedOnly x (t.slot s.cur))
  ∧ (∀ (s : State) (d : Reg) (k : BitVec 2), Issues s (.btest d k) →
    let x := s.slot s.cur
    (∃ j ∈ x.tagItems k.toNat, j.known = false) →
    ∃ t : State, exec (.btest d k) s = .next t ∧ RegStep s t [gcode d, gcode (d + 1)] (x.pc + 4)
      ∧ (t.slot s.cur).rg d = x.failMap k.toNat ∧ Failures x k.toNat (x.failMap k.toNat)
      ∧ (t.slot s.cur).rg (d + 1) = wd ((x.tagItems k.toNat).filter (fun j => !j.known)).length
      ∧ (∀ j ∈ x.tagItems k.toNat, j.known = false → j.seq < (x.tagItems k.toNat).length → j.peer.isSome = true →
          ∃ a ∈ (t.slot s.cur).asked, a.tag = k.toNat ∧ some a.peer = j.peer ∧ j.seq < a.upto))

/-- R306, R309, R310: the TAG words read the core's tags; TAGCLR clears tags and their errors and names them. -/
def Obligations.CopyTagWords : Prop :=
  ∀ (s : State) (d a : Reg),
    let x := s.slot s.cur
    let m := (s.core (coreOfSlot s.cur)).tags &&& x.rg a
    (Issues s (.waitany d a) → WritesG s (.waitany d a) d (lowest m))
    ∧ (Issues s (.waitall a) → GoesTo s (.waitall a) (x.pc + 4))
    ∧ (Issues s (.ffready d a) → WritesG s (.ffready d a) d (lowest m))
    ∧ (Issues s (.tagclr a) → Acts s (.tagclr a)
        (fun s => onSlot (fun y => { y with named := y.named ||| x.rg a })
          (s.updCore (coreOfSlot s.cur) (fun c => { c with tags := c.tags &&& ~~~(x.rg a), tagerr := c.tagerr &&& ~~~(x.rg a) })))
        [] (x.pc + 4))

/-- R109, R110, R112, R118, R121, R185, R350: a value whose address no module can take settles at its issue, known at
once: LAND_BADREG for a bad address, LAND_PEERLOST for a module declared lost; a value with a good address is sent as an
item of its tag: to its home core, direct to the core that the route cache names, or to another module over the pod. R113
to R116: TAKE, EMPTY, PTEST, SELF and HREG; a register that TAKE or EMPTY leaves empty refills from the oldest entry of
the core's landing buffer for the thread and the register. That a SENDR under a tag of fewer than 64 items that uses a route makes it the
most recently used one, and a look-up that R121 forbids does not, is the model's choice (log entry 80, DEDUCED). -/
def Obligations.LandingWords : Prop :=
  ((∀ (s : State) (i : Instr) (a b : Reg) (rl : Bool) (k : Nat),
    let x := s.slot s.cur
    let w := x.rg a
    let bad := misformed w ∨ Unnamed s (w.toNat / 2 ^ 54)
    sendForm x i = some (a, b, rl, k) → Issues s i → Room x k →
    bad ∨ (∃ pos, Elsewhere s (w.toNat / 2 ^ 54) pos ∧ pos ∈ s.pod.lost) →
    ∃ (t : State) (it : Item), exec i s = .next t ∧ SameRegs x (t.slot s.cur) [] ∧ Retired x (t.slot s.cur) (x.pc + 4) ∧ SameElse s t s.cur
      ∧ SameTraps x (t.slot s.cur) ∧ SameModes { x with items := (t.slot s.cur).items } (t.slot s.cur)
      ∧ (t.slot s.cur).items = openItems x k ++ [it] ∧ it.tag = k ∧ it.seq = itemNo x k ∧ it.left = 0 ∧ it.known = true
      ∧ (bad → it.code = 4#8) ∧ (¬ bad → it.code = 5#8))
  ∧ (∀ (s : State) (i : Instr) (a b : Reg) (rl : Bool) (k : Nat) (c : Option Nat),
    let x := s.slot s.cur
    let w := x.rg a
    let home := w.toNat / 2 ^ 34 % 2 ^ 20
    let touched := match c with
      | some _ => onSlot (fun y => y.touchRoute (w.extractLsb' 19 45)) s
      | none => s
    sendForm x i = some (a, b, rl, k) → Issues s i → (x.tagItems k).length < 64 → ¬ misformed w →
    (∀ n, c = some n → Direct x w n) → (c = none → ∀ n, ¬ Direct x w n) →
    let sent := fun (tgt : Target) (peer : Peer) (loc : Bool) =>
      ∃ (t : State) (r : Req) (it : Item), exec i s = .next t ∧ Opens touched t .none none true false none 1 ∧ t.reqs = s.reqs ++ [r]
        ∧ Sends s r (.landing (x.rg b) c false) w true (some (k, (x.tagItems k).length)) ∧ r.rl = rl ∧ r.tgt = tgt
        ∧ (t.slot s.cur).items = x.items ++ [it] ∧ it.tag = k ∧ it.seq = (x.tagItems k).length ∧ it.peer = some peer
        ∧ it.left = 1 ∧ it.known = false ∧ it.loc = loc
        ∧ it.viaHome = (if c.isSome then none else some (w.extractLsb' 19 45))
    (Named s (w.toNat / 2 ^ 54) → sent (.landing (c.getD home)) (.node (c.getD home / 64)) true)
    ∧ (∀ pos, Elsewhere s (w.toNat / 2 ^ 54) pos → pos ∉ s.pod.lost → sent (.remote pos) (.module pos) false)))
  ∧ ((∀ (s : State) (d a b : Reg),
    let x := s.slot s.cur
    let waits := fun (code : Nat) => ∃ e ∈ (s.core (coreOfSlot s.cur)).lbuf, e.th = x.th ∧ e.forReg code = true
    (Issues s (.takeG d a) → ¬ waits (gcode a) → ∃ t : State, exec (.takeG d a) s = .next t
        ∧ RegStep s t [gcode d, gcode a] (x.pc + 4) ∧ (t.slot s.cur).rg d = x.rg a
        ∧ inMask (t.slot s.cur).pres (gcode d) = true ∧ (d ≠ a → inMask (t.slot s.cur).pres (gcode a) = false))
    ∧ (Issues s (.takeV d a) → ¬ waits (wcode a) → ∃ t : State, exec (.takeV d a) s = .next t
        ∧ RegStep s t [wcode d, wcode a] (x.pc + 4) ∧ (t.slot s.cur).rv (d.setWidth 4) = x.rv (a.setWidth 4)
        ∧ inMask (t.slot s.cur).pres (wcode d) = true
        ∧ (wcode d ≠ wcode a → inMask (t.slot s.cur).pres (wcode a) = false))
    ∧ (Issues s (.emptyG a) → ¬ waits (gcode a) → ∃ t : State, exec (.emptyG a) s = .next t
        ∧ RegStep s t [gcode a] (x.pc + 4) ∧ (t.slot s.cur).rg a = x.rg a ∧ inMask (t.slot s.cur).pres (gcode a) = false)
    ∧ (Issues s (.emptyV a) → ¬ waits (wcode a) → ∃ t : State, exec (.emptyV a) s = .next t
        ∧ RegStep s t [wcode a] (x.pc + 4) ∧ (t.slot s.cur).rv (a.setWidth 4) = x.rv (a.setWidth 4)
        ∧ inMask (t.slot s.cur).pres (wcode a) = false)
    ∧ (Issues s (.ptestG d a) → WritesG s (.ptestG d a) d (truth (inMask x.pres (gcode a) = true)))
    ∧ (Issues s (.ptestV d a) → WritesG s (.ptestV d a) d (truth (inMask x.pres (wcode a) = true)))
    ∧ (Issues s (.self d) → WritesG s (.self d) d (handleWord s x.ctx x.th))
    ∧ (Issues s (.hreg d a b) → WritesG s (.hreg d a b) d
        (wd ((x.rg a).toNat / 2 ^ 19 * 2 ^ 19 + (x.rg b).toNat % 2 ^ 7))))
  ∧ (∀ (s : State) (d a : Reg) (e : Held),
    let x := s.slot s.cur
    let c := coreOfSlot s.cur
    let refills := fun (i : Instr) => ∃ t : State, exec i s = .next t ∧ (t.slot s.cur).pc = x.pc + 4
      ∧ inMask (t.slot s.cur).pres (gcode a) = true ∧ (t.slot s.cur).rg a = e.val
      ∧ (t.core c).lbuf = (s.core c).lbuf.filter (fun h => decide (h.id ≠ e.id))
      ∧ (∀ r, r ≠ a → r ≠ d → (t.slot s.cur).rg r = x.rg r) ∧ (∀ b, Memory.byte t.mem b = Memory.byte s.mem b)
    (s.core c).lbuf.find? (fun h => decide (h.th = x.th) && h.forReg (gcode a)) = some e → e.code.toNat = gcode a →
    (Issues s (.emptyG a) → refills (.emptyG a))
    ∧ (d ≠ a → Issues s (.takeG d a) → refills (.takeG d a) )))

/-- R95, R96: FORK pushes its record at the bottom of the core's deque; into a full deque it pushes nothing and writes 1;
a PC that is misaligned or outside the kernel traps FETCH. R97: SPAWNAT sends its record to the core its address names;
for another module, or a die above 9, it sends nothing and writes 2; the PC checks are FORK's. -/
def Obligations.ForksAndSpawns : Prop :=
  (∀ (s : State) (d a b : Reg), Issues s (.fork d a b) →
    let x := s.slot s.cur
    let c := coreOfSlot s.cur
    let pc := (x.rg a).toNat
    (pc % 4 = 0 → pc < 4 * x.n → (s.core c).deque.length < 32 →
      ∃ t : State, exec (.fork d a b) s = .next t ∧ (t.slot s.cur).rg d = 0#64
        ∧ SameRegs x (t.slot s.cur) [gcode d] ∧ SameSpecials x (t.slot s.cur)
        ∧ Retired (x.count cntForks) (t.slot s.cur) (x.pc + 4)
        ∧ t.core c = { s.core c with deque := (s.core c).deque ++ [forked s pc b], dequeAt := s.cycle + 1 }
        ∧ (∀ k, k ≠ c → t.core k = s.core k)
        ∧ (∀ k, k ≠ s.cur → { t.slot k with retryAt := (s.slot k).retryAt } = s.slot k)
        ∧ (∀ m, Memory.byte t.mem m = Memory.byte s.mem m) ∧ t.reqs = s.reqs)
    ∧ (pc % 4 = 0 → pc < 4 * x.n → 32 ≤ (s.core c).deque.length →
      ∃ t : State, exec (.fork d a b) s = .next t ∧ RegStep (onSlot (fun y => y.count cntInline) s) t [gcode d] (x.pc + 4)
        ∧ (t.slot s.cur).rg d = 1#64)
    ∧ (Handles s → (pc % 4 ≠ 0 → ∃ t : State, exec (.fork d a b) s = .next t ∧ TrapsTo s t 0x02#8 (x.rg a) 1#64 x.pc)
        ∧ (pc % 4 = 0 → 4 * x.n ≤ pc → ∃ t : State, exec (.fork d a b) s = .next t ∧ TrapsTo s t 0x02#8 (x.rg a) 2#64 x.pc)))
  ∧ (∀ (s : State) (d a b : Reg) (l : BitVec 4), Issues s (.spawnat d a b l) →
    let x := s.slot s.cur
    let w := (x.rg a).toNat
    let pc := w % 2 ^ 14
    (pc % 4 = 0 → pc < 4 * x.n → Named s (w / 2 ^ 54) → w / 2 ^ 50 % 2 ^ 4 ≤ 9 →
      ∃ (t : State) (r : Req), exec (.spawnat d a b l) s = .next t ∧ Opens s t (.g d) (some l.toNat) false false (some .status) 1
        ∧ t.reqs = s.reqs ++ [r] ∧ r.own = .slot s.cur x.th ∧ r.op = .spawn (forked s pc b)
        ∧ r.tgt = .deque (w / 2 ^ 34 % 2 ^ 20) ∧ r.stage = .outbound ∧ r.acc = s.nextId)
    ∧ (pc % 4 = 0 → pc < 4 * x.n → ¬ Named s (w / 2 ^ 54) ∨ 9 < w / 2 ^ 50 % 2 ^ 4 →
      ∃ t : State, exec (.spawnat d a b l) s = .next t ∧ RegStep (onSlot (fun y => y.count cntInline) s) t [gcode d] (x.pc + 4)
        ∧ (t.slot s.cur).rg d = 2#64)
    ∧ (Handles s → (pc % 4 ≠ 0 → ∃ t : State, exec (.spawnat d a b l) s = .next t ∧ TrapsTo s t 0x02#8 (wd pc) 1#64 x.pc)
        ∧ (pc % 4 = 0 → 4 * x.n ≤ pc → ∃ t : State, exec (.spawnat d a b l) s = .next t ∧ TrapsTo s t 0x02#8 (wd pc) 2#64 x.pc)))

/-- R94, R99, R100, R105: NEXTW takes the next entry of the table that its launch owns, else gives all ones; YIELD does
nothing but enter drain mode where a pre-emption is pending. -/
def Obligations.WorkItemsAndYield : Prop :=
  ∀ (s : State) (d : Reg),
    let x := s.slot s.cur
    let c := s.core (coreOfSlot s.cur)
    (∀ w, Issues s (.nextw d) → c.owner = some x.launch → c.sched[c.cursor]? = some w →
      ∃ t : State, exec (.nextw d) s = .next t ∧ (t.slot s.cur).rg d = w.setWidth 64
        ∧ RegStep (onSlot (fun y => y.count cntNexts) (s.updCore (coreOfSlot s.cur) (fun k => { k with cursor := k.cursor + 1 })))
            t [gcode d] (x.pc + 4))
    ∧ (Issues s (.nextw d) → c.owner ≠ some x.launch ∨ c.sched.length ≤ c.cursor →
        WritesG s (.nextw d) d 0xFFFFFFFFFFFFFFFF#64)
    ∧ (Issues s .yield → ∃ t : State, exec .yield s = .next t ∧ RegStep s t [] (x.pc + 4)
        ∧ (t.slot s.cur).drain = (x.drain || x.pre.isSome))

/-- R101, R102, R103, R209, R320: EXIT whose waits are over ends the thread on its birth node: its code and user count go
into the node status of its launch, EXITS rises, and its slot is IDLE while the launch's part on the node is not
complete, else FREE. -/
def Obligations.ThreadsExit : Prop :=
  ∀ (s : State) (a : Reg) (p : Part), Issues s (.exit a) →
    let x := s.slot s.cur
    let v := (x.rg a).toNat
    x.dfr = none → (∀ j < 4, x.failMap j = 0#64 ∨ x.btrap.getLsbD j = false) →
    nodeOfSlot x.th.birth = nodeOfSlot s.cur → s.part? x.launch (nodeOfSlot s.cur) = some p →
    ∃ t q, exec (.exit a) s = .next t
      ∧ t.part? x.launch (nodeOfSlot s.cur) = some q
      ∧ q = { p with word := combineStatus p.word (wd (v % 2 ^ 16 * 2 ^ 16 + v / 2 ^ 16 % 2 ^ 16)) }
      ∧ (t.slot s.cur).cnt.get cntExits = x.cnt.get cntExits + 1#64
      ∧ (t.slot s.cur).cnt.get cntIssued = x.cnt.get cntIssued + 1#64
      ∧ (p.complete = false → (t.slot s.cur).st = .parked ∧ (t.slot s.cur).reason = .idle)
      ∧ (p.complete = true → (t.slot s.cur).st = .free)
      ∧ (t.slot s.cur).attach = [] ∧ (t.slot s.cur).accs = [] ∧ (t.slot s.cur).owned = []
      ∧ (∀ r, (t.slot s.cur).rg r = x.rg r) ∧ (∀ m, Memory.byte t.mem m = Memory.byte s.mem m)

/-- R319, R320: a PLT word that passes its issue checks posts one request to its table: the issuing node's for PLOOK, PMAKE
and PATT, the reference's for the others; its destinations are pending. PDET drops the slot's record. -/
def Obligations.PlateWordsPost : Prop :=
  ∀ (s : State) (i : Instr) (op : Nat) (a : Reg) (l : BitVec 4) (dest : Dest) (ref : Bool),
    let x := s.slot s.cur
    pltForm i = some (op, a, l, dest, ref) → Issues s i → pltReady s i →
    (ref = true → cleanRef (x.rg a) ∧ refAllotted s (x.rg a)) →
    ∃ t r, exec i s = .next t
      ∧ Opens (if op = 0x05 then onSlot (unattached (x.rg a)) s else s) t dest (some l.toNat) false true (some .plate) 1
      ∧ t.reqs = s.reqs ++ [r] ∧ (t.slot s.cur).items = x.items
      ∧ r.op = .plt (BitVec.ofNat 7 op) (x.rg a) (pltOperands x i).1 (pltOperands x i).2
      ∧ r.tgt = .plates (if ref then refAt (x.rg a) else nodeOfSlot s.cur)
      ∧ r.own = .slot s.cur x.th ∧ r.ctx = x.ctx ∧ r.acc = s.nextId ∧ r.stage = .outbound

/-- R50, R162, R274, R275, R290, R320, R321, R323 to R325: the issue faults of PLT words and of the commands of engines 0, 1 and 2,
in their order. That a PLT reference with reserved bits traps PLSTATE 2 whatever node it names is the model's choice (log entry 14,
DEDUCED): R320 and R321 give no order of the two. So is that the ALIGN trap of an EPI's ROWSTRIDE names the destination (log entry 108),
and that a command's descriptor is checked as for a hart's access (log entry 112). -/
def Obligations.CommandWordsTrap : Prop :=
  (∀ (s : State) (i : Instr) (op : Nat) (a : Reg) (l : BitVec 4) (dest : Dest) (ref : Bool),
    let x := s.slot s.cur
    let trap := fun (c : BitVec 8) (f i' : Word) => ∃ t : State, exec i s = .next t ∧ TrapsTo s t c f i' x.pc
    pltForm i = some (op, a, l, dest, ref) → Issues s i → Handles s → x.dfr = none →
    (ref = true → ¬ cleanRef (x.rg a) → trap 0x0A#8 (x.rg a) (plstateInfo x op 2))
    ∧ (ref = true → cleanRef (x.rg a) → ¬ refAllotted s (x.rg a) → trap 0x03#8 (x.rg a) (pltAccInfo x op 5))
    ∧ (op = 0x05 → cleanRef (x.rg a) → refAllotted s (x.rg a) → (∀ k ∈ x.attach, ¬ sameRef k (x.rg a)) →
        trap 0x0A#8 (x.rg a) (plstateInfo x op 8))
    ∧ (op = 0x03 ∨ op = 0x04 → 4 ≤ x.attach.length → trap 0x0A#8 (x.rg a) (plstateInfo x op 7))
    ∧ (∀ d b, i = .pmake d a b l →
        (badSpec (x.rg b) = true → trap 0x0A#8 (x.rg a) (plstateInfo x op 2))
        ∧ (∀ c f r, badSpec (x.rg b) = false → backingFault s x.ctx (x.rg b) (x.rg (b + 1)) = some (c, f, r) →
            trap c (wd f) (pltAccInfo x op r))))
  ∧ (∀ (s : State) (i : Instr) (a b : Reg) (l : BitVec 4) (g : BitVec 2), Issues s i → Handles s →
    let x := s.slot s.cur
    let dead := (s.tile (tileOfSlot s.cur)).rbus = 2
    let f := (x.rg a).toNat / 2 ^ 56
    let trap := fun (c : BitVec 8) (ad inf : Word) => ∃ t : State, exec i s = .next t ∧ TrapsTo s t c ad inf x.pc
    let at_ := fun (ad : Word) (e n : Nat) => trap 0x10#8 ad (wd (e * 2 ^ 8 + n))
    let eng := at_ 0#64
    let fmt := fun (p : Word) (n : Nat) =>
      trap 0x04#8 p (wd (n * 2 ^ 12 + p.toNat / 2 ^ 52 % 2 ^ 4 * 2 ^ 8 + p.toNat / 2 ^ 56))
    let acc := fun (c : BitVec 8) (n lg ea : Nat) => trap c (wd ea) (accInfo x 0 lg 0 0x32 ||| wd n)
    let unit := fun (p : Word) => unitOf (p.toNat / 2 ^ 56) (p.toNat / 2 ^ 52 % 2 ^ 4)
    (i = .mmaz l ∨ i = .mma a b l g ∨ i = .rfree l → dead → eng 0 10)
    ∧ (i = .mmaz l → ¬ dead → 2 ≤ x.owned.length → eng 0 1)
    ∧ (i = .mma a b l g ∨ i = .rfree l → ¬ dead → x.owned = [] → eng 0 2)
    ∧ (i = .mma a b l g → ¬ dead → x.owned ≠ [] →
      let pa := x.rg a
      let pb := x.rg b
      let d := x.edesc0.toList.take 8
      let c := aCorners pa d
      let cs := colStride s (tileOfSlot s.cur)
      let len := kBlocks d * blockStride (ptrL pb) (fmtS (ptrFmt pb))
      (unit pa = none → fmt pa (formatReason (pa.toNat / 2 ^ 56)))
      ∧ (unit pa ≠ none → unit pb = none → fmt pb (formatReason (pb.toNat / 2 ^ 56)))
      ∧ (unit pa ≠ none → unit pb ≠ none → (pa.toNat / 2 ^ 56 < 0x80 → fmt pa 7)
          ∧ (0x80 ≤ pa.toNat / 2 ^ 56 → pb.toNat / 2 ^ 56 < 0x80 → fmt pb 7))
      ∧ (planesFormat pa → planesFormat pb → pa.toNat / 2 ^ 52 % 2 ^ 4 ≠ pb.toNat / 2 ^ 52 % 2 ^ 4 → eng 0 4)
      ∧ (planesFormat pa → planesFormat pb → pa.toNat / 2 ^ 52 % 2 ^ 4 = pb.toNat / 2 ^ 52 % 2 ^ 4 →
        (goodLayout d = false → eng 0 3)
        ∧ (goodLayout d = true →
          (pa.toNat % 8 ≠ 0 → acc 0x05#8 1 3 (pa.toNat % 2 ^ 52))
          ∧ (pa.toNat % 8 = 0 → pb.toNat % 8 ≠ 0 → acc 0x05#8 1 3 (pb.toNat % 2 ^ 52))
          ∧ (pa.toNat % 8 = 0 → pb.toNat % 8 = 0 →
            (∀ w r, spanCheck s x.ctx Need.load c.1 c.2 (spanFuel c.1 c.2) = some (w, r) → acc 0x03#8 r 3 w)
            ∧ (spanCheck s x.ctx Need.load c.1 c.2 (spanFuel c.1 c.2) = none →
              (∀ w r, bSpan s x.ctx pb cs len = some (w, r) → acc 0x03#8 r 3 w)
              ∧ (bSpan s x.ctx pb cs len = none →
                let split := storeNode s x.ctx c.1 = none ∨ storeNode s x.ctx c.1 ≠ storeNode s x.ctx c.2
                (split → at_ pa 0 5) ∧ (¬ split → goodB s x.ctx (tileOfSlot s.cur) pb cs len = false → at_ pb 0 6)))))))
    ∧ (i = .epi a b l → x.owned = [] → eng 1 2)
    ∧ (i = .epi a b l → x.owned ≠ [] → unit (x.rg a) = none → fmt (x.rg a) (formatReason f))
    ∧ (i = .epi a b l → x.owned ≠ [] → unit (x.rg a) ≠ none →
        (f < 0x80 → f ≠ 8 → f ≠ 9 → f ≠ 0x0A → eng 1 7)
        ∧ (f = 8 ∨ f = 9 ∨ f = 0x0A ∨ 0x80 ≤ f → (x.rg b).toNat / 2 ^ 8 % 4 = 3 → eng 1 8)
        ∧ (0x80 ≤ f → (x.rg b).toNat / 2 ^ 8 % 4 ≠ 3 → (x.rg a).toNat / 2 ^ 52 % 2 ^ 4 ≠ 5 → eng 1 9)
        ∧ (f = 8 ∨ f = 9 ∨ f = 0x0A ∨ 0x80 ≤ f → (x.rg b).toNat / 2 ^ 8 % 4 ≠ 3 →
            (0x80 ≤ f → (x.rg a).toNat / 2 ^ 52 % 2 ^ 4 = 5) →
          let lg := if 0x80 ≤ f then 3 else if f = 0x0A then 2 else 1
          let off := (x.rg a).toNat % 2 ^ lg ≠ 0 ∨ f < 0x80 ∧ (x.edesc1.get 1).toNat % 2 ^ lg ≠ 0
          let sbp := (x.edesc1.get 0).toNat % 2 ^ 52
          (off → acc 0x05#8 1 lg ((x.rg a).toNat % 2 ^ 52))
          ∧ (¬ off → sbp % 8 ≠ 0 → acc 0x05#8 1 3 sbp)
          ∧ (¬ off → sbp % 8 = 0 →
            (∀ w r, epiTableFault s x.ctx (x.edesc1.get 0) = some (w, r) → acc 0x03#8 r 3 w)
            ∧ (∀ w n r, epiTableFault s x.ctx (x.edesc1.get 0) = none →
                epiDestFault s x.ctx (x.rg a) (x.edesc1.get 1) = some (w, n, r) → acc 0x03#8 r (Nat.log2 n) w)))))
  ∧ (∀ (s : State) (i : Instr) (kind : CmdKind) (n : Nat) (a b : Reg) (l : BitVec 4),
    let x := s.slot s.cur
    let p := (x.rg a).toNat % 2 ^ 52
    let trap := fun (c : BitVec 8) (f i' : Word) => ∃ t : State, exec i s = .next t ∧ TrapsTo s t c f i' x.pc
    hartForm i = some (kind, n, a, b, l) → Issues s i → Handles s →
    (p % 8 ≠ 0 → trap 0x05#8 (wd p) (accInfo x 0 3 0 0x32 ||| 1#64))
    ∧ (p % 8 = 0 → ∀ f r, descriptorFault s (x.rg a) n = some (f, r) → trap 0x03#8 (wd f) (accInfo x 0 3 0 0x32 ||| wd r))
    ∧ (p % 8 = 0 → descriptorFault s (x.rg a) n = none → (x.rg b).toNat / 2 ^ 10 ≠ 0 ∨ (x.rg b).toNat / 2 ^ 6 % 4 ≠ 0 →
        trap 0x10#8 0#64 (wd (2 * 2 ^ 8 + 11))))

/-- R258, R259, R269 to R271, R288 to R290, R304: the commands of engines 0 and 1 that pass R274 issue with what they capture;
MMAZ takes a new ring tile, RFREE and EPI give up the oldest, MMA works on the newest; an engine-2 command with an aligned,
admitted descriptor and a clean control word issues and names its tag; FREEB has no descriptor. That the descriptor is checked as for
a hart's access is the model's choice (log entry 112). -/
def Obligations.EngineCommandsQueue : Prop :=
  (∀ (s : State) (a b : Reg) (l : BitVec 4) (g : BitVec 2),
    let x := s.slot s.cur
    let tile := tileOfSlot s.cur
    let d := x.edesc0.toList
    (Issues s (.mmaz l) → (s.tile tile).rbus ≠ 2 → x.owned.length < 2 →
      Queues s (.mmaz l) l (command s .mmaz 0#64 0#64 [] 0#2 s.nextId ((nth 0#64 d 8).getLsbD 0)) (ownNewest s.nextId))
    ∧ (∀ r rest, Issues s (.rfree l) → (s.tile tile).rbus ≠ 2 → x.owned = r :: rest →
        Queues s (.rfree l) l (command s .rfree 0#64 0#64 [] 0#2 r false) dropOldest)
    ∧ (∀ rest r, Issues s (.mma a b l g) → (s.tile tile).rbus ≠ 2 → x.owned = rest ++ [r] →
        planesFormat (x.rg a) → planesFormat (x.rg b) → (x.rg a).toNat / 2 ^ 52 % 2 ^ 4 = (x.rg b).toNat / 2 ^ 52 % 2 ^ 4 →
        goodLayout (d.take 8) = true → (x.rg a).toNat % 8 = 0 → (x.rg b).toNat % 8 = 0 →
        let c := aCorners (x.rg a) (d.take 8)
        let len := kBlocks (d.take 8) * blockStride (ptrL (x.rg b)) (fmtS (ptrFmt (x.rg b)))
        spanCheck s x.ctx Need.load c.1 c.2 (spanFuel c.1 c.2) = none →
        bSpan s x.ctx (x.rg b) (colStride s tile) len = none →
        storeNode s x.ctx c.1 ≠ none → storeNode s x.ctx c.1 = storeNode s x.ctx c.2 →
        goodB s x.ctx tile (x.rg b) (colStride s tile) len = true →
        Queues s (.mma a b l g) l (command s .mma (x.rg a) (x.rg b) (d.take 8) g r false) id)
    ∧ (∀ r rest, Issues s (.epi a b l) → x.owned = r :: rest →
        let f := (x.rg a).toNat / 2 ^ 56
        let size := if 0x80 ≤ f then 8 else if f = 0x0A then 4 else 2
        unitOf f ((x.rg a).toNat / 2 ^ 52 % 2 ^ 4) ≠ none → (f = 8 ∨ f = 9 ∨ f = 0x0A ∨ 0x80 ≤ f) →
        (x.rg b).toNat / 2 ^ 8 % 4 ≠ 3 → (0x80 ≤ f → (x.rg a).toNat / 2 ^ 52 % 2 ^ 4 = 5) → (x.rg a).toNat % size = 0 →
        (f < 0x80 → (x.edesc1.get 1).toNat % size = 0) → (x.edesc1.get 0).toNat % 8 = 0 →
        epiTableFault s x.ctx (x.edesc1.get 0) = none → epiDestFault s x.ctx (x.rg a) (x.edesc1.get 1) = none →
        Queues s (.epi a b l) l (command s .epi (x.rg a) (x.rg b) [x.edesc1.get 0, x.edesc1.get 1] 0#2 r false)
          (fun y => names (x.rg b) (dropOldest y))))
  ∧ (∀ (s : State) (i : Instr) (kind : CmdKind) (n : Nat) (a b : Reg) (l : BitVec 4),
    let x := s.slot s.cur
    (hartForm i = some (kind, n, a, b, l) → Issues s i → (x.rg a).toNat % 8 = 0 → descriptorFault s (x.rg a) n = none →
      (x.rg b).toNat / 2 ^ 10 = 0 → (x.rg b).toNat / 2 ^ 6 % 4 = 0 →
      Queues s i l (command s kind (x.rg a) (x.rg b) [] 0#2 0 false) (names (x.rg b)))
    ∧ (Issues s (.freeb a l) → Queues s (.freeb a l) l (command s .freeb (x.rg a) 0#64 [] 0#2 0 false) id))

/-- R272, R273, R276: ESET writes all 64 bits of a descriptor register, EGET reads it; EPOP and EWAIT read the engine
status word, and EPOP clears it; ETEST counts the slot's incomplete commands of the engine. -/
def Obligations.DescriptorAndStatusWords : Prop :=
  ∀ (s : State) (e : BitVec 4) (a : Reg) (n : BitVec 5), descriptor e.toNat n.toNat →
    let x := s.slot s.cur
    let reg := fun (y : Slot) (m : Nat) => if e = 0#4 then y.edesc0[m]?.getD 0#64 else y.edesc1[m]?.getD 0#64
    let stat := if e = 0#4 then x.estat0 else x.estat1
    (Issues s (.eset e a n) → ∃ t y, exec (.eset e a n) s = .next t ∧ RegStep (s.setSlot s.cur y) t [] (x.pc + 4)
        ∧ reg y n.toNat = x.rg a ∧ (∀ m, m ≠ n.toNat → reg y m = reg x m)
        ∧ y = { x with edesc0 := y.edesc0, edesc1 := y.edesc1 }
        ∧ (e = 0#4 → y.edesc1 = x.edesc1) ∧ (e ≠ 0#4 → y.edesc0 = x.edesc0))
    ∧ (Issues s (.eget e a n) → WritesG s (.eget e a n) a (reg x n.toNat))
    ∧ (Issues s (.epop e a) → ∃ t : State, exec (.epop e a) s = .next t ∧ (t.slot s.cur).rg a = stat
        ∧ RegStep (onSlot (fun y => if e = 0#4 then { y with estat0 := 0#64 } else { y with estat1 := 0#64 }) s) t [gcode a] (x.pc + 4))
    ∧ (Issues s (.ewait e a) → WritesG s (.ewait e a) a stat)
    ∧ (Issues s (.etest e a) → WritesG s (.etest e a) a (wd (incomplete s s.cur e.toNat)))

/-- R212 to R218: every lane-wise VOP word that issues writes each lane of its destination by its table, and under INT6
clears bits [255:252]. -/
def Obligations.VectorLaneResults : Prop :=
  ∀ (s : State) (i : Instr) (d : VReg) (f : Nat → Nat), vectorLanes (s.slot s.cur) (efmt s) i = some (d, f) →
    efmt s < 9 → Issues s i →
    ∃ v, WritesV s i d v ∧ (∀ k < laneCount (efmt s), lane (efmt s) v k = f k % 2 ^ laneBitsOf (efmt s))
      ∧ (efmt s = 1 → v.toNat / 2 ^ 252 = 0)

/-- R216, R218 with R212: the forms on all 256 bits and VPERM; that they too clear bits [255:252] under INT6 is the reading
of log entry 10. -/
def Obligations.VectorBitResults : Prop :=
  ∀ (s : State) (i : Instr) (d : VReg) (v : Vec), vectorBits (s.slot s.cur) i = some (d, v) → efmt s < 9 → Issues s i →
    WritesV s i d (noTop (efmt s) v)

/-- R219 to R221: VCVT converts the lanes of its window and keeps every other lane of its target format; VQSCL folds the scale
code of va into that of vb, floor(log2) of the greatest magnitude plus 128 within 0 and 0xFD for finite lanes; VQNT quantises at
most 32 lanes to q8. -/
def Obligations.VectorConversionAndQuantisation : Prop :=
  (∀ (s : State) (d a : VReg) (t p : BitVec 4), efmt s < 9 → t.toNat < 9 → Issues s (.vcvt d a t p) →
    let x := s.slot s.cur
    let ns := laneCount (efmt s)
    let nt := laneCount t.toNat
    let m := min ns nt
    let s0 := if nt < ns then p.toNat * m else 0
    let d0 := if ns < nt then p.toNat * m else 0
    let conv := fun (n : Nat) =>
      if t.toNat < 6 then
        wrapped t.toNat ((laneValue (efmt s) n).toIntSat false
          (if t.toNat = 3 then 0 else -(2 ^ (laneBitsOf t.toNat - 1) : Nat))
          (if t.toNat = 3 then 255 else (2 ^ (laneBitsOf t.toNat - 1) : Nat) - 1))
      else rounded t.toNat (laneValue (efmt s) n)
    ∃ v, WritesV s (.vcvt d a t p) d v ∧ (t = 1#4 → v.toNat / 2 ^ 252 = 0)
      ∧ ∀ j < nt, lane t.toNat v j =
          if d0 ≤ j ∧ j < d0 + m ∧ s0 + (j - d0) < ns then
            conv (lane (efmt s) (x.rv a) (s0 + (j - d0))) % 2 ^ laneBitsOf t.toNat
          else lane t.toNat (x.rv d) j)
  ∧ (∀ (s : State) (d a b : VReg) (k : BitVec 4), efmt s < 9 → 2 ≤ k.toNat → k.toNat ≤ 8 →
    let x := s.slot s.cur
    let vals := (List.range (laneCount (efmt s))).map (fun i => laneValue (efmt s) (lane (efmt s) (x.rv a) i))
    let old := (x.rv b).toNat % 2 ^ 8
    (Issues s (.vqscl d a b) → ∃ c, WritesV s (.vqscl d a b) d (BitVec.ofNat 256 (max c old)) ∧ c < 2 ^ 8
        ∧ ((∃ v ∈ vals, v.isNan = true) → c = 0xFF)
        ∧ ((∀ v ∈ vals, v.isNan = false) → (∃ v ∈ vals, v.isInf true = true ∨ v.isInf false = true) → c = 0xFE)
        ∧ ((∀ v ∈ vals, ∃ n e, v = .fin n 0 e) → c = 0)
        ∧ ((∀ v ∈ vals, ∃ n m e, v = .fin n m e) → (∃ v ∈ vals, ∃ n m e, v = .fin n m e ∧ m ≠ 0) →
            ∃ k : Int, (∃ v ∈ vals, Reaches v k) ∧ (∀ v ∈ vals, ¬ Reaches v (k + 1)) ∧ (c : Int) = min (max (k + 128) 0) 0xFD))
    ∧ (Issues s (.vqnt d a b k) → ∃ v, WritesV s (.vqnt d a b k) d v ∧ ∀ j < 32, lane 0 v j =
        if j < laneCount (efmt s) then
          (q8Of (laneValue (efmt s) (lane (efmt s) (x.rv a) j)) old k.toNat % 2 ^ 8).toNat
        else 0))

/-- R226, R227: dot products and reductions; under integer codes exactly, under FP codes with one rounding. That an exact zero of
VDOT and VDOTS under FP codes is -0 where every term is -0 is the model's choice (log entry 9, DEDUCED). -/
def Obligations.DotProductsAndReductions : Prop :=
  ∀ (s : State) (d a b : VReg), efmt s < 9 →
    let x := s.slot s.cur
    let e := efmt s
    let n := laneCount e
    let int := fun (k : Nat) => laneInteger e (lane e (x.rv a) k)
    let fmt := if e = 6 then fp16 else if e = 7 then bf16 else fp32
    -- the lane that R144 prefers to every other, widened to FP32
    let chosen := fun (mx : Bool) (v : Vec) =>
      ((∃ k < n, (laneValue e (lane e (x.rv a) k)).isNan = true) → v = 0x7FC00000#256)
      ∧ ((∀ k < n, (laneValue e (lane e (x.rv a) k)).isNan = false) →
          ∃ k < n, v = BitVec.ofNat 256 ((laneValue e (lane e (x.rv a) k)).encode fp32)
            ∧ ∀ j < n, fpMinMax fmt mx (lane e (x.rv a) k) (lane e (x.rv a) j) = lane e (x.rv a) k)
    let dot := fun (sat : Bool) (v : Vec) => ∀ j < 8, lane 5 v j =
      if dotGroup e j = [] then lane 5 (x.rv d) j
      else if e < 6 then
        (let z := laneInteger 5 (lane 5 (x.rv d) j) + dotSum e (x.rv a) (x.rv b) (dotGroup e j)
         if sat then saturated 5 z else wrapped 5 z)
      else (Fp.sum (f32 (lane 8 (x.rv d) j) :: (dotGroup e j).map (fun i =>
        (laneValue e (lane e (x.rv a) i)).mul (laneValue e (lane e (x.rv b) i))))).encode fp32 % 2 ^ 32
    (Issues s (.vdot d a b) → ∃ v, WritesV s (.vdot d a b) d v ∧ dot false v)
    ∧ (Issues s (.vdots d a b) → ∃ v, WritesV s (.vdots d a b) d v ∧ dot true v)
    ∧ (Issues s (.vrsum d a) → WritesV s (.vrsum d a) d
        (if e < 6 then (wi (((List.range n).map int).foldl (fun z y => z + y) 0)).setWidth 256
         else BitVec.ofNat 256 ((Fp.sum ((List.range n).map (fun k => laneValue e (lane e (x.rv a) k)))).encode fp32)))
    ∧ (e < 6 → Issues s (.vrmin d a) → ∃ k < n, WritesV s (.vrmin d a) d ((wi (int k)).setWidth 256) ∧ ∀ j < n, int k ≤ int j)
    ∧ (e < 6 → Issues s (.vrmax d a) → ∃ k < n, WritesV s (.vrmax d a) d ((wi (int k)).setWidth 256) ∧ ∀ j < n, int j ≤ int k)
    ∧ (6 ≤ e → Issues s (.vrmin d a) → ∃ v, WritesV s (.vrmin d a) d v ∧ v.toNat < 2 ^ 32 ∧ chosen false v)
    ∧ (6 ≤ e → Issues s (.vrmax d a) → ∃ v, WritesV s (.vrmax d a) d v ∧ v.toNat < 2 ^ 32 ∧ chosen true v)

/-- R229: what VSPLAT, VEXT and VINS write, by lane or by 64-bit word, with bits [255:252] cleared under INT6. -/
def Obligations.VectorTransfers : Prop :=
  ∀ (s : State) (d a b : Reg), efmt s < 9 →
    let x := s.slot s.cur
    let e := efmt s
    let q := (x.rg b).toNat
    let k := q % 2 ^ 7 % laneCount e
    (Issues s (.vsplat d a) → ∃ v, WritesV s (.vsplat d a) (d.setWidth 4) v
        ∧ (∀ j < laneCount e, lane e v j = (x.rg a).toNat % 2 ^ laneBitsOf e) ∧ (e = 1 → v.toNat / 2 ^ 252 = 0))
    ∧ (Issues s (.vext d a b) → WritesG s (.vext d a b) d
        (let v := x.rv (a.setWidth 4)
         if q / 2 ^ 7 % 2 = 1 then wd (v.toNat / 2 ^ (64 * (q % 4)))
         else if e = 3 ∨ 6 ≤ e then wd (lane e v k) else wi (laneInteger e (lane e v k))))
    ∧ (Issues s (.vins d a b) → ∃ v, WritesV s (.vins d a b) (d.setWidth 4) v ∧ (e = 1 → v.toNat / 2 ^ 252 = 0)
        ∧ (q / 2 ^ 7 % 2 = 0 → ∀ j < laneCount e,
            lane e v j = if j = k then (x.rg a).toNat % 2 ^ laneBitsOf e else lane e (x.rv (d.setWidth 4)) j)
        ∧ (q / 2 ^ 7 % 2 = 1 → ∀ j < 4,
            v.toNat / 2 ^ (64 * j) % 2 ^ 64 =
              (if j = q % 4 then (x.rg a).toNat else (x.rv (d.setWidth 4)).toNat / 2 ^ (64 * j) % 2 ^ 64)
                % 2 ^ (if e = 1 ∧ j = 3 then 60 else 64)))

/-- R222 to R225: a function conversion leaves its destination pending; its result is due 20 cycles after issue, with the
special values and exact points of the tables on FP32 values, 1/x rounded once, 1/√x faithful, and 2^x and log2 x between the exact
points around them; lanes of another format are converted to FP32 and the result back. -/
def Obligations.FunctionConversions : Prop :=
  ∀ (s : State) (i : Instr) (d a : VReg) (l : BitVec 4), functionForm i = some (d, a, l) → efmt s < 9 → Issues s i →
    let e := efmt s
    ∃ v, Pipes s i d l 20 false v ∧ (e = 1 → v.toNat / 2 ^ 252 = 0)
      ∧ (e = 8 → ∀ k < 8, functionFact (lane 8 ((s.slot s.cur).rv a) k) (lane 8 v k) i)
      ∧ ∀ k < laneCount e, ∃ y,
          functionFact (let n := lane e ((s.slot s.cur).rv a) k; if e = 8 then n else (laneValue e n).encode fp32) y i
          ∧ lane e v k = if 6 ≤ e then rounded e (f32 y) else wrapped e ((f32 y).toIntSat false
              (if e = 3 then 0 else -(2 ^ (laneBitsOf e - 1) : Nat)) (if e = 3 then 255 else (2 ^ (laneBitsOf e - 1) : Nat) - 1))

/-- R52: while EFMT holds a reserved code, every word of VOP, VXF and MEAN traps FMT with reason 5. -/
def Obligations.ReservedElementFormat : Prop :=
  ∀ (s : State) (i : Instr), usesEfmt i = true → Issues s i → Handles s → 9 ≤ efmt s →
    ∃ t : State, exec i s = .next t ∧ TrapsTo s t 0x04#8 0#64 (wd (5 * 2 ^ 12 + efmt s)) (s.slot s.cur).pc

/-- R237 to R239, R243, R246, R247, R252: TMINIT writes the empty record of SHAPE and TMSEL, or traps DOMAIN or TABLE;
TMMRG merges records of one pair and one σ, its sum rounded once, and others trap TABLE with reason 1. That a hand-built record
with EMPTY 1 counts on from its n is the model's choice (log entry 107, DEDUCED). R242, R244, R245, R249, R252: TMACC and
TMFIN: what a fold does to flags, count, sum and anchor, the mean, and the issue traps of both, DOMAIN of TMACC for the lowest failing
lane among them. That a σ pattern of -0 counts as σ = 0 in both is the model's choice (log entry 9, DEDUCED). -/
def Obligations.MeanRecordsMergeFoldAndFinish : Prop :=
  ((∀ (s : State) (d : VReg), efmt s < 9 → Issues s (.tminit d) →
    let x := s.slot s.cur
    let g := x.shape.toNat / 2 ^ 12 % 2 ^ 20
    let p := x.tmsel.toNat % 4
    (¬ wildSigma g → tablePresent s p → ∃ v, WritesV s (.tminit d) d v ∧ v.toNat < 2 ^ 128
        ∧ sigmaOf v = (if g = 2 ^ 19 then 0 else g) ∧ pairOf v = p ∧ flagEmpty v = true ∧ flagSkip v = false
        ∧ flagNans v = false ∧ countOf v = 0 ∧ sumOf v = 0 ∧ anchorOf v = if g % 2 ^ 19 = 0 then 0 else 0xFF800000)
    ∧ (Handles s → wildSigma g → ∃ t : State, exec (.tminit d) s = .next t ∧ TrapsTo s t 0x0B#8 0#64 (wd (p * 2 ^ 12 + 3)) x.pc)
    ∧ (Handles s → ¬ wildSigma g → ¬ tablePresent s p →
        ∃ t : State, exec (.tminit d) s = .next t ∧ TrapsTo s t 0x0C#8 0#64 (wd (p * 2 ^ 12 + 7)) x.pc))
  ∧ (∀ (s : State) (d a b : VReg) (l : BitVec 4), efmt s < 9 → Issues s (.tmmrg d a b l) →
    let p := (s.slot s.cur).rv a
    let q := (s.slot s.cur).rv b
    (pairOf p = pairOf q → sigmaOf p = sigmaOf q →
      ∃ v, Pipes s (.tmmrg d a b l) d l 24 true v ∧ v.toNat < 2 ^ 128 ∧ Merged p q v)
    ∧ (Handles s → pairOf p ≠ pairOf q ∨ sigmaOf p ≠ sigmaOf q →
        ∃ t : State, exec (.tmmrg d a b l) s = .next t ∧ TrapsTo s t 0x0C#8 0#64 (wd (pairOf p * 2 ^ 12 + 1)) (s.slot s.cur).pc)))
  ∧ (∀ (s : State) (i : Instr) (d a b : VReg) (l : BitVec 4) (acc : Bool),
    i = (if acc then .tmacc d a b l else .tmfin d a l) → efmt s < 9 → Issues s i →
    let x := s.slot s.cur
    let r := if acc then x.rv d else x.rv a
    let fates := termFates s (efmt s) r (x.rv a) (x.rv b)
    let kept := (fates.filter (fun f => decide (f ≠ .nan) && decide (f ≠ .skip))).length
    let terms := fates.filterMap (fun f => match f with | .fold u => some u | _ => none)
    (¬ wildSigma (sigmaOf r) → tablePresent s (pairOf r) →
      (acc = true → (∀ k, Fate.trap k ∉ fates) → ∃ v, Pipes s i d l 40 true v ∧ v.toNat < 2 ^ 128
          ∧ sigmaOf v = sigmaOf r ∧ pairOf v = pairOf r ∧ countOf v = min (countOf r + kept) 0xFFFFFFFF
          ∧ flagNans v = (flagNans r || fates.contains .nan) ∧ flagSkip v = (flagSkip r || fates.contains .skip)
          ∧ (flagEmpty v, sumOf v, anchorOf v)
              = terms.foldl (foldTerm (decide (sigmaOf r % 2 ^ 19 = 0))) (flagEmpty r, sumOf r, anchorOf r))
      ∧ (∀ before k after n, acc = true → fates = before ++ .trap k :: after → (∀ j, Fate.trap j ∉ before) →
          ((List.range (laneCount (efmt s))).filter (fun j => decide (lane (efmt s) (x.rv b) j ≠ 0)))[before.length]? = some n →
          Handles s → ∃ t : State, exec i s = .next t ∧ TrapsTo s t 0x0B#8 0#64 (wd (n * 2 ^ 16 + pairOf r * 2 ^ 12 + k)) x.pc)
      ∧ (acc = false → ∃ v, Pipes s i d l 40 true v ∧ (flagNans r = true ∨ flagEmpty r = true → v = 0x7FC00000#256)
          ∧ (flagNans r = false → flagEmpty r = false →
              let q := Fp.divRound fp32 (f32 (sumOf r)) (Fp.ofInt (countOf r))
              let y := if sigmaOf r % 2 ^ 19 = 0 then q else fdiv (fadd (anchorOf r) (log2Pat q)) (sigmaPat r)
              v = BitVec.ofNat 256 (pairInv (tableImage s (pairOf r)) (pairOf r) y))))
    ∧ (Handles s → wildSigma (sigmaOf r) →
        ∃ t : State, exec i s = .next t ∧ TrapsTo s t 0x0B#8 0#64 (wd (pairOf r * 2 ^ 12 + 3)) x.pc)
    ∧ (Handles s → ¬ wildSigma (sigmaOf r) → ¬ tablePresent s (pairOf r) →
        ∃ t : State, exec i s = .next t ∧ TrapsTo s t 0x0C#8 0#64 (wd (pairOf r * 2 ^ 12 + 7)) x.pc))

/-- R254, R255: TMLOAD posts 32 reads of 32 bytes and marks its tile as loading; its issue traps. That FADDR of its ACCESS trap is
the address of the first read that fails is the model's choice (log entry 112). -/
def Obligations.TableLoads : Prop :=
  ∀ (s : State) (a p l : BitVec 4) (ps : List Place), efmt s < 9 → Issues s (.tmload a p l) →
    let b := ((s.slot s.cur).rv a).toNat % 2 ^ 52
    let words := (List.range 32).map (fun i => (b + 32 * i) % 2 ^ 52)
    let need : Need := { r := true, w := false, a := false, sync := false, hart := false }
    let tile := tileOfSlot s.cur
    (b % 32 = 0 → Admitted s need words ps →
      ∃ t rs, exec (.tmload a p l) s = .next t
        ∧ Opens (s.updTile tile (fun y => { y with tload := some s.nextId })) t .none (some l.toNat) false false
            (some (.table tile p.toNat b)) 32
        ∧ t.reqs = s.reqs ++ rs ∧ Requests s false none (fun _ => .loadV) 0 words ps rs)
    ∧ (Handles s → ∀ u ea v why, words = u ++ ea :: v → (∀ w ∈ u, ∃ q, checkAddr s (s.slot s.cur).ctx need w = .ok q) →
        checkAddr s (s.slot s.cur).ctx need ea = .error why → ∃ t : State, exec (.tmload a p l) s = .next t ∧
          TrapsTo s t 0x03#8 (wd ea) (accInfo (s.slot s.cur) 0 5 0 0x36 ||| wd why) (s.slot s.cur).pc)
    ∧ (Handles s → (∀ w ∈ words, ∃ q, checkAddr s (s.slot s.cur).ctx need w = .ok q) → b % 32 ≠ 0 →
        ∃ t : State, exec (.tmload a p l) s = .next t ∧
          TrapsTo s t 0x05#8 (wd b) (accInfo (s.slot s.cur) 0 5 0 0x36 ||| 1#64) (s.slot s.cur).pc)

/-- R383, R384, R378: NOP has no effect; TRAP and BKPT trap with the code and the next offset; RTE leaves the handler and
runs on at EPC with every window closed, raises the deferred-fault record as its own trap, or traps FETCH for a bad EPC. That
TRAP and BKPT do not count in ISSUED is the model's choice (log entry 8, DEDUCED), and so is that an RTE with a closed window parks
before it closes the others (log entry 112). -/
def Obligations.SystemWords : Prop :=
  ∀ (s : State) (a : Reg) (c : BitVec 12),
    let x := s.slot s.cur
    let e := x.epc.toNat
    (Issues s .nop → GoesTo s .nop (x.pc + 4))
    ∧ (Issues s (.trap a c) → Handles s → ∃ t : State, exec (.trap a c) s = .next t
        ∧ TrapsTo s t 0x13#8 (x.rg a) (c.setWidth 64) (x.pc + 4))
    ∧ (Issues s (.bkpt c) → Handles s → ∃ t : State, exec (.bkpt c) s = .next t ∧ TrapsTo s t 0x12#8 0#64 (c.setWidth 64) (x.pc + 4))
    ∧ (Issues s .rte → e % 4 = 0 → e < 4 * x.n → x.dfr = none → ∃ t : State, exec .rte s = .next t
        ∧ RegStep (onSlot outOfHandler s) t [] e ∧ (t.slot s.cur).wins = [])
    ∧ (∀ d, Issues s .rte → e % 4 = 0 → e < 4 * x.n → x.dfr = some d → x.hasHandler = true → ∃ t : State, exec .rte s = .next t
        ∧ TrapsTo (onSlot (fun y => { outOfHandler y with dfr := none }) s) t d.cause d.faddr (d.finfo ||| (1#64 <<< 63)) e)
    ∧ (Issues s .rte → e % 4 ≠ 0 ∨ 4 * x.n ≤ e → x.hasHandler = true → ∃ t : State, exec .rte s = .next t
        ∧ TrapsTo (onSlot outOfHandler s) t 0x02#8 (wd e) (if e % 4 ≠ 0 then 1#64 else 2#64) x.pc)

/-- R385, R386, R34, R122, R186, R387 to R389: SRD of every number of R386 writes its register's value and goes on; SWR of every
number of R386 goes on, writes the writable fields and leaves the rest, all of a read-only register. -/
def Obligations.SpecialRegisters : Prop :=
  ∀ (s : State) (d a : Reg) (n : BitVec 12),
    let x := s.slot s.cur
    let reads := fun (v : Word) => Issues s (.srd d n) → WritesG s (.srd d n) d v
    let fields := fun (p : Nat → Prop) => Issues s (.srd d n) → ∃ v, WritesG s (.srd d n) d v ∧ p v.toNat
    (∀ e ∈ plainSpecials s, n.toNat = e.1 → reads e.2)
    ∧ (∀ k : Fin 16, n.toNat = 0x050 + k.val → reads (x.cnt.get k))
    ∧ (n.toNat = 0x001 → reads (wd (ownVdn s x.ctx * 2 ^ 54 + x.th.birth * 2 ^ 31 + x.th.gen.toNat * 2 ^ 19)))
    ∧ (n.toNat = 0x002 → reads (wd (ownVdn s x.ctx * 2 ^ 54 + s.cur * 2 ^ 31 + (nodeXY s (nodeOfSlot s.cur)).1 * 2 ^ 15
        + (nodeXY s (nodeOfSlot s.cur)).2 * 2 ^ 10)))
    ∧ (n.toNat = 0x003 → (s.tile (tileOfSlot s.cur)).rbus < 4 →
        (∀ c, s.context x.ctx = some c → c.plateG < 16) → fields (fun v =>
          (∀ k < 8, (v / 2 ^ (48 + k) % 2 = 0 ↔ (s.slot (s.cur / 8 * 8 + k)).st = .disabled))
          ∧ v / 2 ^ 46 % 4 = (s.tile (tileOfSlot s.cur)).rbus ∧ (∀ c, s.context x.ctx = some c → v % 16 = c.plateG)))
    ∧ (n.toNat = 0x019 → (∀ k < 4, (x.tagItems k).length ≤ 64) → fields (fun v =>
        v % 2 ^ 16 = x.bstat.toNat ∧ ∀ k < 4, v / 2 ^ (32 + 8 * k) % 2 ^ 8 = (x.tagItems k).length))
    ∧ (n.toNat = 0x028 → x.routes.length ≤ 16 → x.logged ≤ 32 → (s.core (coreOfSlot s.cur)).lbuf.length ≤ 32 → fields (fun v =>
        v % 2 ^ 8 = ((s.core (coreOfSlot s.cur)).lbuf.filter (fun e => decide (e.th = x.th))).length
        ∧ v / 2 ^ 8 % 2 ^ 8 = x.logged ∧ v / 2 ^ 16 = x.routes.length))
    ∧ (∀ e ∈ specialWrites (x.rg a), n.toNat = e.1 → Issues s (.swr a n) → Acts s (.swr a n) (onSlot e.2) [] (x.pc + 4))
    ∧ (n.toNat ∈ readOnly → Issues s (.swr a n) → GoesTo s (.swr a n) (x.pc + 4))
    ∧ (n.toNat ∈ specialMap → (Issues s (.srd d n) → ∃ v, WritesG s (.srd d n) d v)
        ∧ (Issues s (.swr a n) → ∃ t : State, exec (.swr a n) s = .next t ∧ SameRegs x (t.slot s.cur) []
            ∧ Retired x (t.slot s.cur) (x.pc + 4) ∧ SameElse s t s.cur))

/-- R75, R3, R73, R83, R84, R320, R382: a word whose check fails parks its slot for that check's reason; a word that
passes but reads a register with an uncorrectable error traps DEVERR. A REG park of a word with any operand pending in an open
window is a violation: LAVIOL rises as well, and the slot will forgo its next turn once that register is full; a REG park without
one is none. That one closed window of an access in a wait list makes the park WORD, that an access of the slot in a wait list makes
the park of R83 WORD, and that DEVERR names the first bad register in the order d, a, b, ahead of every check of the entry, are the
model's choices (log entries 112 and 91, DESIGN CHOICE, and 29, DEDUCED). -/
def Obligations.WordsPark : Prop :=
  ∀ (s : State) (i : Instr), i.isWord = true →
    let x := s.slot s.cur
    let u := usesOf i
    let parks := fun (r : Reason) => ∃ t : State, exec i s = .next t ∧ Parks s t r
    let closed := ∃ w ∈ x.wins, w.count = 0
    let reg := fun (r : Nat) => r ∈ u.reads ∧ (inMask x.pend r = true ∨ inMask x.pres r = false) ∨ r ∈ u.writes ∧ inMask x.pend r = true
    let look := fun (r : Nat) => (r ∈ u.reads ∨ r ∈ u.writes) ∧ inMask x.pend r = true ∧ ∃ w ∈ x.wins, inMask w.dests r = true
    (∀ w ∈ x.wins, w.count = 0 → WaitsOnWord s w.id → parks .word)
    ∧ (closed → (∀ w ∈ x.wins, w.count = 0 → ¬ WaitsOnWord s w.id) → parks .look)
    ∧ (¬ closed → ∀ r, reg r → parks .reg)
    ∧ (¬ closed → (∃ r, look r) → x.replay = none → ∃ t r, exec i s = .next t ∧ Parks s t .reg ∧ look r
        ∧ (t.slot s.cur).replay = some r ∧ (t.slot s.cur).cnt.get cntLaviol = x.cnt.get cntLaviol + 1#64)
    ∧ (¬ closed → ∀ r, reg r → (∀ q, ¬ look q) → ∃ t : State, exec i s = .next t ∧ Parks s t .reg
        ∧ (t.slot s.cur).replay = x.replay ∧ (t.slot s.cur).cnt.get cntLaviol = x.cnt.get cntLaviol)
    ∧ (¬ closed → (∀ r, ¬ reg r) → accessBlock x u.access = true → (∃ b ∈ x.accs, WaitsOnWord s b.id) → parks .word)
    ∧ (¬ closed → (∀ r, ¬ reg r) → accessBlock x u.access = true → (∀ b ∈ x.accs, ¬ WaitsOnWord s b.id) → parks .access)
    ∧ (¬ closed → (∀ r, ¬ reg r) → accessBlock x u.access = false → ∀ r, waitBlock s s.cur u.wait = some r → parks r)
    ∧ (¬ closed → (∀ r, ¬ reg r) → accessBlock x u.access = false → waitBlock s s.cur u.wait = none → Handles s →
        ∀ p r q, u.reads = p ++ r :: q → (∀ k ∈ p, inMask x.rerr k = false) → inMask x.rerr r = true →
        ∃ t : State, exec i s = .next t ∧
          TrapsTo s t 0x15#8 0#64 (wd ((if r < 32 then r else 4 * (r - 16)) * 2 ^ 8 + 2)) x.pc)

/-- R381, R102, R209: a trap that no handler takes ends the thread with the cause as its code, once every access of its is
performed, those that the port has accepted included; until then the slot is parked for them. That the slot shows PARKED and ACCESS until then is the model's choice (log
entry 90), and that the trapping word does not count in ISSUED is too (log entry 8, DEDUCED). -/
def Obligations.UnhandledTraps : Prop :=
  ∀ (s : State) (a : Reg) (c : BitVec 12) (p : Part), Issues s (.trap a c) → ¬ Handles s →
    let x := s.slot s.cur
    let mine := fun (r : Req) => r.own = .slot s.cur x.th ∧ r.stage.isReplied = false
    (x.accs = [] → (∀ r ∈ s.reqs, ¬ mine r) → nodeOfSlot x.th.birth = nodeOfSlot s.cur →
      s.part? x.launch (nodeOfSlot s.cur) = some p → ∃ t : State, exec (.trap a c) s = .next t
        ∧ t.part? x.launch (nodeOfSlot s.cur) = some { p with word := combineStatus p.word 0x1300000100000000#64 }
        ∧ (t.slot s.cur).cnt.get cntExits = x.cnt.get cntExits + 1#64
        ∧ (t.slot s.cur).cnt.get cntIssued = x.cnt.get cntIssued
        ∧ (p.complete = false → (t.slot s.cur).st = .parked ∧ (t.slot s.cur).reason = .idle)
        ∧ (p.complete = true → (t.slot s.cur).st = .free)
        ∧ (t.slot s.cur).attach = [] ∧ (t.slot s.cur).owned = [] ∧ (t.slot s.cur).items = []
        ∧ (∀ m, Memory.byte t.mem m = Memory.byte s.mem m))
    ∧ ((∃ r ∈ s.reqs, mine r) → (∀ e ∈ s.cores, ∀ h ∈ e.2.lbuf, h.th ≠ x.th) →
      ∃ t : State, exec (.trap a c) s = .next t ∧ (t.slot s.cur).st = .parked ∧ (t.slot s.cur).reason = .access
        ∧ (t.slot s.cur).ending = some 0x13#8 ∧ (t.slot s.cur).wins = [] ∧ SameRegs x (t.slot s.cur) []
        ∧ (t.slot s.cur).accs = x.accs ∧ SameElse s t s.cur)

/-- R57, R63, R66, R81, R156, R382, and the schedule of log entry 3: the turn of a slot runs the word that the bytes at its PC
decode to, with the turn noted, and a correctable error of that code word corrected and counted; an event at the head of the
schedule takes place; an empty schedule lets a cycle pass, in which, with every Burin idle, nothing else changes. -/
def Obligations.StepRunsTheDecodedWord : Prop :=
  ∀ (s : State) (rest : List Move), s.power = true → (∀ p ∈ s.pipe, s.cycle < p.due) →
    (∀ sl i t, s.agenda = .turn sl :: rest →
      let x := s.slot sl
      let n := nodeOfSlot sl
      let a := codeBase (tileOfSlot sl) x.bank + x.pc
      let turned := ({ s with agenda := rest, cur := sl } : State).updSlot sl (fun y => { y with turnAt := s.cycle + 1 })
      s.cycle % 8 = sl % 8 → x.turnAt ≠ s.cycle + 1 → x.st = .running ∨ x.st = .parked ∧ x.reason ≠ .idle →
      x.ending = none → x.tfault = none → x.pre = none → x.replay = none → x.drain = false →
      fullSpeed s n → x.pc < 4 * x.n → a / 8 ∉ s.bad →
      decode [Memory.byte s.mem a, Memory.byte s.mem (a + 1), Memory.byte s.mem (a + 2), Memory.byte s.mem (a + 3)] = .ok i →
      exec i (if a / 8 ∈ s.corr then
          ({ turned with corr := s.corr.filter (fun w => decide (w ≠ a / 8)) }).updNode n
            (fun y => { y with corrected := y.corrected + 1 })
        else turned) = .next t →
      StepsTo s t)
    ∧ (∀ i t, s.agenda = .event i :: rest → runsInTurn i = false → exec i { s with agenda := rest } = .next t → StepsTo s t)
    ∧ (s.agenda = [] → (∀ e ∈ s.tiles, (s.tile e.1).burin = none) → StepsTo s { s with cycle := s.cycle + 1 })

/-- R57 to R65: words written out from the encoding tables decode to what they stand for; a reserved code, a field that must
be zero, a vector register above 15 and an unassigned special register are ILL with the reason of R63. -/
def Obligations.WordsDecode : Prop :=
  decodeTableWord 32 0b000001_00011_00001_00010_00000000001 = some (.add 3#5 1#5 2#5)
  ∧ decodeTableWord 32 0b000010_00111_00101_1111111111111100 = some (.addi 7#5 5#5 0xFFFC#16)
  ∧ decodeTableWord 32 0b011111_01001_01000_0010_1_00_000000011 = some (.ldd 9#5 8#5 2#4 1#1 0#2 3#9)
  ∧ decodeTableWord 32 0b110111_00100_00000_0011_000000000100 = some (.srd 4#5 4#12)
  ∧ decodeTableWord 32 0b110111_00000_00000_0010_000000000000 = some .rte
  ∧ decodeWord 0b000001_00011_00001_00010_11111111111#32 = .ill 2
  ∧ decodeWord 0b110111_00001_00000_0010_000000000000#32 = .ill 3
  ∧ decodeWord 0b100111_10000_01000_0010_0_00_000000011#32 = .ill 4
  ∧ decodeWord 0b110111_00100_00000_0011_000000000000#32 = .ill 6

/-- R57 to R65, R126 to R383: every well-formed word has an encoding that decodes to it, with every operand; and what a word
decodes to is well-formed and is encoded by that very word. -/
def Obligations.WordsRoundTrip : Prop :=
  (∀ i : Instr, i.isWord = true → WellFormed i = true → ∃ w, encode i = some w ∧ decode (wordBytes w) = .ok i)
  ∧ (∀ (w : BitVec 32) (i : Instr), decode (wordBytes w) = .ok i → i.isWord = true ∧ WellFormed i = true ∧ encode i = some w)

/-- R155, R157, R159, R169 to R171, R98: in which states an access of a local-store word waits, what it answers, and what it
leaves in the word and in its state; a POISON word faults all but whole stores, WSTATE and WSET. R167, R174, R175, R231: narrow
accesses and AFADD act on their part of the word, ATMERGE on two words in one perform, LDV and STV on four. R296, R297, R299, R305:
a transfer hart reads a word with its state, stores it, marks it and fills it in one perform each; that a marked word has data 0 is the
model's choice (log entry 34, DEDUCED). -/
def Obligations.WordStateRules : Prop :=
  (∀ (s : State) (n loc : Nat), isStore loc = true → loc % 8 = 0 → loc / 8 ∉ s.bad → loc / 8 ∉ s.corr →
    let st := s.wordState loc
    let v := wd (Memory.readNat s.mem loc 8)
    let sound := st = 0#2 ∨ st = 1#2
    let word := fun (t : State) => wd (Memory.readNat t.mem loc 8)
    let does := fun (op : MemOp) (ans m : Word) (st' : BitVec 2) =>
      let d := performOp s n op loc
      d.fault = none ∧ d.val = ans.setWidth 256 ∧ word d.st = m ∧ d.st.wordState loc = st'
        ∧ (∀ a, a < loc ∨ loc + 8 ≤ a → Memory.byte d.st.mem a = Memory.byte s.mem a)
    let faults := fun (op : MemOp) => (performOp s n op loc).fault = some (0x06#8, (if st = 3#2 then 2 else 1), loc)
      ∧ (performOp s n op loc).st = s
    (∀ k y, blockedNow s (.load k y) loc = (decide (y ≠ 0#2) && decide (st = 0#2)))
    ∧ (∀ k y u, blockedNow s (.store k y u) loc = (decide (y = 1#2) && decide (st = 1#2)))
    ∧ (∀ op b b2 d, op ≠ 0x0D#6 → blockedNow s (.amo op b b2 d) loc = decide (st = 0#2))
    ∧ blockedNow s .join loc = decide (st = 1#2)
    ∧ (sound → ∀ y, does (.load 8 y) v v (if y = 1#2 then 1#2 else if y = 2#2 then 0#2 else st))
    ∧ (∀ y u, sound ∨ y ≠ 1#2 → does (.store 8 y u) 0#64 u (if y = 0#2 ∧ sound then st else 1#2))
    ∧ (sound → does .join 0#64 (v - 1#64) (if v = 1#64 then 1#2 else st))
    ∧ does .wstate (if sound then st.setWidth 64 else 2#64) v st
    ∧ (∀ y, does (.wset y) 0#64 v (if y = 3#2 then 2#2 else y))
    ∧ (sound → ∀ b b2 d, ∀ e ∈ amoRule v b b2 d, does (.amo (BitVec.ofNat 6 e.1) b b2 d) e.2.2 e.2.1 st)
    ∧ (¬ sound → (∀ k y, 0 < k → k ≤ 8 → faults (.load k y)) ∧ faults .join
        ∧ (∀ op b b2 d, op ≠ 0x0D#6 → faults (.amo op b b2 d)) ∧ (∀ k u, k < 8 → faults (.store k 0#2 u))
        ∧ (∀ u, faults (.store 8 1#2 u)))
    -- at a part of the word: `k` bytes from byte `o` on
    ∧ (sound → ∀ k ∈ [1, 2, 4], ∀ o, o + k ≤ 8 → o % k = 0 →
        let part := fun (op : MemOp) (ans m : Nat) (st' : BitVec 2) =>
          let d := performOp s n op (loc + o)
          d.fault = none ∧ d.val.toNat = ans ∧ (word d.st).toNat = m ∧ d.st.wordState loc = st'
            ∧ (∀ a, a < loc ∨ loc + 8 ≤ a → Memory.byte d.st.mem a = Memory.byte s.mem a)
        let old := v.toNat / 2 ^ (8 * o) % 2 ^ (8 * k)
        (∀ y, part (.load k y) old v.toNat (if y = 1#2 then 1#2 else if y = 2#2 then 0#2 else st))
        ∧ (∀ sf u, part (.hput k sf u) 0 (v.toNat - old * 2 ^ (8 * o) + u.toNat % 2 ^ (8 * k) * 2 ^ (8 * o)) (if sf then 1#2 else st))
        ∧ (∀ y u, part (.store k y u) 0 (v.toNat - old * 2 ^ (8 * o) + u.toNat % 2 ^ (8 * k) * 2 ^ (8 * o))
            (if y = 0#2 then st else 1#2))
        -- AFADD on the half that bit 2 of the address names
        ∧ (k = 4 → ∀ b b2 d, part (.amo 0x0B#6 b b2 d) old (v.toNat - old * 2 ^ (8 * o)
            + (Fp.sum [f32 old, f32 (b.toNat % 2 ^ 32)]).encode fp32 * 2 ^ (8 * o)) st)))
  -- what a transfer hart does to a word: it reads it with its state, stores as without or with .SF, marks it and fills it
  ∧ (∀ (s : State) (n loc : Nat), isStore loc = true → loc % 8 = 0 → loc / 8 ∉ s.bad → loc / 8 ∉ s.corr →
    let st := s.wordState loc
    let part := fun (k o : Nat) => Memory.readNat s.mem (loc + o) k
    let kept := fun (d : Done) => ∀ a, a < loc ∨ loc + 8 ≤ a → Memory.byte d.st.mem a = Memory.byte s.mem a
    (∀ k ∈ [1, 2, 4, 8], ∀ o, o + k ≤ 8 → o % k = 0 →
      (let d := performOp s n (.peek k) (loc + o);
        d.st = s ∧ d.fault = none ∧ d.val.toNat = part k o + st.toNat * 2 ^ 64)
      ∧ (let d := performOp s n (.mark k) (loc + o);
        d.fault = none ∧ Memory.readNat d.st.mem (loc + o) k = 0 ∧ d.st.wordState loc = 2#2 ∧ kept d)
      ∧ ∀ sf u, blockedNow s (.peek k) (loc + o) = false ∧ blockedNow s (.mark k) (loc + o) = false
          ∧ blockedNow s (.hput k sf u) (loc + o) = false)
    ∧ (∀ sf u, let d := performOp s n (.hput 8 sf u) loc;
        d.fault = none ∧ Memory.readNat d.st.mem loc 8 = u.toNat ∧ kept d
          ∧ d.st.wordState loc = if sf = true ∨ st = 2#2 ∨ st = 3#2 then 1#2 else st)
    ∧ (st = 2#2 ∨ st = 3#2 → ∀ k sf u, k < 8 → (performOp s n (.hput k sf u) loc).st = s
        ∧ (performOp s n (.hput k sf u) loc).fault = some (0x06#8, (if st = 3#2 then 2 else 1), loc))
    ∧ (∀ u st', let d := performOp s n (.fillw u st') loc;
        d.fault = none ∧ Memory.readNat d.st.mem loc 8 = u.toNat ∧ d.st.wordState loc = st' ∧ kept d))
  ∧ (∀ (s : State) (n loc : Nat), isStore loc = false → loc % 8 = 0 →
    let d := performOp s n (.mark 8) loc
    d.fault = none ∧ Memory.readNat d.st.mem loc 8 = 0 ∧ loc / 8 ∈ d.st.bad ∧ (∀ w, w ≠ loc / 8 → (w ∈ d.st.bad ↔ w ∈ s.bad))
      ∧ ∀ sf u, loc / 8 ∉ (performOp s n (.hput 8 sf u) loc).st.bad)
  -- ATMERGE on two words
  ∧ (∀ (s : State) (n loc : Nat) (b b2 d : Word), isStore loc = true → loc % 16 = 0 →
    (∀ k < 2, loc / 8 + k ∉ s.bad ∧ loc / 8 + k ∉ s.corr) →
    let p : Vec := BitVec.ofNat 256 (Memory.readNat s.mem loc 16)
    let q : Vec := BitVec.ofNat 256 (b.toNat + b2.toNat * 2 ^ 64)
    let u := performOp s n (.amo 0x0D#6 b b2 d) loc
    let full := fun (k : Nat) => s.wordState (loc + 8 * k) = 0#2 ∨ s.wordState (loc + 8 * k) = 1#2
    (blockedNow s (.amo 0x0D#6 b b2 d) loc = true ↔ ∃ k < 2, s.wordState (loc + 8 * k) = 0#2)
    ∧ ((∀ k < 2, full k) → pairOf p = pairOf q → sigmaOf p = sigmaOf q → u.fault = none
        ∧ (∃ v, Merged p q v ∧ Memory.readNat u.st.mem loc 16 = v.toNat ∧ u.val.toNat = countOf v)
        ∧ (∀ a, a < loc ∨ loc + 16 ≤ a → Memory.byte u.st.mem a = Memory.byte s.mem a) ∧ (∀ a, u.st.wordState a = s.wordState a))
    ∧ ((∀ k < 2, full k) → pairOf p ≠ pairOf q ∨ sigmaOf p ≠ sigmaOf q → u.fault = some (0x0C#8, 1, loc) ∧ u.st = s)
    ∧ ((∃ k < 2, ¬ full k) → u.st = s ∧ ∃ k < 2, ¬ full k
        ∧ u.fault = some (0x06#8, (if s.wordState (loc + 8 * k) = 3#2 then 2 else 1), loc + 8 * k)))
  -- LDV and STV on four words
  ∧ (∀ (s : State) (n loc : Nat) (v : Vec), isStore loc = true → loc % 32 = 0 →
    (∀ k < 4, loc / 8 + k ∉ s.bad ∧ loc / 8 + k ∉ s.corr) →
    let full := fun (k : Nat) => s.wordState (loc + 8 * k) = 0#2 ∨ s.wordState (loc + 8 * k) = 1#2
    let u := performOp s n (.storeV v) loc
    blockedNow s .loadV loc = false ∧ blockedNow s (.storeV v) loc = false
    ∧ ((∀ k < 4, full k) → let l := performOp s n .loadV loc
        l.st = s ∧ l.fault = none ∧ l.val.toNat = Memory.readNat s.mem loc 32)
    ∧ ((∃ k < 4, ¬ full k) → let l := performOp s n .loadV loc
        l.st = s ∧ ∃ k < 4, ¬ full k ∧ (∀ j < k, full j)
          ∧ l.fault = some (0x06#8, (if s.wordState (loc + 8 * k) = 3#2 then 2 else 1), loc + 8 * k))
    ∧ u.fault = none ∧ Memory.readNat u.st.mem loc 32 = v.toNat
    ∧ (∀ a, a < loc ∨ loc + 32 ≤ a → Memory.byte u.st.mem a = Memory.byte s.mem a)
    ∧ (∀ k < 4, u.st.wordState (loc + 8 * k) = if s.wordState (loc + 8 * k) = 0#2 then 0#2 else 1#2)
    ∧ (∀ a, a / 32 ≠ loc / 32 → u.st.wordState a = s.wordState a))

/-- Log entry 1 (R153 to R155): every step keeps the canonical forms of memory, host memory, firmware SRAM and word states,
so that equal memories are equal data. -/
def Obligations.StepsKeepTheMemoryForm : Prop := ∀ s t : State, MemoryForm s → step s = .next t → MemoryForm t

/-- R397, R386, R79: after power-up reset the module is in phase 0 with CYCLE 0, power on, every slot FREE, nothing in
flight, and the canonical forms hold; SHAPE and WAITLIM have the values that R386 gives a launch. That registers hold zero is the
model's choice (log entry 2); so are the bytes of memory, and that every local-store word of every core is FULL before context
set-up, for which alone R154 states it (log entry 1). -/
def Obligations.ResetState : Prop :=
  MemoryForm State.reset ∧ State.reset.power = true ∧ State.reset.cycle = 0 ∧ State.reset.mbox.phase = 0
  ∧ (∀ k, (State.reset.slot k).st = .free ∧ (State.reset.slot k).shape = 0x3F800000#64 ∧ (State.reset.slot k).waitlim = 256#64
      ∧ ∀ r, (State.reset.slot k).rg r = 0#64)
  ∧ (∀ c < 655360, ∀ w < 4096, State.reset.wordState (storeBase c + 8 * w) = 1#2)
  ∧ (∀ a, Memory.byte State.reset.mem a = 0#8)
  ∧ State.reset.reqs = [] ∧ State.reset.ctxs = [] ∧ State.reset.launches = [] ∧ State.reset.queues = []
  ∧ State.reset.pod.pos = none ∧ State.reset.memwin = none
  ∧ exec .powerUpReset { State.reset with cycle := 5 } = .next State.reset

/-- R3, R73, R79 to R81, R84, R105, R161, R222, R242, R378: the events of a slot between two words. A turn without an
issue counts in WASTED while the slot is bound, and is the turn forgone for a replay once its register is full; a target
fault traps with the offset of the first word that has not issued, the turn counting in WASTED where the slot is parked or in drain
mode; a parked slot whose word passes every check is RUNNING;
4,096 cycles after the mark of pre-emption drain mode begins, with a summary asked for every item whose outcome is unknown;
a result of a pipeline fills its register and closes its window. That drain mode asks for every summary is the model's choice (log
entry 20, DEDUCED), and so is that a turn lost to throttling is not the turn forgone for a replay (log entry 83, DEDUCED). -/
def Obligations.SlotEvents : Prop :=
  ∀ (s : State) (sl : Nat), let x := s.slot sl
  (x.st ≠ .free → x.st ≠ .disabled → x.ending = none → ∃ t r, exec (.wastedTurn sl) s = .next t
      ∧ OnSlot s t sl (fun y => { y with cnt := y.cnt.set cntWasted (y.cnt.get cntWasted + 1#64), replay := r })
      ∧ (∀ k, x.replay = some k → inMask x.pres k = false ∨ inMask x.pend k = true → r = some k)
      ∧ (∀ k, x.replay = some k → inMask x.pres k = true → inMask x.pend k = false →
          x.st = .running ∨ x.st = .parked ∧ x.reason ≠ .idle → fullSpeed s (nodeOfSlot sl) → r = none))
  ∧ (x.st = .free ∨ x.st = .disabled → exec (.wastedTurn sl) s = .next s)
  ∧ (∀ f, s.cur = sl → Handles s → x.tfault = some f →
      let wasted := x.st = .parked ∨ x.drain = true
      let traps := fun (u : State) => ∃ t : State, exec (.targetFaultTrap sl) s = .next t
        ∧ TrapsTo u t f.cause f.faddr f.finfo x.pc ∧ (t.slot sl).tfault = none
      (¬ wasted → traps s) ∧ (wasted → traps (onSlot (fun y => y.count cntWasted) s)))
  ∧ (∀ i, s.cur = sl → x.st = .parked → x.reason ≠ .idle → x.ending = none → fetch s sl = .ok i → Issues s i →
      ∃ t : State, exec (.parkResume sl) s = .next t ∧ OnSlot s t sl (fun y => { y with st := .running, reason := .none }))
  ∧ (∀ p, x.pre = some p → p + 4096 ≤ s.cycle → x.drain = false → ∃ t l, exec (.drainTimeout sl) s = .next t
      ∧ OnSlot s t sl (fun y => { y with drain := true, asked := l }) ∧ (∀ a ∈ x.asked, a ∈ l)
      ∧ (∀ i ∈ x.items, ∀ q, i.tag < 4 → i.known = false → i.seq < (x.tagItems i.tag).length → i.peer = some q →
          ∃ a ∈ l, a.tag = i.tag ∧ a.peer = q ∧ i.seq < a.upto))
  ∧ (∀ i m p before after, i = .functionResult sl ∧ m = false ∨ i = .meanResult sl ∧ m = true →
      FirstIn (fun q => q.sl = sl ∧ q.mean = m ∧ q.due ≤ s.cycle) s.pipe before p after →
      (∀ q ∈ before ++ after, q.id ≠ p.id) →
      (x.th = p.th → ∃ t : State, exec i s = .next t ∧ t.pipe = before ++ after
        ∧ (t.slot sl).rv p.dest = p.val ∧ inMask (t.slot sl).pres (vcode p.dest) = true
        ∧ (∀ c, inMask (t.slot sl).pend c = (inMask x.pend c && decide (c ≠ vcode p.dest)))
        ∧ (t.slot sl).wins = x.wins.filter (fun w => decide (w.id ≠ p.id))
        ∧ SameRegs x (t.slot sl) [vcode p.dest] ∧ SameSpecials x (t.slot sl)
        ∧ (t.slot sl).pc = x.pc ∧ (t.slot sl).st = x.st ∧ (t.slot sl).cnt = x.cnt ∧ SameElse s t sl)
      ∧ (x.th ≠ p.th → exec i s = .next { s with pipe := before ++ after }))

/-- R158, R160, R161, R164, R165, R193, R195, R199 to R202: the way of a request. The network port takes a slot's oldest entry when
its bucket covers it, charges the bucket and puts it in its route set, or sends it to the other module in the slot's class, but not
while an earlier relaxed access to the same bytes there is unsettled; another module's request pays where it enters; the front of a
path enters its bank queue; the head of a bank queue is performed and its reply sent, a relaxed item settling there, or it waits
in the list of its core while a word state blocks it; a changed word state begins a wake walk, in which the first entry that can is
performed next and, where none can, every entry of the word misses, with SYNCLIM at its limit; an access that a full list refused is
sent again; the last reply of an access fills the destination, closes the window and counts for SPAWNAT, and a fault leaves the old
value and traps at the next turn, or, relaxed, fills 0 and stands in the deferred-fault record. -/
def Obligations.RequestEvents : Prop :=
  (∀ (s : State) (sl : Nat) (th : Thread) (r : Req), r ∈ s.reqs → r.own = .slot sl th → r.stage = .outbound →
    (∀ q ∈ s.reqs, q.ofSlot sl = true → q.stage = .outbound → q = r ∨ r.stamp < q.stamp) → r.rl = false →
    let n := nodeOfSlot sl
    let cost := max 1 ((r.op.size + 63) / 64)
    let kept := fun (t : State) => (∃ l, t.slot sl = { s.slot sl with accs := l }
        ∧ (∀ a ∈ l, a ∈ (s.slot sl).accs)
        ∧ (∀ a ∈ (s.slot sl).accs, a.id ≠ r.acc ∨ a.relaxed = false ∨ a.dest ≠ .none → a ∈ l)
        ∧ ((∀ q ∈ s.reqs, q.acc = r.acc → q.stage = .outbound → q = r) →
            ∀ a ∈ l, a.id ≠ r.acc ∨ a.relaxed = false ∨ a.dest ≠ .none))
      ∧ SameMemory s t
    (∀ pos, r.tgt ≠ .remote pos) →
      ((∀ ch, r.tgt ≠ .hbm ch) → ∃ t : State, exec (.portAccept sl) s = .next t ∧ t.reqs = restaged s r.id .route
        ∧ kept t ∧ OnlyAt s t [sl] [] [] [] ∧ SameModule s t)
      ∧ (∀ ch, r.tgt = .hbm ch → cost ≤ (s.bucket n r.ctx).hbm → ∃ t : State, exec (.portAccept sl) s = .next t
        ∧ t.reqs = restaged s r.id .route ∧ (t.bucket n r.ctx).hbm = (s.bucket n r.ctx).hbm - cost
        ∧ (∀ c, c ≠ r.ctx → t.bucket n c = s.bucket n c) ∧ kept t ∧ OnlyAt s t [sl] [] [] [n] ∧ SameModule s t)
      ∧ (∀ ch, r.tgt = .hbm ch → (s.bucket n r.ctx).hbm < cost →
        exec (.portAccept sl) s = .next (s.setBucket n r.ctx { s.bucket n r.ctx with hbmAct := true })))
  ∧ (∀ (s : State) (sl : Nat) (th : Thread) (r : Req) (pos : Nat), r ∈ s.reqs → r.own = .slot sl th → r.stage = .outbound →
    (∀ q ∈ s.reqs, q.ofSlot sl = true → q.stage = .outbound → q = r ∨ r.stamp < q.stamp) → r.rl = false →
    r.tgt = .remote pos → (∀ q ∈ s.reqs, q.ofSlot sl = true → q.relaxed = true → q.tgt = .remote pos → r.id ≤ q.id) →
    pos ∉ s.pod.lost → max 1 ((r.op.size + 63) / 64) ≤ (s.bucket (nodeOfSlot sl) r.ctx).fab →
    ∃ t o, exec (.portAccept sl) s = .next t ∧ t.reqs = restaged s r.id (.sent s.cycle) ∧ t.pod.out = s.pod.out ++ [o]
      ∧ o.req = some r.id ∧ o.hdr.dst = BitVec.ofNat 10 pos ∧ o.hdr.seq = Tab.get 0#32 s.pod.nextSeq pos
      ∧ ((s.slot sl).th = th → o.hdr.cls = BitVec.ofNat 2 (s.slot sl).cls)
      ∧ Tab.get 0#32 t.pod.nextSeq pos = Tab.get 0#32 s.pod.nextSeq pos + 1#32
      ∧ (t.bucket (nodeOfSlot sl) r.ctx).fab = (s.bucket (nodeOfSlot sl) r.ctx).fab - max 1 ((r.op.size + 63) / 64)
      ∧ SameMemory s t ∧ OnlyAt s t [sl] [] [] [nodeOfSlot sl])
  ∧ (∀ (s : State) (sl : Nat) (th : Thread) (r q : Req) (pos : Nat), r ∈ s.reqs → r.own = .slot sl th → r.stage = .outbound →
    (∀ k ∈ s.reqs, k.ofSlot sl = true → k.stage = .outbound → k = r ∨ r.stamp < k.stamp) → r.tgt = .remote pos →
    q ∈ s.reqs → q.ofSlot sl = true → q.relaxed = true → q.tgt = .remote pos → q.id < r.id → q.acc ≠ r.acc →
    q.stage.isReplied = false → q.op.isLanding = false → r.op.isLanding = false → overlaps q.op q.loc r.op r.loc = true →
    ∃ t l, exec (.portAccept sl) s = .next t ∧ OnSlot s t sl (fun y => { y with asked := l }))
  ∧ (∀ (s : State) (id : Nat) (r : Req), s.req? id = some r → r.stage = .route → r.op.isLanding = false →
    (∀ q ∈ s.reqs, q.stage = .route → q.src = r.src → q.tgt.meets r.tgt = true → q.op.vc = r.op.vc → r.stamp ≤ q.stamp) →
    exec (.routeDeliver id) s = .next { s with reqs := restaged s id .queued, nextId := s.nextId + 1 })
  ∧ (∀ (s : State) (id : Nat) (r : Req), s.req? id = some r → r.stage = .port →
    (∀ q ∈ s.reqs, q.stage = .port → q.src = r.src → r.stamp ≤ q.stamp) →
    let n := r.src % nodeCount
    let cost := max 1 ((r.op.size + 63) / 64)
    (cost ≤ (s.bucket n r.ctx).hbm → ∃ t : State, exec (.routeDeliver id) s = .next t ∧ t.reqs = restaged s id .route
      ∧ (t.bucket n r.ctx).hbm = (s.bucket n r.ctx).hbm - cost ∧ (∀ c, c ≠ r.ctx → t.bucket n c = s.bucket n c)
      ∧ SameMemory s t ∧ OnlyAt s t [] [] [] [n] ∧ SameModule s t)
    ∧ ((s.bucket n r.ctx).hbm < cost →
      exec (.routeDeliver id) s = .next (s.setBucket n r.ctx { s.bucket n r.ctx with hbmAct := true })))
  ∧ (∀ (s : State) (id sl c : Nat) (th : Thread) (banks : BitVec 4) (r : Req), s.req? id = some r → r.own = .slot sl th →
    r.stage = .queued → r.tgt = .store c banks →
    (∀ q ∈ s.reqs, q.stage = .queued → q.tgt.meets r.tgt = true → r.stamp ≤ q.stamp) →
    (∀ w ∈ wordsOf r.op r.loc, w / 8 ∉ s.bad ∧ w / 8 ∉ s.corr) → (s.core c).walks = [] →
    (∀ q ∈ s.reqs, q.ofSlot sl = true → q.id < r.id → q.stage.unperformed = true → q.tgt.storeCore = some c →
      overlaps q.op q.loc r.op r.loc = false) →
    (∀ j ∈ (s.core c).waitl, ∀ q, s.req? j = some q → q.tgt.meets r.tgt = true → performable s c q = false) →
    let d := performOp s r.node r.op r.loc
    ((∀ k, (s.core k).waitl = []) → (∀ w ∈ wordsOf r.op r.loc, r.op.blockedBy (s.wordState w) = false) →
      ∃ t : State, exec (.bankPerform (.request id)) s = .next t ∧ SameMemory d.st t ∧ OnlyAt s t [sl] [] [] [] ∧ SameModule s t
        ∧ (r.item = none → t.reqs = restaged s id (.replied d.val (r.fault? d.fault)) ∧ t.slot sl = s.slot sl)
        ∧ (∀ g n, r.item = some (g, n) → d.fault = none → (s.slot sl).th = th → (s.slot sl).ending = none →
            (∀ i ∈ (s.slot sl).items, i.tag = g → i.seq = n → i.fault = none) → t.reqs = without s id ∧ t.slot sl = { s.slot sl with items := settledItems (s.slot sl) g n 0#8 }))
    ∧ ((s.core c).waitl.length < 64 →
      (∃ w ∈ wordsOf r.op r.loc, r.op.blockedBy (s.wordState w) = true) →
      ∃ t : State, exec (.bankPerform (.request id)) s = .next t
        ∧ t.reqs = s.reqs.map (fun q => if q.id = id then
            { q with stage := .waiting c, stamp := s.nextId, noticeAt := s.cycle + 175000 } else q)
        ∧ t.core c = { s.core c with waitl := (s.core c).waitl ++ [id] } ∧ SameMemory s t ∧ OnlyAt s t [] [c] [] []
        ∧ SameModule s t)
    ∧ (∀ w, (∀ k ∈ wordsOf r.op r.loc, r.op.blockedBy (s.wordState k) = false) → r.item = none → wordsOf r.op r.loc = [w] →
      isStore w = true → (w - 0x20000000000) / 32768 = c → d.st.wordState w ≠ s.wordState w → id ∉ (s.core c).waitl →
      (s.core c).waitl.Nodup →
      let u := d.st.stageReq id (.replied d.val (r.fault? d.fault))
      let mine := fun (j : Nat) (q : Req) => j ∈ (s.core c).waitl ∧ s.req? j = some q ∧ touches q w = true
      ((∀ j q, mine j q → performable u c q = false) →
        ∃ t : State, exec (.bankPerform (.request id)) s = .next t ∧ SameMemory d.st t ∧ (t.core c).walks = []
          ∧ (∀ j q, mine j q → q.limit = 0 ∨ q.misses + 1 < q.limit →
              t.req? j = some { q with misses := q.misses + 1 } ∧ j ∈ (t.core c).waitl)
          ∧ (∀ j q, mine j q → q.limit ≠ 0 → q.limit ≤ q.misses + 1 → j ∉ (t.core c).waitl
              ∧ ((∃ k o, q.own = .slot k o) → q.item = none →
                  ∃ p, t.req? j = some p ∧ p.stage = .replied 0#256 (some (q.faultInfo 0x07#8 1)))))
      ∧ (∀ before j after q, (s.core c).waitl = before ++ j :: after → mine j q → performable u c q = true →
        (∀ k p, k ∈ before → mine k p → performable u c p = false) →
        ∃ t : State, exec (.bankPerform (.request id)) s = .next t ∧ SameMemory d.st t ∧ t.reqs = u.reqs
          ∧ t.core c = { s.core c with walks := [{ word := w, rest := j :: after, again := false }] })))
  ∧ (∀ (s : State) (j c w sl : Nat) (th : Thread) (again : Bool) rest (q : Req), s.req? j = some q → q.stage = .waiting c →
    q.tgt.storeCore = some c → q.own = .slot sl th → q.item = none → j ∈ (s.core c).waitl →
    (s.core c).walks = [{ word := w, rest := j :: rest, again := again }] → touches q w = true → performable s c q = true →
    (∀ k ∈ wordsOf q.op q.loc, k / 8 ∉ s.bad ∧ k / 8 ∉ s.corr) →
    let d := performOp s q.node q.op q.loc
    ∃ t p, exec (.bankPerform (.request j)) s = .next t ∧ SameMemory d.st t ∧ t.req? j = some p
      ∧ p.stage = .replied d.val (q.fault? d.fault) ∧ j ∉ (t.core c).waitl
      ∧ ((t.core c).walks = [] ∨ ∃ n, (t.core c).walks = [n] ∧ n.word = w ∧ n.rest ≠ []))
  ∧ (∀ (s : State) (id k : Nat) (r : Req), s.req? id = some r → r.stage = .retry k → k ≤ s.cycle →
    exec (.waitListRetry id) s = .next { s with reqs := restaged s id .route, nextId := s.nextId + 1 })
  ∧ (∀ (s : State) (id sl : Nat) (r : Req) (a : Acc) (v : Vec) (d : Reg) (n : Nat) (f : Option FaultInfo),
    let x := s.slot sl
    s.req? id = some r → r.stage = .replied v f → r.own = .slot sl x.th → r.item = none → r.part = 0 → x.ending = none →
    x.accs.find? (fun b => decide (b.id = r.acc)) = some a → a.left = 1 → a.fault = none → a.data = [] → a.dest = .g d →
    n ∈ [1, 2, 4, 8] → a.fill = .sx n ∨ a.fill = .zx n →
    let closed := fun (t : State) => t.reqs = without s id
      ∧ (t.slot sl).wins = x.wins.filter (fun w => decide (w.id ≠ a.id))
      ∧ (t.slot sl).accs = x.accs.filter (fun b => decide (b.id ≠ a.id))
      ∧ inMask (t.slot sl).pres (gcode d) = true
      ∧ (∀ c, inMask (t.slot sl).pend c = (inMask x.pend c && decide (c ≠ gcode d)))
      ∧ SameRegs x (t.slot sl) [gcode d] ∧ SameModes x (t.slot sl)
      ∧ (t.slot sl).pc = x.pc ∧ (t.slot sl).st = x.st ∧ (t.slot sl).cnt = x.cnt ∧ SameElse { s with reqs := t.reqs } t sl
    (f = none → ∃ t : State, exec (.reply id) s = .next t ∧ closed t ∧ SameTraps x (t.slot sl) ∧ (t.slot sl).tfault = x.tfault
      ∧ (t.slot sl).rg d = if a.fill = .zx n then wd (v.toNat % 2 ^ (8 * n)) else wi (Int.bmod v.toNat (2 ^ (8 * n))))
    ∧ (∀ e, f = some e → a.relaxed = false → ∃ t : State, exec (.reply id) s = .next t ∧ closed t ∧ SameTraps x (t.slot sl)
      ∧ (t.slot sl).rg d = x.rg d ∧ (t.slot sl).tfault = some e)
    ∧ (∀ e, f = some e → a.relaxed = true → x.dfr = none → ∃ t : State, exec (.reply id) s = .next t ∧ closed t
      ∧ (t.slot sl).rg d = 0#64 ∧ (t.slot sl).dfr = some e ∧ (t.slot sl).tfault = x.tfault))
  ∧ (∀ (s : State) (id sl : Nat) (r : Req) (a : Acc) (v : Vec) (f : Option FaultInfo),
    let x := s.slot sl
    s.req? id = some r → r.stage = .replied v f → r.own = .slot sl x.th → r.item = none → x.ending = none →
    x.accs.find? (fun b => decide (b.id = r.acc)) = some a → a.fault = none →
    let data := (r.part, v) :: a.data
    let joined := ∃ t : State, exec (.reply id) s = .next t ∧ t.reqs = without s id
      ∧ t.slot sl = { x with accs := x.accs.map (fun b => if b.id = a.id then
          { a with left := a.left - 1, data := data, fault := f.map (fun e => (r.part, e)) } else b) }
      ∧ SameElse { s with reqs := t.reqs } t sl
    let ended := fun (t : State) => exec (.reply id) s = .next t ∧ t.reqs = without s id
      ∧ (t.slot sl).wins = x.wins.filter (fun w => decide (w.id ≠ a.id))
      ∧ (t.slot sl).accs = x.accs.filter (fun b => decide (b.id ≠ a.id))
      ∧ SameModes x (t.slot sl) ∧ SameTraps x (t.slot sl) ∧ (t.slot sl).pc = x.pc ∧ (t.slot sl).st = x.st
    let closed := fun (t : State) (w : List Nat) => ended t ∧ SameRegs x (t.slot sl) w ∧ (t.slot sl).tfault = x.tfault
      ∧ (∀ c ∈ w, inMask (t.slot sl).pres c = true) ∧ SameElse { s with reqs := t.reqs } t sl
      ∧ (∀ c, inMask (t.slot sl).pend c = (inMask x.pend c && decide (c ∉ w)))
    (1 < a.left → joined)
    ∧ (a.left = 1 → f = none → r.part = 0 →
      (∀ d, a.dest = .v d → a.fill = .vec → ∃ t, closed t [vcode d] ∧ (t.slot sl).rv d = v ∧ (t.slot sl).cnt = x.cnt)
      ∧ (∀ d, a.dest = .gg d → a.fill = .plate → ∃ t, closed t [gcode d, gcode (d + 1)] ∧ (t.slot sl).cnt = x.cnt
          ∧ (t.slot sl).rg d = wd (v.toNat % 2 ^ 64) ∧ (t.slot sl).rg (d + 1) = wd (v.toNat / 2 ^ 64 % 2 ^ 64))
      ∧ (∀ d, a.dest = .g d → a.fill = .plate → ∃ t, closed t [gcode d] ∧ (t.slot sl).cnt = x.cnt
          ∧ (t.slot sl).rg d = wd (v.toNat % 2 ^ 64))
      ∧ (a.dest = .none → a.fill = .plate → ∃ t, closed t [] ∧ (t.slot sl).cnt = x.cnt)
      ∧ (∀ d, a.dest = .g d → a.fill = .status → ∃ t, closed t [gcode d] ∧ (t.slot sl).rg d = wd (v.toNat % 2 ^ 64)
          ∧ let k := if v = 0#256 then cntForks else cntInline
            (t.slot sl).cnt = x.cnt.set k (x.cnt.get k + 1#64)))
    ∧ (∀ d (g : BitVec 8) (l c e base : Nat) (m : Nat → BitVec 8), a.left = 1 → f = none → a.dest = .v d →
      a.fill = .planes g l c e base →
      let b : Block := { f := g.toNat, l := l, base := base, e := e, c := c }
      b.legal →
      (∀ k w, (distinct (b.base :: (List.range (if b.rounds then b.depth + 1 else b.depth)).map (fun p => b.piece p / 8 * 8)))[k]?
          = some w → (Tab.get 0#256 data k).toNat % 2 ^ 64 = eightBytes m w) →
      ∃ t, closed t [vcode d] ∧ (t.slot sl).cnt = x.cnt
        ∧ ∀ i < laneCount e, lane e ((t.slot sl).rv d) i = if i < chunkOfCode e then b.loaded m i else 0)
    ∧ (∀ tile p base, a.fill = .table tile p base → a.dest = .none →
      (a.left = 1 → f = none → r.part < 32 → joined)
      ∧ (a.left ≤ 1 → f = none → r.part = 32 → ∃ t : State, ended t ∧ (t.slot sl).tfault = x.tfault
          ∧ t.tile tile = { s.tile tile with tload := none } ∧ OnlyAt s t [sl] [] [tile] [] ∧ SameMemory s t)
      ∧ (∀ e, a.left = 1 → f = some e → a.relaxed = false → ∃ t : State, ended t ∧ (t.slot sl).tfault = some e
          ∧ t.tile tile = { s.tile tile with tload := none } ∧ OnlyAt s t [sl] [] [tile] [] ∧ SameMemory s t)))

/-- R185, R189, R190, R203, R235, R347: a fence marker returns once its item has settled, or all of its words in the fence's scope
have and none of them faulted; a node answers a summary request once every
item that it covers has settled, its hint acknowledged and its fault told; a request for another module leaves with the
numbers of the items whose outcome is unknown and with their batch; with the summary the slot knows the outcomes it covers. That a
fence asks for an item's marker and a module for its summary as they do here, that a request lists no item from a number on that it
names, and that a fault's reply comes before the summary and the marker, are the model's choices (log entries 11, 17, 20 and 71,
DEDUCED). -/
def Obligations.SettlementEvents : Prop :=
  ∀ (s : State) (sl : Nat), let x := s.slot sl
  (∀ g n, n < 64 → (∀ q ∈ s.reqs, q.ofSlot sl = true → q.item ≠ some (g, n) ∨ q.stage.isReplied = false) →
    ∃ t : State, exec (.fenceMarkerReturn sl (64 * g + n)) s = .next t ∧ OnSlot s t sl (fun y => { y with
      items := y.items.map (fun i => if i.tag = g ∧ i.seq = n ∧ i.marker = 1
          ∧ (i.left = 0 ∨ i.fault = none ∧ scopeOpen s sl i.scope i = false) then { i with marker := 2 } else i) }))
  ∧ (∀ (tag : BitVec 2) (peer : Peer) before a after,
    FirstIn (fun b : Ask => b.tag = tag.toNat ∧ b.peer = peer ∧ b.st = .sent) x.asked before a after →
    let moved := fun (st : Asked) (t : State) => OnSlot s t sl (fun y => { y with
      asked := y.asked.map (fun b => if b = a then { b with st := st } else b) })
    (∀ node, peer = .node node →
      (∀ i ∈ x.items, i.tag = a.tag → i.peer = some peer → i.seq < a.upto → i.left = 0 ∧ i.hint = false
        ∧ ∀ q ∈ s.reqs, q.ofSlot sl = true → q.item ≠ some (i.tag, i.seq) ∨ q.stage.isReplied = false) →
      ∃ t : State, exec (.summaryRequest sl tag peer) s = .next t ∧ moved .answered t)
    ∧ (∀ pos, peer = .module pos → pos ∈ s.pod.lost →
      ∃ t : State, exec (.summaryRequest sl tag peer) s = .next t ∧ moved .answered t)
    ∧ (∀ pos, peer = .module pos → pos ∉ s.pod.lost →
      (∀ q ∈ s.reqs, q.ofSlot sl = true → q.stage = .outbound → ∀ j, q.item ≠ some (a.tag, j)) →
      ∃ t o l, exec (.summaryRequest sl tag peer) s = .next t ∧ t.pod.out = s.pod.out ++ [o]
        ∧ o.hdr.dst = BitVec.ofNat 10 pos ∧ o.hdr.vc = 3#2 ∧ o.body = .summaryRequest sl tag (x.batchNo a.tag) l
        ∧ (∀ j, j ∈ l ↔ ∃ i ∈ x.items, i.tag = a.tag ∧ i.peer = some peer ∧ i.seq < a.upto ∧ i.known = false ∧ i.seq = j)
        ∧ (t.slot sl) = { x with asked := before ++ { a with st := .posted s.cycle, items := l, batch := x.batchNo a.tag } :: after }
        ∧ SameMemory s t ∧ OnlyAt s t [sl] [] [] []))
  ∧ (∀ (tag : BitVec 2) (peer : Peer) before a after,
    FirstIn (fun b : Ask => b.tag = tag.toNat ∧ b.peer = peer ∧ b.st = .answered) x.asked before a after →
    ∃ t : State, exec (.summaryReply sl tag peer) s = .next t ∧ OnSlot s t sl (fun y => { y with
      asked := before ++ after,
      items := y.items.map (fun i => if i.tag = a.tag ∧ i.peer = some peer ∧ i.seq < a.upto then { i with known := true } else i) }))

/-- R108, R112, R116 to R120, R375, R406: a value at its home core fills the empty register of the resident thread, waits in
the landing buffer for a full one, or, with the buffer full, stalls the landings of the node; one for a thread that has ended
fails with LAND_EXITED; a held value fails with LAND_TIMEOUT after 1,750,000 cycles; one for a SAVED thread joins the 32
entries of the log of its record by a free hart, or fails with LAND_FULL; a hint enters the sender's route cache and the item's wait
for it ends, an invalidation removes its entry. That the slot's instruction of a cycle goes before a value of that cycle, that a value
without room stands in the way of every landing to its node, that a hint's entry counts as used last, and that the entry of the log
takes one turn of a free hart, are the model's choices (log entries 92, and 12, 80 and 100, DEDUCED). -/
def Obligations.LandingEvents : Prop :=
  (∀ (s : State) (id c sl g n : Nat) (th : Thread) (r : Req) (v : Word), AtCore s id r v c sl th g n →
    let code := r.ea.toNat % 2 ^ 7
    let target := addrThread r.ea
    let b := target.birth
    let y := s.slot b
    let full := inMask y.pres (landSlot code) = true ∨ inMask y.pend (landSlot code) = true
    let room := (s.core c).lbuf.length + (s.core c).reserve < 32
    (y.holds target = true → ¬ full → (code < 32 ∨ 64 ≤ code) → ∃ t : State, exec (.landingArrive id) s = .next t
      ∧ landed y (t.slot b) code v ∧ inMask (t.slot b).pres (landSlot code) = true
      ∧ SettlesAs s t sl th g n 0#8 ∧ t.reqs = without s id ∧ SameMemory s t
      ∧ OnlyAt s t [sl, b] [] [] [nodeOfCore c] ∧ SameModule s t)
    ∧ (y.holds target = true → full → room → ∃ t : State, exec (.landingArrive id) s = .next t
      ∧ t.reqs = restaged s id (.held c)
      ∧ t.core c = { s.core c with lbuf := (s.core c).lbuf ++
          [{ id := id, th := target, addr := r.ea, code := BitVec.ofNat 7 code, val := v, since := s.cycle }] }
      ∧ SameMemory s t ∧ OnlyAt s t [] [c] [] [nodeOfCore c] ∧ SameModule s t)
    ∧ (y.holds target = true → full → ¬ room → ∃ t : State, exec (.landingArrive id) s = .next t
      ∧ t.reqs = s.reqs ∧ (t.node (nodeOfCore c)).landHead = some id
      ∧ SameMemory s t ∧ OnlyAt s t [] [] [] [nodeOfCore c] ∧ SameModule s t)
    ∧ (y.holds target = false → (∀ a ∈ (s.core c).away, a.th ≠ target) → ∃ t : State, exec (.landingArrive id) s = .next t
      ∧ SettlesAs s t sl th g n 1#8 ∧ t.reqs = without s id ∧ SameMemory s t
      ∧ OnlyAt s t [sl] [] [] [nodeOfCore c] ∧ SameModule s t))
  ∧ (∀ (s : State) (id c sl g n : Nat) (th : Thread) (r : Req) (e : Held),
    (s.core c).lbuf.find? (fun h => decide (h.id = id)) = some e → e.since + 1750000 ≤ s.cycle → s.req? id = some r →
    r.own = .slot sl th → r.item = some (g, n) → ∃ t : State, exec (.landingTimeout c id) s = .next t
      ∧ t.core c = { s.core c with lbuf := (s.core c).lbuf.filter (fun h => decide (h.id ≠ id)) }
      ∧ SettlesAs s t sl th g n 3#8 ∧ t.reqs = without s id ∧ SameMemory s t ∧ OnlyAt s t [sl] [c] [] [] ∧ SameModule s t)
  ∧ (∀ (s : State) (id sl : Nat) (th : Thread) (r : Req) (v : Word) (d : Option Nat) (f : Bool) (a : Away),
    s.req? id = some r → r.stage = .log → r.op = .landing v d f →
    (∀ q ∈ s.reqs, q.stage = .log → addrThread q.ea = addrThread r.ea → r.stamp ≤ q.stamp) →
    (s.core (homeCore r.ea)).away.find? (fun k => decide (k.th = addrThread r.ea)) = some a → a.st = .saved →
    r.own = .slot sl th → FreeHart s (nodeOfCore (homeCore r.ea)) →
    let b := recordAddr s a.ctx a.recNo
    let k := Memory.readNat s.mem (b + 0x578) 8 % 64
    let node := nodeOfCore (homeCore r.ea)
    (b + 0x578) / 8 ∉ s.bad →
    (∀ g n, r.item = some (g, n) → 32 ≤ k → ∃ t : State, exec (.logAppend id) s = .next t ∧ SettlesAs s t sl th g n 2#8
      ∧ t.reqs = without s id ∧ SameMemory s t ∧ OnlyAt s t [sl] [] [] [node] ∧ (t.node node).harts = (s.node node).harts)
    ∧ (∀ g n, r.item = some (g, n) → k < 32 → ∃ t : State, exec (.logAppend id) s = .next t ∧ SettlesAs s t sl th g n 0#8
      ∧ t.reqs = without s id ∧ Memory.readNat t.mem (b + 0x600 + 16 * k) 8 = r.ea.toNat
      ∧ Memory.readNat t.mem (b + 0x608 + 16 * k) 8 = v.toNat ∧ Memory.readNat t.mem (b + 0x578) 8 = k + 1
      ∧ BytesBut s t [(b + 0x578, 8), (b + 0x600 + 16 * k, 16)] ∧ OnlyAt s t [sl] [] [] [node]
      ∧ (t.node node).harts = (s.node node).harts ∧ SameModule s t))
  ∧ (∀ (s : State) (id sl : Nat) (th : Thread) (h : Hint) (e : Instr), s.hints.find? (fun k => decide (k.id = id)) = some h →
    h.own = .slot sl th → (s.slot sl).th = th →
    (∀ k ∈ s.hints, k.own = h.own → k.handle = h.handle → k.id < h.id → k.posted = true) →
    e = .routeHint id ∧ h.core.isSome = true ∨ e = .routeInvalidate id ∧ h.core = none →
    let rest := (s.slot sl).routes.filter (fun p => decide (p.1 ≠ h.handle))
    ∃ t : State, exec e s = .next t ∧ t.hints = s.hints.filter (fun k => decide (k.id ≠ id))
      ∧ (∀ c, h.core = some c → (t.slot sl).routes = ((h.handle, c) :: rest).take 16)
      ∧ (h.core = none → (t.slot sl).routes = rest)
      ∧ (∀ g n, h.core.isSome = true → h.item = some (g, n) → (t.slot sl).items = (s.slot sl).items.map (fun i =>
          if i.tag = g ∧ i.seq = n then { i with hint := false } else i))
      ∧ (h.core = none → (t.slot sl).items = (s.slot sl).items)
      ∧ SameRegs (s.slot sl) (t.slot sl) [] ∧ SameTraps (s.slot sl) (t.slot sl) ∧ SameElse s t sl)

/-- R90 to R93, R97, R432: after the core's own issue stage, one entry or removal a cycle, the bottom-most record of its launch goes to an IDLE slot of the core, or, where no slot is IDLE and the tile
holds its code, to a FREE one; an IDLE slot whose core has no
record probes; a probed core marks its top-most record and sends it, or replies empty; the thief core pushes it, or, full,
refuses it; the victim drops an accepted record and frees a refused one; a round without a record is followed by 1,024
cycles of waiting; a spawned record is pushed, or answered 1 by a full deque and 2 by a core without a slot of the launch, or one
whose node's part is complete. The order within a cycle, that the taker is chosen first where the deque holds records of several
launches, that a round ends once its slot is not IDLE, and that the answer 2 goes before 1, to a record for the sender's own core too,
are the model's choices (log entries 92, 43, DEDUCED, and 112). -/
def Obligations.TaskEvents : Prop :=
  (∀ (s : State) (c sl k : Nat) (l : Launch) (r : Task) before after, sl / 8 = c → s.launch? k = some l →
    (IdleOf (s.slot sl) k ∧ (∀ j, j / 8 = c → j < sl → ∀ m, ¬ IdleOf (s.slot j) m)
      ∨ (s.slot sl).st = .free ∧ (∀ j, j / 8 = c → (∀ m, ¬ IdleOf (s.slot j) m) ∧ (j < sl → (s.slot j).st ≠ .free))
        ∧ (s.tile (sl / 32)).hold0 = some { launch := k, loaded := true } ∧ (s.tile (sl / 32)).hold1 = none) →
    (s.core c).deque = before ++ r :: after → r.transit = false → r.launch = k →
    (∀ q ∈ after, q.transit = true ∨ q.launch ≠ k) → StageOver s c → (s.core c).dequeAt ≠ s.cycle + 1 →
    ∃ t : State, exec (.taskTake c) s = .next t
      ∧ t.core c = { s.core c with deque := before ++ after, dequeAt := s.cycle + 1 }
      ∧ BornFrom (s.slot sl) (t.slot sl) sl k l r ∧ SameMemory s t ∧ OnlyAt s t [sl] [c] [] [] ∧ SameModule s t)
  ∧ (∀ (s : State) (sl k : Nat) (l : Launch), let c := sl / 8
    IdleOf (s.slot sl) k → (s.slot sl).retryAt ≤ s.cycle → (s.core c).probe = none → s.launch? k = some l →
    l.pkt.domain = 1 → (∀ q ∈ (s.core c).deque, q.launch ≠ k) →
    ∃ t : State, exec (.stealRetry sl) s = .next t ∧ SameMemory s t ∧ OnlyAt s t [] [c] [] [] ∧ SameModule s t
      ∧ t.core c = { s.core c with probe := some (.asked sl k [[c / 4 * 4 + (c + 1) % 4], [c / 4 * 4 + (c + 2) % 4],
          [c / 4 * 4 + (c + 3) % 4]]) })
  ∧ (∀ (s : State) (c sl k v : Nat) rest, (s.core c).probe = some (.asked sl k ([v] :: rest)) → v ≠ c →
    (∀ before r after, FirstIn (fun q : Task => q.transit = false ∧ q.launch = k) (s.core v).deque before r after →
      ∃ t : State, exec (.stealProbe c) s = .next t
        ∧ t.core v = { s.core v with deque := before ++ { r with transit := true } :: after }
        ∧ t.core c = { s.core c with probe := some (.record sl k rest v r) }
        ∧ SameMemory s t ∧ OnlyAt s t [] [v, c] [] [] ∧ SameModule s t)
    ∧ ((∀ q ∈ (s.core v).deque, q.transit = true ∨ q.launch ≠ k) → ∃ t : State, exec (.stealProbe c) s = .next t
        ∧ t.core c = { s.core c with probe := some (.empty sl k rest) }
        ∧ SameMemory s t ∧ OnlyAt s t [] [c] [] [] ∧ SameModule s t))
  ∧ (∀ (s : State) (c sl k v : Nat) rest (r : Task), (s.core c).probe = some (.record sl k rest v r) → StageOver s c →
    (s.core c).dequeAt ≠ s.cycle + 1 →
    let answered := fun (t : State) (ok : Bool) => (t.core c).answers = (s.core c).answers ++ [(v, r, ok)]
      ∧ OnlyProbeTimes s t ∧ SameMemory s t ∧ (∀ i, i ≠ c → t.core i = s.core i) ∧ SameModule s t
    ((s.core c).deque.length < 32 → ∃ t : State, exec (.stealRecordArrive c) s = .next t ∧ answered t true
      ∧ (t.core c).deque = (s.core c).deque ++ [{ r with stolen := true }] ∧ (t.core c).probe = none)
    ∧ (32 ≤ (s.core c).deque.length → ∃ t : State, exec (.stealRecordArrive c) s = .next t ∧ answered t false
      ∧ (t.core c).deque = (s.core c).deque
      ∧ (t.core c).probe = if rest = [] ∨ idleFor (s.slot sl) k = false then none else some (.asked sl k rest)))
  ∧ (∀ (s : State) (c sl k : Nat) rest, (s.core c).probe = some (.empty sl k rest) → IdleOf (s.slot sl) k →
    (rest = [] → ∃ t : State, exec (.probeEmptyReply c) s = .next t ∧ t.core c = { s.core c with probe := none }
      ∧ t.slot sl = { s.slot sl with retryAt := s.cycle + 1024 } ∧ SameMemory s t ∧ OnlyAt s t [sl] [c] [] [] ∧ SameModule s t)
    ∧ (rest ≠ [] → ∃ t : State, exec (.probeEmptyReply c) s = .next t
      ∧ t.core c = { s.core c with probe := some (.asked sl k rest) } ∧ SameMemory s t ∧ OnlyAt s t [] [c] [] [] ∧ SameModule s t))
  ∧ (∀ (s : State) (c v : Nat) (r : Task) (ok : Bool) rest before after, (s.core c).answers = (v, r, ok) :: rest → v ≠ c →
    FirstIn (fun q => q = { r with transit := true }) (s.core v).deque before { r with transit := true } after →
    (ok = true → StageOver s v ∧ (s.core v).dequeAt ≠ s.cycle + 1) →
    ∃ t : State, exec (.thiefAnswer c) s = .next t ∧ t.core c = { s.core c with answers := rest }
      ∧ t.core v = (if ok then { s.core v with deque := before ++ after, dequeAt := s.cycle + 1 }
          else { s.core v with deque := before ++ r :: after })
      ∧ SameMemory s t ∧ OnlyAt s t [] [v, c] [] [] ∧ SameModule s t)
  ∧ (∀ (s : State) (id sl c : Nat) (th : Thread) (r : Req) (q : Task), s.req? id = some r → r.op = .spawn q →
    r.tgt = .deque c → r.own = .slot sl th → r.item = none → r.stage = .queued →
    (∀ p ∈ s.reqs, p.stage = .queued → p.tgt.meets r.tgt = true → r.stamp ≤ p.stamp) →
    StageOver s c → (s.core c).dequeAt ≠ s.cycle + 1 →
    let bound := (∃ p, s.part? q.launch (nodeOfCore c) = some p ∧ p.complete = false)
      ∧ ∃ i, i / 8 = c ∧ (s.slot i).st ≠ .free ∧ (s.slot i).st ≠ .disabled ∧ (s.slot i).launch = q.launch
    let answers := fun (t : State) (v : Vec) => t.reqs = restaged s id (.replied v none) ∧ OnlyProbeTimes s t ∧ SameMemory s t
      ∧ (∀ i, i ≠ c → t.core i = s.core i) ∧ SameModule s t
    (bound → (s.core c).deque.length < 32 → ∃ t : State, exec (.spawnArrive id) s = .next t ∧ answers t 0#256
      ∧ t.core c = { s.core c with deque := (s.core c).deque ++ [q], dequeAt := s.cycle + 1 })
    ∧ (bound → 32 ≤ (s.core c).deque.length → ∃ t : State, exec (.spawnArrive id) s = .next t ∧ answers t 1#256 ∧ t.core c = s.core c)
    ∧ (¬ bound → ∃ t : State, exec (.spawnArrive id) s = .next t ∧ answers t 2#256 ∧ t.core c = s.core c))

/-- R102, R103, R366, R370, R372, R432: with every share seeded, every slot of the launch on the node IDLE, and no record,
probe, away thread, command or contribution of it left there, the node's part is complete and its slots are FREE; once the
parts below have sent theirs, a node's word is combined into its parent's, field by field, and the root's completes the
launch: the status word, then the value, are written to its signal pair. What a contribution away from its birth node counts for is
the model's choice (log entry 44, DEDUCED). -/
def Obligations.LaunchEndEvents : Prop :=
  (∀ (s : State) (node k : Nat) (p : Part), s.part? k node = some p → p.complete = false → p.pins = [] →
    (∀ h ∈ p.shares, h.seeded = true) →
    (∀ e ∈ s.slots, nodeOfSlot e.1 = node → e.2.launch = k → e.2.st = .free ∨ e.2.st = .disabled ∨ IdleOf (s.slot e.1) k) →
    (∀ e ∈ s.cores, nodeOfCore e.1 = node → (∀ r ∈ e.2.deque, r.launch ≠ k) ∧ e.2.probe = none
      ∧ ∀ a ∈ e.2.away, a.launch ≠ k) →
    (∀ c ∈ allCmds s, c.launch ≠ k) → (∀ c ∈ s.contribs, c.1 ≠ k) →
    ∃ t : State, exec (.nodePartComplete node k) s = .next t ∧ t.part? k node = some { p with complete := true }
      ∧ (∀ sl, nodeOfSlot sl = node → IdleOf (s.slot sl) k → t.slot sl = { s.slot sl with st := .free, reason := .none })
      ∧ (∀ sl, (∀ e ∈ s.slots, e.1 = sl → nodeOfSlot sl ≠ node ∨ e.2.launch ≠ k ∨ e.2.st = .free ∨ e.2.st = .disabled) →
          t.slot sl = s.slot sl)
      ∧ SameMemory s t ∧ t.ctxs = s.ctxs ∧ t.queues = s.queues ∧ t.hostMem = s.hostMem)
  ∧ (∀ (s : State) (node k : Nat) (l : Launch) (p : Part) before after, s.launch? k = some l → l.st = .placed →
    FirstIn (fun q : Part => q.node = node) l.parts before p after → (∀ q ∈ after, q.node ≠ node) →
    p.complete = true → p.sent = false →
    (∀ i q, (l.parts.drop i).head? = some q → i ≠ 0 → (i - 1) / 4 = before.length → q.sent = true) →
    (before = [] → l.pkt.sig ≠ 0#64 → l.pkt.sig.toNat < 2 ^ 63 → l.pkt.sig.toNat % 16 = 0 →
      let a := l.pkt.sig.toNat
      ∃ t : State, exec (.doneMessage node k) s = .next t ∧ (∃ m, t.launch? k = some m ∧ m.st = .done)
        ∧ Memory.readNat t.hostMem (a + 8) 8 = p.word.toNat ∧ Memory.readNat t.hostMem a 8 = l.pkt.val.toNat
        ∧ (∀ b, b < a ∨ a + 16 ≤ b → Memory.byte t.hostMem b = Memory.byte s.hostMem b)
        ∧ SameMemory s t ∧ OnlyAt s t [] [] [] [])
    ∧ (∀ up, (l.parts.drop ((before.length - 1) / 4)).head? = some up → before ≠ [] → up.node ≠ node →
      (∀ q ∈ l.parts, q.node = up.node → q = up) →
      ∃ t w, exec (.doneMessage node k) s = .next t ∧ t.part? k node = some { p with sent := true }
        ∧ t.part? k up.node = some { up with word := w }
        ∧ w.toNat / 2 ^ 56 = max (up.word.toNat / 2 ^ 56) (p.word.toNat / 2 ^ 56)
        ∧ w.toNat / 2 ^ 32 % 2 ^ 24 = min (up.word.toNat / 2 ^ 32 % 2 ^ 24 + p.word.toNat / 2 ^ 32 % 2 ^ 24) (2 ^ 24 - 1)
        ∧ w.toNat / 2 ^ 16 % 2 ^ 16 = ((up.word ||| p.word).toNat) / 2 ^ 16 % 2 ^ 16
        ∧ w.toNat % 2 ^ 16 = min (up.word.toNat % 2 ^ 16 + p.word.toNat % 2 ^ 16) (2 ^ 16 - 1)
        ∧ SameMemory s t ∧ OnlyAt s t [] [] [] [] ∧ t.hostMem = s.hostMem))

/-- R54 to R56, R206, R258 to R268, R276 to R281, R307: a latched command enters its queue in order and its window closes; a pending
pre-emption takes every command of engines 0 and 1 that neither has taken out of latch and queues instead, one of engine 2 goes on,
and those taken out come back first; the
Burin takes the next command in core rotation, an MMAZ into the lowest FREE place with accumulators 0, an RFREE freeing the
place of its tile; the step that an MMA's last operand word completes adds the group of row r to the eight accumulators of
the row; the command completes when its array time has passed, or stops at a granule boundary for a pre-emption; CONFL rises in
each cycle in which the array is free and the pass waits for a word of A, whatever the slot has since become; an EPI begins once no MMA of its tile is left, writes its
results, and its completion sets its tag and frees the place. The order of an engine's reads and writes, CONFL's cycles, where stopped
commands stand and the order within a cycle are the model's choices (log entries 23, 24, 37, 45, DEDUCED, and 79, 92). -/
def Obligations.EngineEvents : Prop :=
  (∀ (s : State) (sl : Nat) (c : Cmd), let k := sl / 8
    (s.slot sl).latch = some c → (queueFor (s.core k) c.kind).length < 4 → (s.slot c.sl).pre = none → (s.slot sl).stopped = [] →
    AccessesDone s sl c.id →
    (c.kind.engine ≠ 2 → ∀ i d, i / 8 = k → (s.slot i).latch = some d → d.kind.engine = c.kind.engine → c.id ≤ d.id) →
    ∃ t : State, exec (.engineDispatch sl) s = .next t ∧ queueFor (t.core k) c.kind = queueFor (s.core k) c.kind ++ [c]
      ∧ (∀ e : CmdKind, e.engine ≠ c.kind.engine → queueFor (t.core k) e = queueFor (s.core k) e)
      ∧ t.slot sl = { s.slot sl with latch := none, wins := (s.slot sl).wins.filter (fun w => decide (w.id ≠ c.id)) }
      ∧ SameMemory s t ∧ OnlyAt s t [sl] [k] [] [] ∧ SameModule s t)
  ∧ (∀ (s : State) (sl : Nat) (c : Cmd) rest, let k := sl / 8
    (s.slot sl).stopped = c :: rest → (∀ d, (s.slot sl).latch = some d → (s.slot d.sl).pre = none ∧ d.kind.engine ≠ 2) →
    (queueFor (s.core k) c.kind).length < 4 → AccessesDone s sl c.id →
    (c.kind.engine ≠ 2 → ∀ i d, i / 8 = k → (s.slot i).latch = some d → d.kind.engine = c.kind.engine → c.id ≤ d.id) →
    (s.slot c.sl).pre = none → ∃ t : State, exec (.engineDispatch sl) s = .next t
      ∧ queueFor (t.core k) c.kind = queueFor (s.core k) c.kind ++ [c] ∧ t.slot sl = { s.slot sl with stopped := rest }
      ∧ SameMemory s t ∧ OnlyAt s t [sl] [k] [] [] ∧ SameModule s t)
  ∧ (∀ (s : State) (sl : Nat) (c d : Cmd) rest, let k := sl / 8
    (s.slot sl).latch = some c → c.kind.engine = 2 → (s.core k).q2.length < 4 → AccessesDone s sl c.id →
    (s.slot sl).stopped = d :: rest → (s.slot d.sl).th = d.th → (s.slot d.sl).pre.isSome = true → d.kind.engine ≠ 2 →
    ∃ t : State, exec (.engineDispatch sl) s = .next t ∧ t.core k = { s.core k with q2 := (s.core k).q2 ++ [c] }
      ∧ t.slot sl = { s.slot sl with latch := none, wins := (s.slot sl).wins.filter (fun w => decide (w.id ≠ c.id)) }
      ∧ SameMemory s t ∧ OnlyAt s t [sl] [k] [] [] ∧ SameModule s t)
  ∧ (∀ (s : State) (sl : Nat) (c : Cmd), let k := sl / 8
    let x := s.slot sl
    let gone := fun (d : Cmd) => decide (d.sl = sl) && decide (d.th = x.th)
    x.latch = some c → gone c = true → c.kind.engine ≠ 2 → x.pre.isSome = true →
    (∀ d ∈ (s.core k).q0 ++ (s.core k).q1, d.kind.engine ≠ 2) → ∃ t : State, exec (.engineDispatch sl) s = .next t
      ∧ t.core k = { s.core k with q0 := (s.core k).q0.filter (fun d => !gone d), q1 := (s.core k).q1.filter (fun d => !gone d) }
      ∧ t.slot sl = { x with latch := none, wins := x.wins.filter (fun w => decide (w.id ≠ c.id)), stopped := (t.slot sl).stopped }
      ∧ (∀ e, e ∈ (t.slot sl).stopped ↔ e ∈ x.stopped
          ∨ ∃ d, (d = c ∨ d ∈ (s.core k).q0 ∨ d ∈ (s.core k).q1) ∧ gone d = true ∧ e = d.atStop s)
      ∧ (x.stopped.Pairwise (fun a b => a.id ≤ b.id) → (t.slot sl).stopped.Pairwise (fun a b => a.id ≤ b.id))
      ∧ SameMemory s t ∧ OnlyAt s t [sl] [k] [] [] ∧ SameModule s t)
  ∧ (∀ (s : State) (tile m : Nat) (c : Cmd) rest, let x := s.tile tile
    let core := 4 * tile + (x.brot + m) % 4
    x.burin = none → x.burinAt ≠ s.cycle + 1 → NextUp s tile x.brot m Core.q0 c rest →
    let taken := fun (t : State) => t.core core = { s.core core with q0 := rest } ∧ (t.tile tile).brot = ((x.brot + m) % 4 + 1) % 4
      ∧ (t.tile tile).epi = x.epi ∧ SameMemory s t ∧ OnlyAt s t [] [core] [tile] [] ∧ SameModule s t
    (c.kind = .mma → ∃ t : State, exec (.burinTake tile) s = .next t ∧ taken t ∧ (t.tile tile).ring = x.ring
      ∧ (t.tile tile).burin = some { cmd := c, since := s.cycle, j := c.nextJ, r := c.nextR, bw := [], aw := [] })
    ∧ (∀ p : Fin 8, c.kind = .mmaz → x.ring.get p = none → (∀ j : Fin 8, j < p → x.ring.get j ≠ none) → Owned s c.rt →
      ∃ t : State, exec (.burinTake tile) s = .next t ∧ taken t ∧ (t.tile tile).burin = none ∧ KeepsOwned s t tile
        ∧ (t.tile tile).burinAt = s.cycle + 1 ∧ (t.tile tile).ring.get p =
            some { rt := c.rt, mode := c.mode, poison := false, acc := Vector.replicate 256 0#32, th := c.th })
    ∧ (c.kind = .rfree → ¬ Owned s c.rt →
      (∀ d ∈ allCmds (s.updCore core (fun k => { k with q0 := rest })), d.kind.engine ≠ 2 → d.rt ≠ c.rt) →
      ∃ t : State, exec (.burinTake tile) s = .next t ∧ taken t ∧ (t.tile tile).burin = none ∧ KeepsOwned s t tile
        ∧ (t.tile tile).burinAt = s.cycle + 1 ∧ ∀ j : Fin 8, ∀ r, (t.tile tile).ring.get j = some r → r.rt ≠ c.rt))
  ∧ (∀ (s : State) (tile : Nat) (x : BurinJob) (p : Fin 8) (r : Ring), (s.tile tile).burin = some x →
    (s.slot x.cmd.sl).pre = none → fullSpeed s (nodeOfTile tile) → x.j < kBlocks x.cmd.desc →
    let fa := x.cmd.a.toNat / 2 ^ 56
    let fb := x.cmd.b.toNat / 2 ^ 56
    let l := x.cmd.a.toNat / 2 ^ 52 % 16
    let loc := burinNext s tile x
    x.cmd.b.toNat / 2 ^ 52 % 16 = l → x.bw.length = 8 * wordsRead fb l → x.aw.length + 1 = wordsRead fa l →
    BankFree s loc 8 → loc / 8 ∉ s.bad → loc / 8 ∉ s.corr → s.wordState loc ≠ 2#2 → s.wordState loc ≠ 3#2 →
    (s.tile tile).ring.get p = some r → r.rt = x.cmd.rt →
    let aw := x.aw ++ [wd (Memory.readNat s.mem loc 8)]
    let block := fun (c : Nat) => (x.bw.drop (c * wordsRead fb l)).take (wordsRead fb l)
    let pairs := fun (c : Nat) => (List.range (2 ^ l)).map (fun i => (blockQ fa l aw i, blockQ fb l (block c) i))
    ∃ t q, exec (.bankPerform (.burin tile)) s = .next t ∧ (t.tile tile).ring.get p = some q
      ∧ q.rt = r.rt ∧ q.mode = r.mode ∧ q.poison = r.poison
      ∧ (∀ i : Fin 256, i.val / 8 ≠ x.r → q.acc.get i = r.acc.get i)
      ∧ (∀ i : Fin 256, i.val / 8 = x.r → r.mode = true →
          (q.acc.get i).toInt = max (-2 ^ 31) (min (2 ^ 31 - 1) ((r.acc.get i).toInt
            + ((pairs (i.val % 8)).map (fun v => v.1 * v.2)).foldl (fun a b => a + b) 0)))
      ∧ (∀ i : Fin 256, i.val / 8 = x.r → r.mode = false →
          q.acc.get i = BitVec.ofNat 32 (fadd (r.acc.get i).toNat
            (groupValue (pairs (i.val % 8)) (fmtK fa) (fmtK fb) (blockE aw) (blockE (block (i.val % 8))))))
      ∧ (∃ y, (t.tile tile).burin = some y ∧ y.cmd = x.cmd ∧ y.aw = [] ∧ y.since = max x.since s.cycle + arrayTime s tile x.cmd 1
          ∧ (x.r + 1 < extOf x.cmd.desc 0 → y.j = x.j ∧ y.r = x.r + 1 ∧ y.bw = x.bw)
          ∧ (extOf x.cmd.desc 0 ≤ x.r + 1 → y.j = x.j + 1 ∧ y.r = 0 ∧ y.bw = []))
      ∧ SameMemory s t ∧ OnlyAt s t [] [] [tile] [] ∧ SameModule s t)
  ∧ (∀ (s : State) (tile : Nat) (x : BurinJob), (s.tile tile).burin = some x → x.since ≤ s.cycle →
    (kBlocks x.cmd.desc ≤ x.j → ∃ t : State, exec (.mmaComplete tile) s = .next t ∧ (t.tile tile).burin = none
      ∧ KeepsOwned s t tile ∧ SameMemory s t ∧ OnlyAt s t [] [] [tile] [] ∧ SameModule s t)
    ∧ ((s.slot x.cmd.sl).th = x.cmd.th → (s.slot x.cmd.sl).pre.isSome = true → x.cmd.kind = .mma → atGranule x → x.j < kBlocks x.cmd.desc → ∃ (t : State) (e : Cmd),
      exec (.mmaGranuleStop tile) s = .next t ∧ t.tile tile = { s.tile tile with burin := none }
      ∧ e = { x.cmd with nextJ := x.j, nextR := x.r, plate := e.plate, off := e.off }
      ∧ (∀ q, coveringPlate s (tileOfSlot x.cmd.sl) x.cmd.ctx (x.cmd.b.toNat % 2 ^ 52) = some q →
          e.plate = q.1.name ∧ e.off = x.cmd.b.toNat % 2 ^ 42 - q.2)
      ∧ t.slot x.cmd.sl = { s.slot x.cmd.sl with stopped := insertCmd (s.slot x.cmd.sl).stopped e }
      ∧ SameMemory s t ∧ OnlyAt s t [x.cmd.sl] [] [tile] [] ∧ SameModule s t))
  ∧ (∀ (s : State) (tile : Nat) (x : BurinJob), s.power = true → (∀ p ∈ s.pipe, s.cycle < p.due) → s.agenda = [] →
    (s.tiles.map (fun e => e.1)).Nodup → (s.tile tile).burin = some x →
    (s.slot x.cmd.sl).pre = none → (∀ e ∈ s.tiles, e.1 ≠ tile → ∀ y, e.2.burin = some y → y.cmd.sl ≠ x.cmd.sl) →
    let waits := x.bw.length = 8 * wordsRead (x.cmd.b.toNat / 2 ^ 56) (x.cmd.b.toNat / 2 ^ 52 % 16) ∧ x.j < kBlocks x.cmd.desc
      ∧ x.since ≤ s.cycle ∧ throttled s (nodeOfTile tile) = false
    ∃ t : State, step s = .next t
      ∧ (waits → (t.slot x.cmd.sl).edesc0.get 12 = (s.slot x.cmd.sl).edesc0.get 12 + 1#64)
      ∧ (¬ waits → (t.slot x.cmd.sl).edesc0.get 12 = (s.slot x.cmd.sl).edesc0.get 12))
  ∧ (∀ (s : State) (tile m : Nat) (c : Cmd) rest (p : Fin 8) (r : Ring), let x := s.tile tile
    let core := 4 * tile + (x.erot + m) % 4
    x.epi = none → NextUp s tile x.erot m Core.q1 c rest → x.ring.get p = some r → r.rt = c.rt →
    (∀ d ∈ allCmds s, d.kind = .mma → d.rt ≠ c.rt) →
    ∃ t : State, exec (.epiTake tile) s = .next t ∧ t.core core = { s.core core with q1 := rest }
      ∧ t.tile tile = { x with erot := ((x.erot + m) % 4 + 1) % 4,
                               epi := some { cmd := c, tw := [], writes := 0, psn := false, bad := false, busy := false } }
      ∧ SameMemory s t ∧ OnlyAt s t [] [core] [tile] [] ∧ SameModule s t)
  ∧ (∀ (s : State) (tile : Nat) (x : EpiJob) (p : Fin 8) (k : Ring), (s.tile tile).epi = some x →
    x.writes < epiCount (x.cmd.a.toNat / 2 ^ 56) → x.cmd.desc[0]?.getD 0#64 = 0#64 ∨ 8 ≤ x.tw.length →
    (s.tile tile).ring.get p = some k → k.rt = x.cmd.rt → (∀ j : Fin 8, ∀ r, (s.tile tile).ring.get j = some r → r.rt = k.rt → r = k) →
    let w := epilogueWrite x.cmd x.writes
    let loc := w.1 % 2 ^ 42
    BankFree s loc w.2 → isStore loc = true → loc / 8 ∉ s.bad → loc / 8 ∉ s.corr →
    x.cmd.kind = .epi →
    let poison := x.psn || k.poison
    let wrote := fun (t : State) (bad : Bool) => exec (.bankPerform (.epilogue tile)) s = .next t
      ∧ t.tile tile = { s.tile tile with epi := some { x with writes := x.writes + 1, bad := x.bad || bad } }
      ∧ (∀ a, a / 8 ≠ loc / 8 → t.wordState a = s.wordState a) ∧ SameModule s t
    (w.2 < 8 → poisoned (s.wordState loc) = true → ∃ t : State, wrote t true ∧ SameMemory s t ∧ OnlyAt s t [x.cmd.sl] [] [tile] []
      ∧ (t.slot x.cmd.sl).estat1.getLsbD 63 = true)
    ∧ (w.2 = 8 ∨ poisoned (s.wordState loc) = false → ∃ t : State, wrote t poison ∧ BytesBut s t [(loc, w.2)]
      ∧ OnlyAt s t [] [] [tile] []
      ∧ Memory.readNat t.mem loc w.2 = (if poison then 0 else epilogueData x k x.writes % 2 ^ (8 * w.2))
      ∧ t.wordState loc = if poison then stPoison else 1#2))
  ∧ (∀ (s : State) (tile : Nat) (x : EpiJob), (s.tile tile).epi = some x → epiCount (x.cmd.a.toNat / 2 ^ 56) ≤ x.writes →
    StageOver s (x.cmd.sl / 8) →
    let core := x.cmd.sl / 8
    let bit := x.cmd.b.toNat % 2 ^ 6
    ∃ t : State, exec (.epiComplete tile) s = .next t ∧ (t.tile tile).epi = none ∧ (t.tile tile).burin = (s.tile tile).burin
      ∧ (∀ j : Fin 8, ∀ r, (t.tile tile).ring.get j = some r ↔ (s.tile tile).ring.get j = some r ∧ r.rt ≠ x.cmd.rt)
      ∧ (∀ i < 64, (t.core core).tags.getLsbD i = ((s.core core).tags.getLsbD i || decide (i = bit)))
      ∧ (∀ i < 64, (t.core core).tagerr.getLsbD i = ((s.core core).tagerr.getLsbD i || (x.bad && decide (i = bit))))
      ∧ SameMemory s t ∧ OnlyAt s t [] [core] [tile] [] ∧ SameModule s t)

/-- R119, R251, R254, R255, R285 to R287, R291, R292, R296 to R305, R307, R327: on its turn a free hart takes a write-back of its node
first, then, while no other firmware work waits, the next command in core rotation, and begins with its descriptor. On its turns a
hart makes the accesses of each element, row, item or word in order, one request at a time, which its bank performs; an EMPTY or
POISON word and a refused or faulting access are recorded. A command that is done sets its tag, and TAGERR with an error; a FREEB
goes to the router of its node; a combining entry counts FREEBs, the last going on to its parent, or, at the root, as an addition
of 1 to the counter; a router installs an entry while it has fewer than 16, forwards the message to its children, and answers once
they have; a tile switches a table pair whose 32 reads are in and whose image passes its checks, before its slots' turns of the cycle,
and replies TABLE where it does not. The tree's shape and a forwarded FREEB's weight, the order of a hart's accesses, the unused half
of an extent, the turn of firmware's work and the order within a cycle are the model's choices (log entries 13, 86, 100, DEDUCED, and 92,
98). -/
def Obligations.HartEvents : Prop :=
  (∀ (s : State) (node h : Nat), HartTurn s node h → Tab.look (s.node node).harts h = none →
    (∀ e : Nat, e < 64 → (s.plate node e).st = .evicting → (s.plate node e).dirty = true →
      (∀ k < e, (s.plate node k).st ≠ .evicting) →
      (∀ g ∈ (s.node node).harts, ∀ k c, g.2.work = .evict k c → k ≠ e) →
      ∃ (t : State) (j : HartJob) (c : Cmd), exec (.hartTake node h) s = .next t ∧ HartIs s t node h (some j) ∧ j.work = .evict e c ∧ c.kind = .copy
        ∧ SameMemory s t ∧ OnlyAt s t [] [] [] [node] ∧ SameModule s t)
    ∧ (∀ (m : Nat) (c : Cmd) (rest : List Cmd), let core := node * 64 + ((s.node node).hrot + m) % 64
      (∀ e < 64, (s.plate node e).st ≠ .evicting) →
      (∀ r ∈ s.reqs, r.stage = .log → nodeOfCore (homeCore r.ea) ≠ node) →
      (∀ e ∈ s.cores, ∀ a ∈ e.2.away, a.st = .saving ∨ a.st = .restoring → nodeOfSlot a.slot ≠ node) → codeWaiting s node = false →
      restoreCodeWaiting s node = false → m < 64 → (∀ k < m, (s.core (node * 64 + ((s.node node).hrot + k) % 64)).q2 = []) → (s.core core).q2 = c :: rest →
      (∀ d ∈ rest, d.id ≠ c.id) → s.mbox.ending ≠ some c.ctx →
      ∃ (t : State) (j : HartJob), exec (.hartTake node h) s = .next t ∧ t.core core = { s.core core with q2 := rest } ∧ HartIs s t node h (some j)
        ∧ (t.node node).hrot = (((s.node node).hrot + m) % 64 + 1) % 64 ∧ j.work = .cmd c ∧ j.busy = false ∧ j.err = 0
        ∧ (t.node node).hartAt = s.cycle + 1
        ∧ (c.kind = .freeb → j.todo = [] ∧ j.phase = .tag)
        ∧ (c.kind ≠ .freeb → j.phase = .desc
            ∧ j.todo = (List.range (descWords c.kind)).map (fun i => .read 8 ((c.a.toNat % 2 ^ 52 + 8 * i) % 2 ^ 52) false))
        ∧ SameMemory s t ∧ OnlyAt s t [] [core] [] [node] ∧ SameModule s t))
  ∧ (∀ (s : State) (node h loc : Nat) (j : HartJob) (m : Micro) rest, HartActs s node h j →
    let issues := fun (k : HartJob) => ∃ t : State, exec (.bankPerform (.hart node h)) s = .next t ∧ HartIssues s t node h k m loc
    (j.todo = m :: rest → Issuable s node j m loc → issues j)
    ∧ (j.todo = [] → j.phase = .unit → j.unit < unitCount j → unitAccesses j = m :: rest →
        Issuable s node { j with buf := [] } m loc → ∃ p, issues { j with phase := p, buf := [], todo := m :: rest })
    ∧ (∀ v bad e stop, j.todo = [] → j.phase = .index → j.buf = [(v, bad)] → rowStep j v bad = (m :: rest, e, stop) →
        Issuable s node { j with buf := [] } m loc →
        ∃ k, issues k ∧ Noted j k e ∧ k.todo = m :: rest ∧ k.buf = [] ∧ k.unit = j.unit ∧ k.work = j.work ∧ k.dw = j.dw)
    ∧ (∀ v bad e drop stop, j.todo = [] → j.phase = .key ∨ (∃ k, j.phase = .bump k ∨ j.phase = .ovf k) → j.buf = [(v, bad)] →
        itemStep j v bad = (m :: rest, e, drop, stop) → Issuable s node { j with buf := [] } m loc →
        ∃ k, issues k ∧ Noted j k e ∧ k.todo = m :: rest ∧ k.buf = [] ∧ k.unit = j.unit ∧ k.work = j.work ∧ k.dw = j.dw
          ∧ k.drops = j.drops + (if drop then 1 else 0))
    ∧ (∀ v bad e, j.todo = [] → j.buf = [(v, bad)] → j.stop = false →
        (j.phase = .index ∧ rowStep j v bad = ([], e, false)
          ∨ (j.phase = .key ∨ ∃ k, j.phase = .bump k ∨ j.phase = .ovf k) ∧ (∃ d, itemStep j v bad = ([], e, d, false))) →
        j.unit + 1 < unitCount j → unitAccesses { j with unit := j.unit + 1 } = m :: rest → Issuable s node { j with buf := [] } m loc →
        ∃ k, issues k ∧ Noted j k e ∧ k.todo = m :: rest ∧ k.unit = j.unit + 1 ∧ k.work = j.work ∧ k.dw = j.dw)
    ∧ (∀ c e, j.todo = [] → j.work = .cmd c →
        (e = 0 ∧ (j.phase = .status ∨ j.phase = .unit ∧ unitCount j ≤ j.unit)
          ∨ e = 4 ∧ (∃ v bad, j.buf = [(v, bad)] ∧ (j.phase = .index ∧ rowStep j v bad = ([], 4, true)
              ∨ j.phase = .key ∧ itemStep j v bad = ([], 4, false, true)))) →
        Issuable s node { j with buf := [] } (.put (firstCompletion c) 0#64 false) loc →
        ∃ t k w, exec (.bankPerform (.hart node h)) s = .next t ∧ HartIssues s t node h k (.put (firstCompletion c) w false) loc
          ∧ Noted j k e ∧ k.phase = .wrote ∧ k.todo = completionWrites c k ∧ k.drops = j.drops ∧ k.unit = j.unit ∧ k.work = j.work))
  ∧ (∀ (s : State) (node h id : Nat) (r : Req) (f : Option FaultInfo) (v : Vec) (j : HartJob) (m : Micro) rest,
    s.req? id = some r → r.own = .hart node h →
    (r.stage = .queued → (∀ c, r.tgt ≠ .plates c ∧ r.tgt ≠ .deque c ∧ r.tgt ≠ .landing c ∧ r.tgt ≠ .remote c) →
      (∀ q ∈ s.reqs, q.stage = .queued → q.tgt.meets r.tgt = true → r.stamp ≤ q.stamp) →
      (∀ w ∈ wordsOf r.op r.loc, w / 8 ∉ s.bad ∧ w / 8 ∉ s.corr) →
      (∀ k, (s.core k).walks = [] ∧ (s.core k).waitl = []) →
      (∀ q ∈ s.reqs, q.own = r.own → q.id = r.id) → (∀ w ∈ wordsOf r.op r.loc, r.op.blockedBy (s.wordState w) = false) →
      let d := performOp s r.node r.op r.loc
      ∃ t : State, exec (.bankPerform (.request id)) s = .next t ∧ t.reqs = restaged s id (.replied d.val (r.fault? d.fault))
        ∧ SameMemory d.st t ∧ OnlyAt s t [] [] [] [] ∧ SameModule s t)
    ∧ (r.stage = .replied v f → Tab.look (s.node node).harts h = some j → j.busy = true → j.todo = m :: rest →
      let next := fun (Q : HartJob → Prop) => ∃ t k, exec (.reply id) s = .next t ∧ t.reqs = without s id
        ∧ HartIs s t node h (some k) ∧ k.busy = false ∧ k.work = j.work ∧ k.unit = j.unit ∧ Q k ∧ SameMemory s t
        ∧ OnlyAt s t [] [] [] [node] ∧ SameModule s t
      let state := v.toNat / 2 ^ 64 % 4
      (∀ n a idx, f = none → m = .read n a idx →
        (j.phase = .desc → idx = false → state < 2 → next (fun k => k.todo = rest ∧ k.buf = j.buf ++ [(wd (v.toNat % 2 ^ 64), false)]))
        ∧ (j.phase = .desc → idx = false → 2 ≤ state → next (fun k => k.todo = [] ∧ k.err = 7 ∧ k.phase = .tag))
        ∧ (j.phase ≠ .desc → idx = true →
            next (fun k => k.todo = rest ∧ k.buf = j.buf ++ [(wd (v.toNat % 2 ^ 64), decide (state ≠ 1))] ∧ Noted j k 0))
        ∧ (j.phase ≠ .desc → idx = false → state < 2 →
            next (fun k => k.todo = rest ∧ k.buf = j.buf ++ [(wd (v.toNat % 2 ^ 64), false)] ∧ Noted j k 0))
        ∧ (j.phase ≠ .desc → idx = false → 2 ≤ state → j.cmd.kind ≠ .mcast → j.cmd.kind ≠ .copy ∨ (∀ e ∈ j.buf, e.2 = false) →
            next (fun k => k.buf = j.buf ++ [(wd (v.toNat % 2 ^ 64), true)] ∧ Noted j k (if j.cmd.b.getLsbD 9 then 2 else 1)
              ∧ (j.cmd.b.getLsbD 9 = false → k.todo = rest ∧ k.stop = j.stop) ∧ (j.cmd.b.getLsbD 9 = true → k.stop = true))))
      ∧ (f = none → (∀ n a i, m ≠ .read n a i) → (∀ a l, m ≠ .bump a l) → next (fun k => k.todo = rest ∧ k.buf = j.buf ∧ Noted j k 0))
      ∧ (∀ a l, f = none → m = .bump a l → j.phase ≠ .desc →
          next (fun k => k.todo = rest ∧ k.buf = j.buf ++ [(wd (v.toNat % 2 ^ 64), false)] ∧ Noted j k 0))
      ∧ (∀ e, f = some e → e.cause ≠ causePOISON ∨ (∃ a l, m = .bump a l) → j.phase ≠ .desc → j.phase ≠ .wrote →
          j.cmd.kind ≠ .mcast → next (fun k => k.todo = [] ∧ k.phase = .status
            ∧ (j.err = 0 → k.err = 7 ∧ k.fcause = e.cause.toNat ∧ k.where_ = j.unit)))
      ∧ (∀ e, f = some e → j.phase = .wrote → next (fun k => k.todo = [] ∧ k.phase = .tag ∧ k.err = 7))
      ∧ (∀ e, f = some e → e.cause = causePOISON → (∀ a l, m ≠ .bump a l) → j.phase ≠ .wrote → j.cmd.kind ≠ .mcast →
          next (fun k => k.todo = rest ∧ Noted j k 8))))
  ∧ (∀ (s : State) (node h : Nat) (j : HartJob) (c : Cmd) before after, (s.node node).harts = before ++ (h, j) :: after →
    (∀ g ∈ before ++ after, g.1 ≠ h) → j.busy = false → j.todo = [] → j.phase = .tag → j.work = .cmd c →
    let core := c.sl / 8
    let bit := c.b.toNat % 2 ^ 6
    (c.kind ≠ .freeb → StageOver s core → ∃ t : State, exec (.commandComplete node h) s = .next t
      ∧ (∀ i < 64, (t.core core).tags.getLsbD i = ((s.core core).tags.getLsbD i || decide (i = bit)))
      ∧ (∀ i < 64, (t.core core).tagerr.getLsbD i = ((s.core core).tagerr.getLsbD i || (decide (j.err ≠ 0) && decide (i = bit))))
      ∧ (t.node node).harts = before ++ after
      ∧ t.ctls = s.ctls ∧ SameMemory s t ∧ OnlyAt s t [] [core] [] [node] ∧ SameModule s t)
    ∧ (c.kind = .freeb → ∃ t : State, exec (.commandComplete node h) s = .next t ∧ (t.node node).harts = before ++ after
      ∧ t.ctls = s.ctls ++ [.freeb s.nextId (nodePos s (nodeOfSlot c.sl)) (nodeOfSlot c.sl) c.a c.ctx 1]
      ∧ SameMemory s t ∧ OnlyAt s t [] [] [] [node] ∧ SameModule s t))
  ∧ (∀ (s : State) (id pos node ctx weight : Nat) (hd : Word),
    s.ctls.find? (fun c => decide (c.no = id)) = some (.freeb id pos node hd ctx weight) →
    let left := s.ctls.filter (fun c => decide (c.no ≠ id))
    let frame := fun (t : State) (n : List Nat) => SameMemory s t ∧ OnlyAt s t [] [] [] n ∧ SameModule s t
    ((∀ c ∈ s.router pos, c.handle ≠ hd ∨ c.ctx ≠ ctx) → ∃ t : State, exec (.freebArrive id) s = .next t ∧ t.ctls = left
      ∧ t.node node = { s.node node with freebDrops := (s.node node).freebDrops + 1 } ∧ t.reqs = s.reqs ∧ t.routers = s.routers
      ∧ frame t [node])
    ∧ (∀ before c after, FirstIn (fun k : Comb => k.handle = hd ∧ k.ctx = ctx) (s.router pos) before c after →
      (c.seen + weight < c.expect → ∃ t : State, exec (.freebArrive id) s = .next t ∧ t.ctls = left ∧ t.reqs = s.reqs
        ∧ t.router pos = before ++ { c with seen := c.seen + weight } :: after ∧ OtherRouters s t pos ∧ frame t [])
      ∧ (c.expect ≤ c.seen + weight → ∃ t : State, exec (.freebArrive id) s = .next t
        ∧ t.router pos = before ++ after ∧ OtherRouters s t pos ∧ frame t []
        ∧ (∀ p, c.parent = some p → t.ctls = left ++ [.freeb s.nextId p node hd ctx c.expect] ∧ t.reqs = s.reqs)
        ∧ (c.parent = none → t.ctls = left ∧ ∃ r : Req, t.reqs = s.reqs ++ [r] ∧ r.stage = .route ∧ r.ctx = ctx
            ∧ r.op = .amo 0x01#6 1#64 0#64 0#64 ∧ r.loc = hd.toNat % 2 ^ 42))))
  ∧ (∀ (s : State) (id pos : Nat) (m : Ctl), s.ctls.find? (fun c => decide (c.no = id)) = some m →
    let left := s.ctls.filter (fun c => decide (c.no ≠ id))
    let run := fun (Q : State → Prop) => ∃ t : State, exec (.installMessage pos id) s = .next t ∧ Q t ∧ t.reqs = s.reqs ∧ SameMemory s t
      ∧ SameModule s t
    (∀ comb recv, m = .install id pos comb recv →
      let child := fun (k n : Nat) => decide (nodePos s n ≠ pos) && decide (nextRouter pos (nodePos s n) = k)
      (16 ≤ (s.router pos).length → exec (.installMessage pos id) s = .next s)
      ∧ ((s.router pos).length < 16 → run (fun t => ∃ e, t.router pos = s.router pos ++ [e] ∧ e = { comb with due := e.due }
          ∧ (∀ k, k ∈ e.due ↔ ∃ n ∈ recv, child k n = true) ∧ e.due.Nodup ∧ OtherRouters s t pos ∧ OnlyAt s t [] [] [] []
          ∧ (e.due = [] → t.ctls = left ++ [answerOf s.nextId pos e])
          ∧ (e.due ≠ [] → t.ctls = left ++ e.due.zipIdx.map (fun p => .install (s.nextId + p.2) p.1
              { comb with parent := some pos, expect := (recv.filter (child p.1)).length } (recv.filter (child p.1)))))))
    ∧ (∀ k hd ctx before c after, m = .answer id pos k hd ctx →
      FirstIn (fun e : Comb => e.handle = hd ∧ e.ctx = ctx ∧ k ∈ e.due) (s.router pos) before c after →
      let e := { c with due := c.due.filter (fun n => decide (n ≠ k)) }
      run (fun t => t.router pos = before ++ e :: after ∧ OtherRouters s t pos ∧ OnlyAt s t [] [] [] []
        ∧ t.ctls = left ++ (if e.due = [] then [answerOf s.nextId pos e] else [])))
    ∧ (∀ node h ctx (j : HartJob), m = .ready id pos node h ctx → Tab.look (s.node node).harts h = some j →
      run (fun t => t.ctls = left ∧ HartIs s t node h (some { j with due := false }) ∧ OnlyAt s t [] [] [] [node])))
  ∧ (∀ (s : State) (tile sl p b : Nat) (a : Acc), loadedTable s tile = some (sl, a) → a.fill = .table tile p b →
    (∀ r ∈ s.reqs, r.acc ≠ a.id) → p = 2 ∨ p = 3 → (∀ c, c / 4 = tile → (s.slot (c * 8 + s.cycle % 8)).turnAt ≠ s.cycle + 1) →
    let image := (List.range 128).map (fun i => wd ((Tab.get 0#256 a.data (i / 4)).toNat / 2 ^ (64 * (i % 4)) % 2 ^ 64))
    let replies := fun (t : State) (f : Option FaultInfo) => ∃ r : Req, t.reqs = s.reqs ++ [r] ∧ r.acc = a.id
      ∧ r.own = .slot sl (s.slot sl).th ∧ r.stage = .replied 0#256 f
    (imageCheck image = 0 → ∃ t : State, exec (.tableSwitch tile) s = .next t ∧ replies t none
      ∧ t.tile tile = (if p = 2 then { s.tile tile with pair2 := some image } else { s.tile tile with pair3 := some image })
      ∧ SameMemory s t ∧ OnlyAt s t [] [] [tile] [] ∧ SameModule s t)
    ∧ (imageCheck image ≠ 0 → ∃ (t : State) (f : FaultInfo), exec (.tableSwitch tile) s = .next t ∧ replies t (some f) ∧ f.cause = causeTABLE
      ∧ f.faddr = wd b ∧ SameMemory s t ∧ OnlyAt s t [] [] [] [] ∧ SameModule s t))

/-- R313 to R318, R321 to R328, R330: the node's plate table takes one operation at a time, in order of arrival. PLOOK answers
the reference; PMAKE fills the lowest FREE entry, or makes an EVICTED plate of the same kind and length again with its backing, at
the first fit, and evicts the candidate of the least LAST where there is none; PATT pins a SEALED plate, or its launch's own, and
records the attach; PDET unpins; PSEAL seals; PFREE frees; PEVICT begins the eviction of a SEALED plate without pins, which
completes when nothing is left to write. The misses and PLSTATE reasons are those of the tables. That LAST stays where no rule sets
it, and that only a fault of the table comes as the reply's fault, are the model's choices (log entries 36 and 85, DEDUCED). -/
def Obligations.PlateEvents : Prop :=
  (∀ (s : State) (node sl : Nat) (th : Thread) (r : Req) (op : BitVec 7) (a b b2 : Word), AtTable s node r sl th →
    r.op = .plt op a b b2 →
    let k := (s.slot sl).launch
    let e := a.toNat % 2 ^ 6
    let p := s.plate node e
    let same := fun (t : State) => SameMemory s t ∧ OnlyAt s t [] [] [] [] ∧ SameModule s t
    let table := fun (t : State) => SameMemory s t ∧ OnlyAt s t [] [] [] [node] ∧ SameModule s t
    let run := fun (Q : State → Prop) => ∃ t : State, exec (.plateTableStep node) s = .next t ∧ Q t
    (op = 0x01#7 → (∀ j, NamedAt s node r.ctx a j → run (fun t => TableOk s t r (referenceTo node j (s.plate node j)) 0 ∧ same t))
      ∧ (NotNamed s node r.ctx a → run (fun t => TableOk s t r (2 ^ 63 + 1) 0 ∧ same t)))
    ∧ (op = 0x02#7 → (∀ j, NamedAt s node r.ctx a j → (s.plate node j).st ≠ .evicted →
        run (fun t => TableOk s t r (2 ^ 63 + (s.plate node j).st.code * 2 ^ 8 + 7) 0 ∧ same t))
      ∧ (NotNamed s node r.ctx a → (∀ j < 64, (s.plate node j).st ≠ .free) →
        run (fun t => TableOk s t r (2 ^ 63 + 6) 0 ∧ same t))
      ∧ (∀ j u g, NotNamed s node r.ctx a → j < 64 → (s.plate node j).st = .free →
        (∀ i < j, (s.plate node i).st ≠ .free) → firstFit s node r.ctx b = some (u, g) →
        run (fun t => ∃ q, PlateIs s t node j q ∧ TableOk s t r (referenceTo node j q) (basePointer node q) ∧ table t
          ∧ q.st = .filling ∧ q.name = a ∧ q.ctx = r.ctx ∧ q.kind = b.getLsbD 36 ∧ q.len = b.toNat % 2 ^ 4 ∧ q.unit = u
          ∧ q.base = g ∧ q.pins = 0#16 ∧ q.launch = k ∧ q.egen = (s.plate node j).egen + 1#12 ∧ q.fromb = b.getLsbD 48
          ∧ q.bv = decide (b2 ≠ 0#64) ∧ q.dirty = q.bv ∧ q.back = b2.toNat % 2 ^ 42))
      ∧ (∀ j, NamedAt s node r.ctx a j → (s.plate node j).st = .evicted →
        (s.plate node j).kind ≠ b.getLsbD 36 ∨ (s.plate node j).len ≠ b.toNat % 2 ^ 4 →
        run (fun t => TableOk s t r (2 ^ 63 + 5 * 2 ^ 8 + 8) 0 ∧ same t))
      ∧ (∀ j u g, NamedAt s node r.ctx a j → EntryFor s node r.ctx a b j → firstFit s node r.ctx b = some (u, g) →
        let p := s.plate node j
        let q := { p with st := .filling, fromb := true, dirty := p.bv, pins := 0#16, egen := p.egen + 1#12, unit := u, base := g,
                          launch := k }
        run (fun t => PlateIs s t node j q ∧ TableOk s t r (referenceTo node j q) (basePointer node q) ∧ table t))
      ∧ (∀ j, EntryFor s node r.ctx a b j → firstFit s node r.ctx b = none → (∀ v, ¬ Candidate s node b v) →
        run (fun t => TableOk s t r (2 ^ 63 + 5) 0 ∧ same t))
      ∧ (∀ j v, EntryFor s node r.ctx a b j → firstFit s node r.ctx b = none → Victim s node b v →
        run (fun t => t.reqs = restaged s r.id (.evicting v) ∧ PlateIs s t node v { s.plate node v with st := .evicting } ∧ table t)))
    ∧ (op = 0x03#7 ∨ op = 0x04#7 →
      let miss := fun (code st : Nat) => run (fun t => same t ∧
        if op = 0x04#7 then TableFault s t r 0x09#8 st code else TableOk s t r 0 (2 ^ 63 + st * 2 ^ 8 + code))
      let pinned := fun (j : Nat) (q : Plate) => run (fun t =>
        let c := (s.node node).attaches + 1#32
        let q := { q with pins := q.pins + 1#16, last := c }
        PlateIs s t node j q ∧ (t.node node).attaches = c ∧ TableOk s t r (basePointer node q) (referenceTo node j q)
          ∧ t.slot sl = { s.slot sl with attach := (s.slot sl).attach ++ [wd (referenceTo node j q)] }
          ∧ SameMemory s t ∧ OnlyAt s t [sl] [] [] [node] ∧ SameModule s t)
      (NotNamed s node r.ctx a → miss 1 0)
      ∧ (∀ j, NamedAt s node r.ctx a j → let q := s.plate node j
        (q.st = .sealed → pinned j q)
        ∧ (q.st = .filling ∨ q.st = .open_ → q.launch = k → pinned j { q with st := .open_ })
        ∧ (q.st = .filling ∨ q.st = .open_ → q.launch ≠ k → miss 2 q.st.code)
        ∧ (q.st = .evicting → miss 4 4) ∧ (q.st = .evicted → miss 3 5)))
    ∧ (op = 0x05#7 → a.toNat / 2 ^ 44 % 2 ^ 14 = node → 0 < p.pins.toNat → run (fun t => TableOk s t r 0 0 ∧ table t
        ∧ PlateIs s t node e { p with pins := p.pins - 1#16,
                                      st := if p.st = .open_ ∧ p.pins = 1#16 then .filling else p.st }))
    ∧ (op = 0x06#7 → let own := freshRef p r.ctx a ∧ (p.st = .filling ∨ p.st = .open_)
      (¬ freshRef p r.ctx a → run (fun t => TableFault s t r 0x0A#8 p.st.code 1 ∧ same t))
      ∧ (own → p.launch = k → run (fun t => TableOk s t r 0 0 ∧ table t
        ∧ PlateIs s t node e { p with st := .sealed, dirty := p.bv && !p.fromb, fromb := false }))
      ∧ (own → p.launch ≠ k → run (fun t => TableFault s t r 0x0A#8 p.st.code 6 ∧ same t))
      ∧ (freshRef p r.ctx a → p.st = .sealed → run (fun t => TableOk s t r 0 0 ∧ table t ∧ PlateIs s t node e { p with dirty := p.bv }))
      ∧ (freshRef p r.ctx a → p.st = .evicting ∨ p.st = .evicted → run (fun t => TableFault s t r 0x0A#8 p.st.code 3 ∧ same t)))
    ∧ (op = 0x07#7 → let bad := fun (i : Nat) => run (fun t => TableFault s t r 0x0A#8 p.st.code i ∧ same t)
      (¬ freshRef p r.ctx a → bad 1) ∧ (freshRef p r.ctx a →
        (p.st ≠ .sealed → bad 3) ∧ (p.st = .sealed → p.pins ≠ 0#16 → bad 4) ∧ (p.st = .sealed → p.pins = 0#16 → p.bv = false → bad 5)
        ∧ (p.st = .sealed → p.pins = 0#16 → p.bv = true → run (fun t => t.reqs = restaged s r.id (.evicting e)
            ∧ PlateIs s t node e { p with st := .evicting } ∧ table t))))
    ∧ (op = 0x08#7 → let bad := fun (i : Nat) => run (fun t => TableFault s t r 0x0A#8 p.st.code i ∧ same t)
      (¬ freshRef p r.ctx a → bad 1) ∧ (freshRef p r.ctx a →
        (p.st = .evicting → bad 3) ∧ (p.st = .filling ∨ p.st = .open_ → p.launch ≠ k → bad 6)
        ∧ (p.st ≠ .evicting → (p.st = .filling ∨ p.st = .open_ → p.launch = k) → p.pins ≠ 0#16 → bad 4)
        ∧ (p.st ≠ .evicting → (p.st = .filling ∨ p.st = .open_ → p.launch = k) → p.pins = 0#16 → run (fun t => TableOk s t r 0 0 ∧ table t
            ∧ PlateIs s t node e { p with st := .free, name := 0#64 })))))
  ∧ (∀ (s : State) (node e : Nat), let p := s.plate node e
    p.st = .evicting → (∀ q ∈ s.reqs, q.stage = .evicting e → q.item = none ∧ ∀ pos rid g b, q.own ≠ .remote pos rid g b) →
    let done := fun (t : State) => PlateIs s t node e { p with st := .evicted, dirty := false } ∧ SameMemory s t
      ∧ OnlyAt s t [] [] [] [node] ∧ SameModule s t
      ∧ ((∀ q ∈ s.reqs, q.stage ≠ .evicting e ∨ q.tgt ≠ .plates node) → t.reqs = s.reqs)
      ∧ (∀ r ∈ s.reqs, ∀ sl th op a b b2, r.stage = .evicting e → r.tgt = .plates node → r.own = .slot sl th → r.item = none →
          r.op = .plt op a b b2 → (∀ q ∈ s.reqs, q.stage = .evicting e → q.tgt = .plates node → q = r) →
          ∀ q ∈ t.reqs, q.id = r.id → q.stage = if op = 0x02#7 then .queued else .replied 0#256 none)
    (p.dirty = false → ∃ t : State, exec (.evictComplete node e) s = .next t ∧ (t.node node).harts = (s.node node).harts ∧ done t)
    ∧ (∀ before h j after c, FirstIn (fun g : Nat × HartJob => (∃ d, g.2.work = .evict e d) ∧ g.2.phase = .tag)
        (s.node node).harts before (h, j) after → j.work = .evict e c → p.dirty = true → (∀ g ∈ before, g.1 ≠ h) →
        ∃ t : State, exec (.evictComplete node e) s = .next t ∧ (t.node node).harts = before ++ after ∧ done t))

/-- R7, R104, R105, R117, R119, R280, R281, R287, R310, R370, R371, R374 to R377: a slot of a higher class number that has no
NOPRE is marked for a waiting launch, summaries of its items are asked for, and its commands not yet taken are withdrawn; 1 ms
later a mark is withdrawn and counted; at a safe point the slot enters SAVING with a record of its context's pool, the waiting
access of a WORD park counting as not issued; a free hart writes the record, which holds its registers and stopped commands and
zero elsewhere, and the slot is FREE; a restore begins on the chosen core that holds the code, unless a lower class number goes first
there or a value still goes to its log, or whose tile first receives it into a FREE bank, and a free hart ends it with the
registers as the record has them. The safe point that waits for every outcome, the withdrawal of the waiting access,
records written and read in one step, the code load of one tile, the class kept by the slot, the wait
for the log, and the turn of firmware's work are the model's choices (log entries 20, 22, 27, 32, 45, 46, 47, 89, DEDUCED, and 92,
95, 100, 102). -/
def Obligations.SaveEvents : Prop :=
  (∀ (s : State) (k core sl : Nat) (l m : Launch) (p : Part) (h : Share) (c : Ctx), let x := s.slot sl
    s.launch? k = some l → s.part? k (nodeOfCore core) = some p →
    p.shares.find? (fun q => decide (q.core = core) && !q.seeded) = some h → sl / 8 = core →
    ((List.range 8).filter (fun i => decide ((s.slot (core * 8 + i)).st = .free))).length < h.slots →
    (∀ e ∈ s.slots, e.2.pre = none) → x.st = .running ∨ x.st = .parked ∧ x.reason ≠ .idle → x.ending = none →
    s.launch? x.launch = some m → l.cls < x.cls → x.cls ≤ 3 → m.pkt.nopre = false →
    (awayOf s x.th).isSome = true ∨ (s.core (homeOf x.th)).away.length < 32 →
    s.context x.ctx = some c → c.usedRecs.length < c.saveRecs →
    (∀ j, j / 8 = core → j ≠ sl → (s.slot j).cls ≤ l.cls) →
    let y := s.core core
    x.latch = none → x.stopped = [] →
    (∀ d ∈ y.q0 ++ y.q1, d.sl = sl → d.th = x.th ∧ d.kind.engine ≠ 2) →
    ∃ t a w, exec (.preemptMark k core) s = .next t ∧ t.slot sl = { x with pre := some s.cycle, asked := a, stopped := w }
      ∧ t.core core = { y with q0 := y.q0.filter (fun d => decide (d.sl ≠ sl)), q1 := y.q1.filter (fun d => decide (d.sl ≠ sl)) }
      ∧ (∀ d ∈ y.q0 ++ y.q1, d.sl = sl → ∃ e ∈ w, e = { d with plate := e.plate, off := e.off })
      ∧ (∀ e ∈ w, ∃ d ∈ y.q0 ++ y.q1, d.sl = sl ∧ d.id = e.id)
      ∧ SameMemory s t ∧ OnlyAt s t [sl] [core] [] [] ∧ SameModule s t
      ∧ (∀ i ∈ x.items, ∀ q, i.tag < 4 → i.known = false → i.seq < (x.tagItems i.tag).length → i.peer = some q →
          ∃ b ∈ a, b.tag = i.tag ∧ b.peer = q ∧ i.seq < b.upto))
  ∧ (∀ (s : State) (sl p : Nat), (s.slot sl).pre = some p → p + 1750000 ≤ s.cycle → (s.slot sl).st ≠ .saving →
    ∃ t : State, exec (.preemptWithdraw sl) s = .next t ∧ t.slot sl = { s.slot sl with pre := none, drain := false }
      ∧ t.node (nodeOfSlot sl) = { s.node (nodeOfSlot sl) with withdrawn := (s.node (nodeOfSlot sl)).withdrawn + 1 }
      ∧ SameMemory s t ∧ OnlyAt s t [sl] [] [] [nodeOfSlot sl] ∧ SameModule s t)
  ∧ (∀ (s : State) (sl k : Nat) (c : Ctx) (js : List Nat), let x := s.slot sl
    s.context x.ctx = some c → x.pre ≠ none → safePoint s sl = true →
    (awayOf s x.th).isSome = true ∨ (s.core (homeOf x.th)).away.length < 32 →
    k ∉ c.usedRecs → k < c.saveRecs → (∀ i < k, i ∈ c.usedRecs) →
    freeNumbers c.usedSpills c.spills (heldTiles s sl).length = some js →
    let entered := fun (t : State) => (t.slot sl).st = .saving ∧ SameRegs x { t.slot sl with pres := x.pres } []
      ∧ SameModes x (t.slot sl) ∧ SameTraps x (t.slot sl)
      ∧ (∃ a, AwayIs s t x.th (some a) ∧ a.st = .saving ∧ a.recNo = k ∧ a.spills = js ∧ a.slot = sl ∧ a.from_ = sl / 8
          ∧ a.ctx = x.ctx ∧ a.launch = x.launch)
      ∧ t.context x.ctx = some { c with usedRecs := c.usedRecs ++ [k], usedSpills := c.usedSpills ++ js }
      ∧ SameMemory s t ∧ (∀ d ∈ (t.core (sl / 8)).q0 ++ (t.core (sl / 8)).q1, d.th ≠ x.th)
    (waitingAcc s sl = none → ∃ t : State, exec (.save sl) s = .next t ∧ entered t ∧ t.reqs = s.reqs
      ∧ (t.slot sl).pc = x.pc ∧ (t.slot sl).pres = x.pres
      ∧ (t.slot sl).cnt = if x.st = .parked ∨ x.drain = true then x.cnt.set cntWasted (x.cnt.get cntWasted + 1#64) else x.cnt)
    ∧ (∀ a r q, waitingAcc s sl = some a → s.reqs.filter (fun p => decide (p.acc = a.id)) = [r] → r.stage = .waiting q →
      (s.core q).waitl = [r.id] → ∃ t : State, exec (.save sl) s = .next t ∧ entered t ∧ t.reqs = without s r.id
        ∧ (t.core q).waitl = [] ∧ (t.slot sl).pc = a.pca ∧ (t.slot sl).accs = []
        ∧ (t.slot sl).cnt.get cntIssued = x.cnt.get cntIssued - 1#64))
  ∧ (∀ (s : State) (sl : Nat) (a : Away), let x := s.slot sl
    let b := recordAddr s x.ctx a.recNo
    x.st = .saving → awayOf s x.th = some a → a.st = .saving → a.slot = sl → heldTiles s sl = [] →
    (∀ i, ∀ e ∈ (s.core i).lbuf, e.th ≠ x.th) → FreeHart s (nodeOfSlot sl) →
    ∃ t : State, exec (.saveComplete sl) s = .next t ∧ (t.slot sl).st = .free ∧ (t.slot sl).pre = none
      ∧ AwayIs s t x.th (some { a with st := .saved })
      ∧ RecordAt t b { x with cnt := x.cnt.set cntSaves (x.cnt.get cntSaves + 1#64) }
      ∧ wordAt t (b + 0x548) = (s.core (sl / 8)).tags.toNat ∧ wordAt t (b + 0x550) = (s.core (sl / 8)).tagerr.toNat
      ∧ (∀ i < 81, wordAt t (b + 0x578 + 8 * i) = 0) ∧ BytesBut s t [(b, 0x800)]
      ∧ (∀ i c, (∀ d ∈ x.stopped, d.th = x.th) → i < 2 → x.stopped[i]? = some c → c.nextJ < 2 ^ 12 → c.nextR < 2 ^ 5 → ProgressAt t b i c)
      ∧ (x.stopped = [] → threadTiles s sl = [] → ∀ i < 18, wordAt t (b + 0x4B0 + 8 * i) = 0)
      ∧ (t.core (sl / 8)).q0 = (s.core (sl / 8)).q0 ∧ (t.core (sl / 8)).q1 = (s.core (sl / 8)).q1
      ∧ (∀ i, i ≠ sl → t.slot i = s.slot i))
  ∧ (∀ (s : State) (th : Thread) (w : Away) (l : Launch) (c g : Nat), awayOf s th = some w → w.st = .saved →
    s.launch? w.launch = some l → restoreCore s w = some c → g = th.gen.toNat →
    let logged := ∃ r ∈ s.reqs, r.stage = .log ∧ Lands r.op ∧ addrThread r.ea = th
    (hasCode s (c / 4) w.launch = true → restoreHeld s w c = true ∨ logged → exec (.restore th.birth g) s = .next s)
    ∧ (∀ sl, hasCode s (c / 4) w.launch = true → restoreHeld s w c = false → ¬ logged → sl / 8 = c → (s.slot sl).st = .free →
      (recordAddr s w.ctx w.recNo + 0x578) / 8 ∉ s.bad → (∀ j, j / 8 = c → j < sl → (s.slot j).st ≠ .free) →
      ∃ t : State, exec (.restore th.birth g) s = .next t
        ∧ t.slot sl = { s.slot sl with st := .saving, reason := .none, th := w.th, ctx := w.ctx, launch := w.launch }
        ∧ AwayIs s t th (some { w with st := .restoring, slot := sl, code := none })
        ∧ (t.core c).reserve = (s.core c).reserve + wordAt s (recordAddr s w.ctx w.recNo + 0x578) % 64
        ∧ SameMemory s t ∧ (∀ i, i ≠ sl → t.slot i = s.slot i))
    ∧ (∀ b, hasCode s (c / 4) w.launch = false → freeBank s (c / 4) = some b → FreeHart s (c / 64) →
      (imageFails s l = true → ∃ t : State, exec (.restoreCodeLoad th.birth g) s = .next t
        ∧ AwayIs s t th (some { w with code := some (c, 2) }) ∧ SameMemory s t ∧ (∀ i, t.tile i = s.tile i))
      ∧ (∀ a, imageFails s l = false → codePhys s l = some a → a + 8 * imageWords l ≤ 0xF000000000 → l.pkt.n ≤ 4096 →
        let to_ := codeBase (c / 4) b
        ∃ t : State, exec (.restoreCodeLoad th.birth g) s = .next t ∧ AwayIs s t th (some { w with code := some (c, b) })
          ∧ (∀ i < l.pkt.n, Memory.readNat t.mem (to_ + 4 * i) 4 = Memory.readNat s.mem (a + 4 * i) 4)
          ∧ BytesBut s t [(to_, 8 * imageWords l)] ∧ hasCode t (c / 4) w.launch = true ∧ (∀ i, t.slot i = s.slot i))))
  ∧ (∀ (s : State) (th : Thread) (w : Away) (c : Ctx), awayOf s th = some w → w.st = .restoring →
    let b := recordAddr s w.ctx w.recNo
    let sl := w.slot
    let y := s.core (sl / 8)
    let mask := wordAt s (b + 0x540)
    (∀ i < 18, wordAt s (b + 0x4B0 + 8 * i) = 0) → wordAt s (b + 0x578) = 0 → (∀ i, ∀ e ∈ (s.core i).lbuf, e.th ≠ th) →
    s.context w.ctx = some c → FreeHart s (nodeOfSlot sl) → w.spills = [] → w.third = 0#64 → y.q0.length ≤ 4 → y.q1.length ≤ 4 →
    (∀ i < 0x800, (b + i) / 8 ∉ s.bad) →
    ∃ t : State, exec (.restore th.birth th.gen.toNat) s = .next t ∧ (t.slot sl).st = .running ∧ (t.slot sl).th = th
      ∧ (t.slot sl).latch = (s.slot sl).latch ∧ (t.slot sl).stopped = (s.slot sl).stopped
      ∧ (∀ l, s.launch? w.launch = some l → (t.slot sl).cls = l.cls)
      ∧ (t.slot sl).pc = wordAt s (b + 0x308) % 2 ^ 15 ∧ (t.slot sl).pend = 0#48 ∧ (t.slot sl).owned = []
      ∧ (t.slot sl).turnAt = s.cycle + 1 ∧ (t.slot sl).bstat.toNat = wordAt s (b + 0x340) % 2 ^ 16
      ∧ (∀ k < 4, ((t.slot sl).tagItems k).length = wordAt s (b + 0x340) / 2 ^ (32 + 8 * k) % 2 ^ 8)
      ∧ ((t.slot sl).dfr.isSome = true ↔ 2 ^ 63 ≤ wordAt s (b + 0x388))
      ∧ (∀ r : Reg, ((t.slot sl).rg r).toNat = wordAt s (b + 8 * r.toNat))
      ∧ (∀ r : VReg, ((t.slot sl).rv r).toNat = Memory.readNat s.mem (b + 0x100 + 32 * r.toNat) 32)
      ∧ (∀ p ∈ recordFields (t.slot sl), p.1 ≠ 0x300 → p.1 ≠ 0x308 → p.2.toNat = wordAt s (b + p.1) &&& recordMask p.1)
      ∧ (t.slot sl).pres.toNat = wordAt s (b + 0x300) % 2 ^ 48
      ∧ (sl = th.birth → awayOf t th = none) ∧ (sl ≠ th.birth → AwayIs s t th (some { w with st := .moved (sl / 8) }))
      ∧ t.context w.ctx = some { c with usedRecs := c.usedRecs.filter (fun k => decide (k ≠ w.recNo)),
                                        usedSpills := c.usedSpills.filter (fun k => !w.spills.contains k) }
      ∧ (w.from_ = sl / 8 → (t.core (sl / 8)).tags = y.tags)
      ∧ (w.from_ ≠ sl / 8 → ∀ i < 64, (t.core (sl / 8)).tags.getLsbD i =
          if mask.testBit i then (wordAt s (b + 0x548)).testBit i else y.tags.getLsbD i)
      ∧ SameMemory s t ∧ (∀ i, i ≠ sl → t.slot i = s.slot i))

/-- R358 to R367: a host write is an event of every queue whose next packet it touches. A NOP is taken; a WAIT whose word meets its
condition is taken, else its queue parks, until the signal unit finds the condition met, or stops with ERR 5 when its time is
over; a SIGNAL, once every earlier packet has completed, stores its value or adds it; a PLATEOP goes to the plate table of its
node; a packet whose CRC fails is read again 1 µs apart, and after 8 readings its queue stops with ERR 1. The permissions of a
SIGNAL and the delay of host memory are the model's choices (log entries 50 and 87, DEDUCED). -/
def Obligations.PoolPacketEvents : Prop :=
  (∀ (s : State) (q : Nat) (x : HQueue) (data : List (Nat × BitVec 8)), Tab.look s.queues q = some x →
    (data.map (fun d => d.1)).Nodup → ∃ t : State, exec (.snoopEvent q data) s = .next t
      ∧ (∀ d ∈ data, Memory.byte t.hostMem d.1 = d.2)
      ∧ (∀ a, (∀ d ∈ data, d.1 ≠ a) → Memory.byte t.hostMem a = Memory.byte s.hostMem a)
      ∧ (∃ y : HQueue, Tab.look t.queues q = some y ∧ y = { x with event := true, askedAt := y.askedAt })
      ∧ (∀ k y, k ≠ q → Tab.look s.queues k = some y →
          (∃ z : HQueue, Tab.look t.queues k = some z ∧ z.idx = y.idx ∧ z.state = y.state
            ∧ ((∃ d ∈ data, y.ring + 128 * (y.idx % 2 ^ y.size) ≤ d.1 ∧ d.1 < y.ring + 128 * (y.idx % 2 ^ y.size) + 128) →
                z.event = true)
            ∧ ((∀ d ∈ data, d.1 < y.ring + 128 * (y.idx % 2 ^ y.size) ∨ y.ring + 128 * (y.idx % 2 ^ y.size) + 128 ≤ d.1) →
                z = y)))
      ∧ OnlyQueues s t)
  ∧ (∀ (s : State) (q a : Nat) (x : HQueue), PacketReady s q 0 x a → Zero s a 1 0x78 → Apart x.ridx 4 (a + 0x7F) 1 →
    ∃ t : State, exec (.nopPacket q) s = .next t ∧ Taken s t q x a [] ∧ OnlyQueues s t)
  ∧ (∀ (s : State) (q a : Nat) (x : HQueue), PacketReady s q 2 x a → Zero s a 1 4 → Zero s a 5 8 → Zero s a 0x24 0x78 →
    let w := field s a 8 8
    field s a 4 1 ≤ 3 → w < 2 ^ 42 → w % 16 = 0 →
    (waitTrue s a (wd (Memory.readNat s.hostMem w 8)) → Apart x.ridx 4 (a + 0x7F) 1 →
      ∃ t : State, exec (.wait q) s = .next t ∧ Taken s t q x a [] ∧ OnlyQueues s t)
    ∧ (¬ waitTrue s a (wd (Memory.readNat s.hostMem w 8)) → x.err < 2 ^ 8 → ∃ (t : State) (y : HQueue), exec (.wait q) s = .next t
        ∧ Tab.look t.queues q = some y ∧ y.state = 1 ∧ y.idx = x.idx ∧ y.waitSince = s.cycle
        ∧ Status t x 1 x.err (field s a 0x78 4) ∧ HostBut s t [(x.qstat, 8)] ∧ OnlyQueues s t))
  ∧ (∀ (s : State) (q : Nat) (x : HQueue), Tab.look s.queues q = some x → x.state = 1 →
    let a := x.ring + 128 * (x.idx % 2 ^ x.size)
    let w := field s a 8 8
    (x.slot.isSome = true → w < 2 ^ 42 → x.remap = true ∨ waitTrue s a (wd (Memory.readNat s.hostMem w 8)) → x.err < 2 ^ 8 →
      Apart x.ridx 4 (a + 0x7F) 1 → Apart x.qstat 8 (a + 0x7F) 1 → Apart x.qstat 8 x.ridx 4 →
      ∃ t : State, exec (.waitRemap q) s = .next t ∧ Taken s t q x a [(x.qstat, 8)] ∧ Status t x 0 x.err x.seq.toNat ∧ OnlyQueues s t)
    ∧ (x.remap = false → field s a 0x20 4 ≠ 0 → x.waitSince + 1750 * field s a 0x20 4 ≤ s.cycle →
      ∃ (t : State) (y : HQueue), exec (.waitTimeout q) s = .next t ∧ Tab.look t.queues q = some y ∧ y.state = 2 ∧ y.err = 5 ∧ y.idx = x.idx
        ∧ Status t x 2 5 (field s a 0x78 4) ∧ HostBut s t [(x.qstat, 8)] ∧ OnlyQueues s t))
  ∧ (∀ (s : State) (q a : Nat) (x : HQueue), PacketReady s q 3 x a → Zero s a 1 4 → Zero s a 5 8 → Zero s a 0x18 0x78 →
    let w := field s a 8 8
    let v := field s a 0x10 8
    field s a 4 1 ≤ 1 → w < 2 ^ 42 → w % 16 = 0 → x.pending = [] → Apart x.ridx 4 (a + 0x7F) 1 → Apart w 8 (a + 0x7F) 1 →
    Apart w 8 x.ridx 4 → Apart w 8 a 128 → ∃ t : State, exec (.signal q) s = .next t ∧ Taken s t q x a [(w, 8)] ∧ OnlyQueues s t
      ∧ Memory.readNat t.hostMem w 8 = if field s a 4 1 = 1 then (Memory.readNat s.hostMem w 8 + v) % 2 ^ 64 else v)
  ∧ (∀ (s : State) (q a : Nat) (x : HQueue) (c : Ctx), PacketReady s q 4 x a → Zero s a 1 4 → Zero s a 5 8 → Zero s a 0x10 0x20 →
    Zero s a 0x24 0x60 → Zero s a 0x70 0x78 →
    let n := field s a 0x20 4
    let w := field s a 0x60 8
    field s a 4 1 = 1 → n < 10240 → s.context x.ctx = some c → c.allots n = true → w < 2 ^ 42 → w % 16 = 0 →
    Apart x.ridx 4 (a + 0x7F) 1 → ∃ (t : State) (r : Req), exec (.plateop q) s = .next t ∧ Taken s t q x a [] ∧ OnlyQueues s t
      ∧ t.reqs = s.reqs ++ [r] ∧ r.stage = .queued ∧ r.tgt = .plates n ∧ r.ctx = x.ctx ∧ r.own = .host q (wd w) (wd (field s a 0x68 8))
      ∧ (∃ op, r.op = .plt op (wd (field s a 8 8)) 0#64 0#64) ∧ (∃ y : HQueue, Tab.look t.queues q = some y ∧ y.pending ≠ []))
  ∧ (∀ (s : State) (q a : Nat) (x : HQueue), Tab.look s.queues q = some x → x.state = 0 → x.event = true → x.slot.isSome = true →
    a = x.ring + 128 * (x.idx % 2 ^ x.size) → Memory.byte s.hostMem (a + 0x7F) = 0xA5#8 → crcOk s a = false →
    let again := fun (n : Nat) => ∃ (t : State) (y : HQueue), exec (.packetReread q) s = .next t ∧ Tab.look t.queues q = some y ∧ y.idx = x.idx
      ∧ y.state = 0 ∧ y.rereads = n ∧ y.rereadAt = s.cycle + 1750 ∧ t.hostMem = s.hostMem ∧ OnlyQueues s t
    (x.rereadAt = 0 → again x.rereads)
    ∧ (x.rereadAt ≠ 0 → x.rereadAt ≤ s.cycle → x.rereads < 7 → again (x.rereads + 1))
    ∧ (x.rereadAt ≠ 0 → x.rereadAt ≤ s.cycle → 7 ≤ x.rereads → ∃ (t : State) (y : HQueue), exec (.packetReread q) s = .next t
        ∧ Tab.look t.queues q = some y ∧ y.state = 2 ∧ y.err = 1 ∧ y.idx = x.idx ∧ Status t x 2 1 (field s a 0x78 4)
        ∧ HostBut s t [(x.qstat, 8)] ∧ OnlyQueues s t))

/-- R85, R88, R94, R362, R363, R366, R368 to R371, R373: a LAUNCH packet that passes its checks is taken with the next sequence number
of its context; without work it completes at once; on nodes whose cores can take it, it is placed, in mode 0 on the first free
nodes of the allotment, for which it otherwise waits. Its code then goes into a FREE bank of every tile that needs it, or the
launch's parts end with TAGERR; and a share that owns its schedule table is seeded into the lowest FREE slots of its core, with
the ordinals in g0 and the arguments above it, unless a restore of no higher class number goes first there. The tiles that one code
multicast loads, when a LAUNCH is checked, the order of launches that wait for a core, what a failed delivery leaves, the class
that goes first, and the turn of firmware's work are the model's choices (log entries 22, 49, 52, 53, 89, DEDUCED, and 100). -/
def Obligations.LaunchEvents : Prop :=
  (∀ (s : State) (q a : Nat) (x : HQueue) (c : Ctx), PacketReady s q 1 x a → s.context x.ctx = some c →
    launchErr s x.ctx a x.nfill = 0 → (field s a 1 1 % 2 = 1 → x.pending = []) → Apart x.ridx 4 (a + 0x7F) 1 →
    let p := launchPkt s a
    let k := x.ctx * 2 ^ 32 + (c.lastSeq + 1#32).toNat
    let taken := fun (t : State) (l : Launch) => t.launch? k = some l ∧ l.pkt = p ∧ l.ctx = x.ctx ∧ l.queue = q
      ∧ l.cls = max p.cls x.cls ∧ (∃ d, t.context x.ctx = some d ∧ d.lastSeq = c.lastSeq + 1#32) ∧ SameMemory s t
      ∧ (∀ i, t.slot i = s.slot i)
    (p.work = 0 → p.sig.toNat < 2 ^ 42 → p.sig.toNat % 16 = 0 → p.sig ≠ 0#64 → Apart p.sig.toNat 16 (a + 0x7F) 1 →
      Apart p.sig.toNat 16 x.ridx 4 → ∃ t l, exec (.launch q) s = .next t ∧ taken t l ∧ l.st = .done
        ∧ Taken s t q x a [(p.sig.toNat, 16)] ∧ Memory.readNat t.hostMem p.sig.toNat 8 = p.val.toNat
        ∧ Memory.readNat t.hostMem (p.sig.toNat + 8) 8 = 0)
    ∧ (∀ parts, p.work ≠ 0 → p.mode = 1 → layoutNodes s p (nodeRange p) = .ok parts →
        ∃ t l, exec (.launch q) s = .next t ∧ taken t l ∧ Taken s t q x a [] ∧ l.st = .placed
          ∧ l.parts.map (fun b => b.node) = nodeRange p)
    ∧ (p.work ≠ 0 → p.mode = 0 → ((allotNodes s x.ctx).filter (freeNode s)).length < p.count →
        ∃ t l, exec (.launch q) s = .next t ∧ taken t l ∧ Taken s t q x a [] ∧ l.st = .unplaced ∧ l.parts = []))
  ∧ (∀ (s : State) (k : Nat) (l : Launch) before after, s.launches = before ++ (k, l) :: after → (∀ e ∈ before, e.1 ≠ k) →
    (∀ e ∈ before ++ after, e.2.st = .placed ∨ e.2.st = .done) → l.st = .unplaced → l.pkt.work ≠ 0 → l.pkt.mode = 0 →
    let free := (allotNodes s l.ctx).filter (freeNode s)
    (free.length < l.pkt.count → exec .placementRetry s = .next s)
    ∧ (∀ parts, l.pkt.count ≤ free.length → layoutNodes s l.pkt (free.take l.pkt.count) = .ok parts →
        ∃ t m, exec .placementRetry s = .next t ∧ t.launch? k = some m ∧ m.st = .placed
          ∧ m.parts.map (fun b => b.node) = free.take l.pkt.count
          ∧ SameMemory s t ∧ t.hostMem = s.hostMem ∧ (∀ i, t.slot i = s.slot i)))
  ∧ (∀ (s : State) (k die : Nat) (l : Launch), s.launch? k = some l → l.st = .placed →
    (∀ p, l.parts.find? (fun q => decide (dieOfNode q.node = die)) = some p → FreeHart s p.node) →
    (∀ p tile b a, p ∈ l.parts → dieOfNode p.node = die → tile / 16 = p.node → holdsLaunch s tile k = false →
      (∃ h ∈ p.shares, h.core / 4 = tile ∧ h.seeded = false) → freeBank s tile = some b → imageFails s l = false →
      codePhys s l = some a → a + 8 * imageWords l ≤ 0xF000000000 → l.pkt.n ≤ 4096 →
      ∃ t : State, exec (.codeMulticast k die) s = .next t ∧ hasCode t tile k = true
        ∧ (∀ i < l.pkt.n, Memory.readNat t.mem (codeBase tile b + 4 * i) 4 = Memory.readNat s.mem (a + 4 * i) 4)
        ∧ (∀ i, t.slot i = s.slot i) ∧ t.hostMem = s.hostMem)
    ∧ (∀ p tile, l.parts = [p] → dieOfNode p.node = die → tile / 16 = p.node → holdsLaunch s tile k = false →
      (∃ h ∈ p.shares, h.core / 4 = tile) → (∀ h ∈ p.shares, h.seeded = false) → (freeBank s tile).isSome = true →
      p.complete = false → imageFails s l = true →
      ∃ t r, exec (.codeMulticast k die) s = .next t ∧ t.part? k p.node = some r ∧ r.complete = true ∧ r.shares = []
        ∧ r.word.toNat / 2 ^ 56 = max (p.word.toNat / 2 ^ 56) 0x11 ∧ SameMemory s t ∧ (∀ i, t.slot i = s.slot i)))
  ∧ (∀ (s : State) (k node : Nat) (l : Launch) (p : Part) (h : Share), s.launch? k = some l → s.part? k node = some p →
    p.shares = [h] → h.owns = true → h.seeded = false → h.core / 64 = node → hasCode s (h.core / 4) k = true →
    let free := (List.range 8).filter (fun i => decide ((s.slot (h.core * 8 + i)).st = .free))
    h.slots ≤ free.length →
    (restoresBelow s h.core (l.cls + 1) = true → ∃ t : State, exec (.codeAck k node) s = .next t ∧ (∀ sl, t.slot sl = s.slot sl))
    ∧ (restoresBelow s h.core (l.cls + 1) = false → ∃ t r, exec (.codeAck k node) s = .next t
      ∧ (∀ i < h.slots, let sl := h.core * 8 + nth 0 free i
          Born (s.slot sl) (t.slot sl) sl k l 0 (wd (h.ord + i) :: l.pkt.args))
      ∧ (∀ sl, (∀ i < h.slots, sl ≠ h.core * 8 + nth 0 free i) → t.slot sl = s.slot sl)
      ∧ t.part? k node = some r ∧ r.acked = true ∧ r.shares = [{ h with seeded := true }]
      ∧ SameMemory s t ∧ t.hostMem = s.hostMem))

/-- R154, R251, R306, R313, R315, R355, R358, R361, R373, R392 to R400: MBARG0 to MBARG3 are the registers that a write
changes; no command is taken while one runs, none but DOWNLOAD before phase 6 (ERR 6), no unknown code (ERR 1). MEMWIN, PODKEY,
QREG, QRESTART, QCLASS, CTXSET and CTXEND have their effects or end with the ERR codes of their rules; a CTXEND marks
pre-emption on the context's slots of launches without NOPRE and keeps BUSY while a hart of it stands inside a unit; DOWNLOAD brings the module and its ports
up to phase 6, or leaves it where its phase failed. What QRESTART keeps, the range of SIZE, a command's one step, the march and
stipple results as operands, the order of CTXSET's checks, what the end of a context does with requests, what a port's spare replaces,
which commands mark pre-emption, and that a write where BAR0 has no register changes nothing, are the model's choices (log entries 33,
48, 54 to 57, 78, DEDUCED, and 102, 103). -/
def Obligations.MailboxEvents : Prop :=
  (∀ (s : State) (off : Nat) (v : Word), ∃ t : State, exec (.registerWrite off v) s = .next t ∧ OnlyMail s t
    ∧ t.mbox = { s.mbox with arg0 := if off = 0x008 then v else s.mbox.arg0, arg1 := if off = 0x010 then v else s.mbox.arg1,
                             arg2 := if off = 0x018 then v else s.mbox.arg2, arg3 := if off = 0x020 then v else s.mbox.arg3 })
  ∧ (∀ (s : State) (code : BitVec 8), s.mbox.busy = false → code.toNat ∉ [0x01, 0x10, 0x11, 0x20, 0x21, 0x22, 0x30, 0x40] →
      Refuses s (.unknownCommandCode code) 1)
  ∧ (∀ (s : State), ∀ i ∈ mailCommands, s.mbox.ending = none ∨ i ≠ .ctxend → (s.mbox.busy = true → exec i s = .next s)
      ∧ (s.mbox.busy = false → s.mbox.phase ≠ 6 → Refuses s i 6))
  ∧ (∀ s : State, s.mbox.busy = false → s.mbox.phase = 6 → s.mbox.ending = none →
    let a0 := s.mbox.arg0.toNat
    let a1 := s.mbox.arg1.toNat
    let done := fun (i : Instr) (Q : State → Prop) => ∃ t : State, exec i s = .next t ∧ Answers s t 0 ∧ Q t
    -- MEMWIN
    (a0 % 2 ^ 28 ≠ 0 ∨ a1 % 2 ^ 28 ≠ 0 ∨ 0xF000000000 < a0 + a1 → Refuses s .memwin 1)
    ∧ (a0 % 2 ^ 28 = 0 → a1 % 2 ^ 28 = 0 → a0 + a1 ≤ 0xF000000000 → done .memwin (fun t => OnlyMail s t
        ∧ t.memwin = if a1 = 0 then none else some (a0, a1)))
    -- PODKEY
    ∧ (Unreadable s a0 32 → Refuses s .podkey 3)
    ∧ (¬ Unreadable s a0 32 → done .podkey (fun t => OnlyMail s t
        ∧ ∃ k, t.podSecret = some k ∧ ∀ i < 32, k.extractLsb' (8 * i) 8 = Memory.byte s.hostMem (a0 + i)))
    -- QREG
    ∧ (4095 < a0 → Refuses s .qreg 1) ∧ (a0 ≤ 4095 → Unreadable s a1 0x38 → Refuses s .qreg 3)
    ∧ (a0 ≤ 4095 → ¬ Unreadable s a1 0x38 →
      let w := fun (o : Nat) => field s a1 o 8
      let good := w 0 % 128 = 0 ∧ 4 ≤ w 8 ∧ w 8 ≤ 16 ∧ w 0x10 % 8 = 0 ∧ w 0x18 % 8 = 0 ∧ w 0x20 < 2 ^ 18 ∧ w 0x28 % 128 = 0
        ∧ w 0x30 ≤ 255
      (¬ good → Refuses s .qreg 1) ∧ (good → (∃ q, Tab.look s.queues a0 = some q) → Refuses s .qreg 2)
      ∧ (good → Tab.look s.queues a0 = none → done .qreg (fun t => OnlyMail s t
          ∧ (∀ k, k ≠ a0 → Tab.look t.queues k = Tab.look s.queues k)
          ∧ ∃ q, Tab.look t.queues a0 = some q ∧ q.ring = w 0 ∧ q.size = w 8 ∧ q.ridx = w 0x10 ∧ q.qstat = w 0x18
            ∧ q.ctx = w 0x20 % 2 ^ 16 ∧ q.cls = w 0x20 / 2 ^ 16 ∧ q.fills = w 0x28 ∧ q.nfill = w 0x30 ∧ q.idx = 0 ∧ q.state = 0
            ∧ q.pending = [])))
    -- QRESTART, QCLASS
    ∧ (4095 < a0 → Refuses s .qrestart 1) ∧ (a0 ≤ 4095 → Tab.look s.queues a0 = none → Refuses s .qrestart 7)
    ∧ (∀ q, a0 ≤ 4095 → Tab.look s.queues a0 = some q → (q.state ≠ 2 → Refuses s .qrestart 0)
      ∧ (q.state = 2 → q.err < 2 ^ 8 → done .qrestart (fun t => OnlyMail s t ∧ Status t q 0 q.err q.seq.toNat
          ∧ (∀ k, k ≠ a0 → Tab.look t.queues k = Tab.look s.queues k)
          ∧ ∃ r, Tab.look t.queues a0 = some r ∧ r.state = 0 ∧ r.event = true ∧ r.idx = q.idx)))
    ∧ (4095 < a0 ∨ 3 < a1 → Refuses s .qclass 1) ∧ (a0 ≤ 4095 → a1 ≤ 3 → Tab.look s.queues a0 = none → Refuses s .qclass 7)
    ∧ (∀ q, a0 ≤ 4095 → a1 ≤ 3 → Tab.look s.queues a0 = some q → done .qclass (fun t => OnlyMail s t
        ∧ (∀ k, Tab.look t.queues k = if k = a0 then some { q with cls := a1 } else Tab.look s.queues k)
        ∧ ∀ k l, s.launch? k = some l → t.launch? k = some { l with cls := if l.queue = a0 then max l.pkt.cls a1 else l.cls }))
    -- CTXSET
    ∧ (a0 % 64 ≠ 0 → Refuses s .ctxset 1) ∧ (a0 % 64 = 0 → Unreadable s a0 0x2940 → Refuses s .ctxset 3)
    ∧ (a0 % 64 = 0 → ¬ Unreadable s a0 0x2940 →
      let n := field s a0 0 2
      let c := ctxOfRecord s a0
      (badCtxField s a0 = true → Refuses s .ctxset 1)
      ∧ (badCtxField s a0 = false →
        (s.context n ≠ none ∨ 64 ≤ s.ctxs.length → Refuses s .ctxset 2)
        ∧ (s.context n = none → s.ctxs.length < 64 →
          (badCtxTables c = true → Refuses s .ctxset 5)
          ∧ (badCtxTables c = false → ctxConflict s c = true → Refuses s .ctxset 4)
          ∧ (badCtxTables c = false → ctxConflict s c = false → done .ctxset (fun t => t.context n = some c
            ∧ (∀ k, k ≠ n → t.context k = s.context k) ∧ Cleared s t c ∧ (∀ i, t.slot i = s.slot i)
            ∧ (∀ k, c.allots (nodeOfCore k) = true → (t.core k).tags = 0#64 ∧ (t.core k).tagerr = 0#64)
            ∧ (∀ k, c.allots (nodeOfTile k) = true → (t.tile k).pair2 = none ∧ (t.tile k).pair3 = none)
            ∧ (∀ k e, c.allots k = true → (t.plate k e).st = .free))))))
    -- CTXEND
    ∧ (65535 < a0 → Refuses s .ctxend 1) ∧ (a0 ≤ 65535 → s.context a0 = none → Refuses s .ctxend 7)
    ∧ (∀ c, a0 ≤ 65535 → s.context a0 = some c →
      (hartsBusy s a0 = false → done .ctxend (Ended s a0 c))
      ∧ (hartsBusy s a0 = true → ∃ t : State, exec .ctxend s = .next t
        ∧ t.mbox = { s.mbox with busy := true, ending := some a0 } ∧ SameMemory s t ∧ t.ctxs = s.ctxs ∧ t.launches = s.launches
        ∧ (∀ i x, (i, x) ∈ s.slots → x = s.slot i → x.ctx = a0 → (s.slots.filter (fun e => e.2.ctx = a0)).length ≤ 1 →
            x.st = .running → x.ending = none → x.pre = none → (awayOf s x.th).isSome = true → c.usedRecs.length < c.saveRecs →
            ∀ l, s.launch? x.launch = some l →
              (l.pkt.nopre = false → (t.slot i).pre = some s.cycle) ∧ (l.pkt.nopre = true → t.slot i = x)))))
  ∧ (∀ (s : State) (n : Nat), s.mbox.ending = some n →
    (s.context n = none → ∃ t : State, exec .ctxend s = .next t
      ∧ t.mbox = { s.mbox with busy := false, ending := none, err := 7, result := 0#32 } ∧ OnlyMail s t)
    ∧ (∀ c, s.context n = some c →
      (hartsBusy s n = true → exec .ctxend s = .next { s with mbox := { s.mbox with busy := true, ending := some n } })
      ∧ (hartsBusy s n = false → ∃ t : State, exec .ctxend s = .next t
        ∧ t.mbox = { s.mbox with busy := false, ending := none, err := 0, result := 0#32 } ∧ Ended s n c t)))
  ∧ (∀ (s : State) (rep : Repair), s.mbox.busy = false →
    let a := s.mbox.arg0.toNat
    let n := s.mbox.arg1.toNat
    (s.mbox.phase ≠ 0 → Refuses s (.download rep) 1)
    ∧ (s.mbox.phase = 0 → s.mbox.arg2 = 0#64 → s.mbox.arg3 = 0#64 → Unreadable s a n → Refuses s (.download rep) 3)
    ∧ (s.mbox.phase = 0 → s.mbox.arg2 = 0#64 → s.mbox.arg3 = 0#64 → ¬ Unreadable s a n →
      let up := fun (Q : State → Prop) => ∃ t : State, exec (.download rep) s = .next t ∧ t.mbox.busy = false ∧ t.mbox.err = 0 ∧ Q t
      let boots := fun (t : State) (phase err detail : Nat) => t.mbox.phase = phase ∧ t.mbox.bootErr = err
        ∧ t.mbox.detail = detail ∧ ∃ l, t.bootHist = wd (phase * 2 ^ 56 + err * 2 ^ 48 + detail) :: l
      let bits_ := hostBytes s a n
      (imageErr bits_ ≠ 0 → up (fun t => boots t 0 (imageErr bits_) 0 ∧ OnlyMail s t))
      ∧ (imageErr bits_ = 0 →
        (∀ e d, discoveryErr rep (badPositions rep []) = some (e, d) → up (fun t => boots t 4 e d))
        ∧ (∀ d k, discoveryErr rep (badPositions rep []) = none → rep.deliver = some (d, k) →
            up (fun t => boots t 5 6 (1024 * d + k)))
        ∧ (discoveryErr rep (badPositions rep []) = none → rep.deliver = none → up (fun t => boots t 6 0 0
            ∧ t.defects = badPositions rep [] ∧ (∀ i < n, Memory.byte t.image i = Memory.byte s.hostMem (a + i))
            ∧ (∀ sl, (∃ b, (sl, b) ∈ rep.march1 ∧ (sl, b) ∈ rep.march2) → (t.slot sl).st = .disabled)
            ∧ (∀ sl, (∀ b, (sl, b) ∈ rep.march1 → (sl, b) ∉ rep.march2) → t.slot sl = s.slot sl)
            ∧ (∀ k x, k < 64 → rep.ports[k]? = some x → PortUp x (portAt t k))
            ∧ (∀ k, k < 64 → rep.ports[k]? = none → (portAt t k).disabled = true)
            ∧ SameMemory s t)))))

/-- R193, R391, R392, R397, R402 to R405: the host's words through CXL.mem land and read within the window of MEMWIN only; BAR2
reads state and takes no write; power-up reset leaves every agent at its reset state; at a period boundary an active context's
bucket has at least its share, the sole one all of it; the throttle levels follow the temperature, a droop lasts 1,024 cycles
from 2 cycles after it, and a node at 115 °C or a shutdown removes the power. What the window shows of stretches without a layout
(log entry 26), the steps of the throttle level, a host access outside the window, the first period's tokens and what a power-up
keeps are the model's choices (log entries 58 to 61, DEDUCED). -/
def Obligations.ModuleEvents : Prop :=
  (∀ (s : State) (addr : Nat) (data : List (Option Word)),
    let refused := exec (.hostMemAccess addr data) s = .next { s with hostOut := s.hostOut ++ [.unsupported] }
    (s.memwin = none → refused)
    ∧ (∀ b n, s.memwin = some (b, n) → addr % 8 ≠ 0 ∨ addr < b ∨ b + n < addr + 8 * data.length → refused)
    ∧ (∀ b n, s.memwin = some (b, n) → addr % 8 = 0 → b ≤ addr → addr + 8 * data.length ≤ b + n →
      ∃ t : State, exec (.hostMemAccess addr data) s = .next t
        ∧ (∀ i v, data[i]? = some (some v) → Memory.readNat t.mem (addr + 8 * i) 8 = v.toNat ∧ (addr + 8 * i) / 8 ∉ t.bad)
        ∧ (∀ a, (∀ i v, data[i]? = some (some v) → a < addr + 8 * i ∨ addr + 8 * i + 8 ≤ a) →
            Memory.byte t.mem a = Memory.byte s.mem a)
        ∧ (data = [none] → t.hostOut = s.hostOut ++ [.word (wd (Memory.readNat s.mem addr 8))
            ((List.range 8).any (fun i => s.bad.contains (addr / 64 * 8 + i)))])
        ∧ OnlyAt s t [] [] [] [] ∧ SameModule s t))
  ∧ (∀ (s : State) (off : BitVec 41) (v : Word),
      exec (.bar2Write off v) s = .next { s with hostOut := s.hostOut ++ [.unsupported] })
  ∧ (∀ (s : State) (off : BitVec 41), let a := off.toNat / 8 * 8
    (∀ w, windowWord s off.toNat = some w → exec (.stateWindowRead off) s = .next { s with hostOut := s.hostOut ++ [.word w false] })
    ∧ (windowWord s off.toNat = none → ∃ w, exec (.stateWindowRead off) s
        = .next { s with hostOut := s.hostOut ++ [.word w false], freeCtr := s.freeCtr + 1 })
    ∧ (a < 10240 * 2 ^ 21 → (2 ^ 41 + a) / 8 ∉ s.bad → windowWord s off.toNat = some (wd (Memory.readNat s.mem (2 ^ 41 + a) 8)))
    ∧ (∀ c, c < 10240 * 64 → let b := 2 ^ 40 + c / 65536 * 2 ^ 31 + c / 64 % 1024 * 2 ^ 21 + c % 64 * 2 ^ 15
      let x := s.core c
      (a = b + 0x5C00 → windowWord s off.toNat = some x.tags) ∧ (a = b + 0x5C08 → windowWord s off.toNat = some x.tagerr)
      ∧ (a = b + 0x4400 → windowWord s off.toNat = some (wd x.deque.length))
      ∧ (b + 0x5700 ≤ a → a < b + 0x5800 → windowWord s off.toNat = some 0#64)
      ∧ (∀ k r, k < 8 → r < 32 → a = b + k * 2 ^ 11 + 8 * r → windowWord s off.toNat = some ((s.slot (c * 8 + k)).rg (BitVec.ofNat 5 r)))
      ∧ (∀ k, k < 8 → a = b + k * 2 ^ 11 + 0x308 → windowWord s off.toNat = some (wd (s.slot (c * 8 + k)).pc))
      ∧ (∀ k, k < 8 → b + k * 2 ^ 11 + 0x600 ≤ a → a < b + (k + 1) * 2 ^ 11 → windowWord s off.toNat = some 0#64))
    ∧ (∀ n, n < 10240 → let b := 2 ^ 40 + 2 ^ 38 + n / 1024 * 2 ^ 31 + n % 1024 * 2 ^ 21
      (∀ e, e < 64 → a = b + 32 * e → windowWord s off.toNat = some (s.plate n e).name)
      ∧ (∀ h r, h < 8 → r < 32 → a = b + 0x4000 + h * 2 ^ 11 + 8 * r →
          windowWord s off.toNat = some ((Tab.get Slot.reset (s.node n).hslots h).rg (BitVec.ofNat 5 r)))
      ∧ (∀ h, h < 8 → b + 0x4000 + h * 2 ^ 11 + 0x600 ≤ a → a < b + 0x4000 + (h + 1) * 2 ^ 11 → windowWord s off.toNat = some 0#64))
    ∧ (∀ sl, sl < 10240 * 512 → a = 2 ^ 40 + sl / 8 * 2 ^ 15 + sl % 8 * 2 ^ 11 + 0x580 → windowWord s off.toNat =
        some (wd ((s.slot sl).st.code * 2 ^ 60 + (s.slot sl).reason.code * 2 ^ 56 + (s.slot sl).changes.toNat * 2 ^ 40))))
  ∧ (∀ s : State, ∃ t : State, exec .powerUpReset s = .next t ∧ t.power = true ∧ t.mbox.phase = 0 ∧ (∀ sl, t.slot sl = Slot.reset)
      ∧ (∀ c, t.core c = Core.reset) ∧ (∀ k, t.tile k = Tile.reset) ∧ (∀ n, t.node n = Node.reset)
      ∧ t.reqs = [] ∧ t.ctxs = [] ∧ t.launches = [] ∧ t.queues = [] ∧ t.memwin = none ∧ t.podSecret = none ∧ t.pod = Pod.reset
      ∧ t.hostMem = s.hostMem ∧ t.agenda = s.agenda)
  ∧ (∀ (s : State) (n : Nat), let p := s.cycle / 1024 + 1
    (p ≤ (s.node n).period → exec (.bucketPeriod n) s = .next s)
    ∧ ((s.node n).period < p → ∃ t : State, exec (.bucketPeriod n) s = .next t ∧ (t.node n).period = p
      ∧ (∀ c x, s.context c = some x →
          let b := s.bucket n c
          let d := t.bucket n c
          let hbm := b.hbmAct = true ∨ waitsAt s n c false = true
          let fab := b.fabAct = true ∨ waitsAt s n c true = true
          d.hbmAct = false ∧ d.fabAct = false
          ∧ (hbm → 36 * x.hbmShare / 256 ≤ d.hbm) ∧ (¬ hbm → d.hbm = min 1 (36 * x.hbmShare / 256))
          ∧ (fab → 4 * x.fabShare / 256 ≤ d.fab) ∧ (¬ fab → d.fab = min 1 (4 * x.fabShare / 256))
          ∧ (s.ctxs = [(c, x)] → hbm → 0 < x.hbmShare → x.hbmShare ≤ 256 → d.hbm = 36)
          ∧ (s.ctxs = [(c, x)] → fab → 0 < x.fabShare → x.fabShare ≤ 256 → d.fab = 4))
      ∧ SameMemory s t ∧ OnlyAt s t [] [] [] [n] ∧ SameModule s t))
  ∧ (∀ (s : State) (n : Nat), let x := s.node n
    (∀ temp, ∃ t l, exec (.thermalThrottle n temp) s = .next t ∧ t.node n = { x with temp := temp, level := l }
      ∧ t.power = (s.power && decide (temp < 115))
      ∧ (105 ≤ temp → l = 6) ∧ (x.level = 6 → 100 < temp → l = 6) ∧ (x.level = 6 → temp ≤ 100 → l = 2)
      ∧ (x.level ≠ 6 → 95 ≤ temp → temp < 105 → l = 2) ∧ (x.level = 2 → 90 < temp → temp < 105 → l = 2)
      ∧ (x.level = 2 → temp ≤ 90 → l = 0) ∧ (x.level = 0 → temp < 95 → l = 0)
      ∧ SameMemory s t ∧ OnlyAt s t [] [] [] [n] ∧ SameModule s t)
    ∧ (let going := x.droop.filter (fun h => decide (s.cycle < h.2))
      let gives := fun (i : Instr) (l : List (Nat × Nat)) => ∃ t : State, exec i s = .next t ∧ t.node n = { x with droop := l }
        ∧ SameMemory s t ∧ OnlyAt s t [] [] [] [n] ∧ SameModule s t
      gives (.droopThrottle n) (going ++ [(s.cycle + 2, s.cycle + 2 + 1024)]) ∧ gives (.droopThrottleEnd n) going
      ∧ (∀ h ∈ x.droop, h.1 ≤ s.cycle → s.cycle < h.2 → throttled s n = decide (s.cycle / 8 % 8 < max 4 x.level))
      ∧ ((∀ h ∈ x.droop, s.cycle < h.1 ∨ h.2 ≤ s.cycle) → throttled s n = decide (s.cycle / 8 % 8 < x.level)))
    ∧ (∃ t : State, exec (.thermalShutdown n) s = .next t ∧ t.power = false ∧ (t.node n).temp = 115
      ∧ ((∀ rest, s.agenda ≠ .event .powerUpReset :: rest) → step t = .fault .powerRemoved)))

/-- R337 to R345, R348 to R350, R353 to R356: at a slot pulse a port meets its partner and sends, within the bytes of a meeting,
frames sealed with counter values that are never used twice; a packet goes by relay only where the relay has admitted it and meets the
target soonest; a failed presence window counts and ends the meeting; the relay buffer of 16 MiB admits what fits and refuses what
does not and what goes to a lost member; a frame is accepted under the right key state and a newer counter; a packet that has come
whole, with its header's CRC right, is accepted once, by its epoch and SEQ, receipted and performed; receipts and the age of 1 ms end a
packet's record. What a receipt's own receipt would be, the rotation that KEYIX names, the fourth failure, the space of a relayed
packet, where a request enters the mesh, when an item's number is new, that a hint for an earlier thread is acknowledged without
effect and that a hint's entry counts as used last, and the beats of a down pair are the model's choices (log entries 66 to 71, 75, 77,
80, DEDUCED, and 41, 65, 109). -/
def Obligations.PodMeetingEvents : Prop :=
  (∀ (s : State) (p : BitVec 6) (n d e : Nat), s.pod.pos = some d → e = d ^^^ (16 * p.toNat + (n + p.toNat) % 16) →
    (e = d ∨ Tab.look s.pod.joins e = none ∨ e ∈ s.pod.lost ∨ n < s.pod.slot) →
    exec (.rotorMeeting p n) s = .next s ∧ exec (.failedPresenceWindow p n) s = .next s)
  ∧ (∀ (s : State) (p : BitVec 6) (n d e : Nat), d < 1024 → Meets s d e p.toNat n →
    let x := portAt s p.toNat
    let begun := x.met = some (n, true)
    let pulse := { s with pod := { s.pod with slot := n } }
    (DirectPair s e p.toNat → x.met = some (n, false) → exec (.rotorMeeting p n) s = .next pulse)
    ∧ (∀ k : Key, DirectPair s e p.toNat → x.met ≠ some (n, false) → Tab.look s.pod.keys (2 * e) = some k → k.ctr < 2 ^ 64 →
      (s.pod.out.Pairwise (fun a b => a.id ≠ b.id)) → (s.pod.relay.Pairwise (fun a b => a.id ≠ b.id)) →
      ∃ (t : State) (k' : Key) (fs : List (List Vec)) (ws : List Frame), exec (.rotorMeeting p n) s = .next t ∧ OnlyPod s t
        ∧ t.pod.slot = n ∧ OtherPorts s t p.toNat ∧ (¬ begun → Tab.get 0 t.pod.fails e = 0)
        -- what goes on the link: frames of a run of counter values, within 192,000 bytes
        ∧ portAt t p.toNat = { x with met := some (n, true), bad := if begun then x.bad else 0,
                                      sent := (if begun then x.sent else 0) + (fs.map (fun f => 32 * (f.length + 1))).sum,
                                      wire := (if begun then x.wire else []) ++ ws }
        ∧ SealedRun k d e p.toNat k.ctr fs ws ∧ ((begun → x.sent ≤ 192000) → (portAt t p.toNat).sent ≤ 192000)
        ∧ Tab.look t.pod.keys (2 * e) = some k' ∧ k'.ctr = k.ctr + (fs.map (fun f => f.length)).sum ∧ k'.ctr < 2 ^ 64
        ∧ k'.rot = k.rot ∧ k'.secret = k.secret ∧ k'.last = k.last
        ∧ (∀ j : Nat, j ≠ 2 * e → Tab.look t.pod.keys j = Tab.look s.pod.keys j)
        ∧ (k.exhausted ≠ none → k' = k ∧ ws = [] ∧ t.pod.out = s.pod.out ∧ t.pod.relay = s.pod.relay ∧ t.pod.keyexh = s.pod.keyexh)
        ∧ (k.exhausted = none → k'.exhausted = none ∧ t.pod.keyexh = s.pod.keyexh
            ∨ k'.exhausted = some s.cycle ∧ k'.ctr = 2 ^ 64 - 1 ∧ t.pod.keyexh = s.pod.keyexh ++ [(p.toNat, e)])
        -- packets leave with a record; the window of 4,096 holds back
        ∧ (∀ o ∈ t.pod.out, o ∈ s.pod.out)
        ∧ (∀ o ∈ s.pod.out, o ∈ t.pod.out
            ∨ ({ dst := o.hdr.dst.toNat, seq := o.hdr.seq, since := s.cycle } : Unreceipted) ∈ t.pod.unreceipted)
        ∧ (∀ o ∈ s.pod.out, (∃ u ∈ s.pod.unreceipted, u.dst = o.hdr.dst.toNat ∧ u.seq = o.hdr.seq - 4096#32
            ∧ s.cycle < u.since + 1750000) → o ∈ t.pod.out)
        ∧ (∀ o ∈ s.pod.out, (∃ q ∈ s.pod.out, q.hdr.dst = o.hdr.dst ∧ q.hdr.seq = o.hdr.seq - 4096#32) → o ∈ t.pod.out)
        ∧ (∀ u ∈ s.pod.unreceipted, u ∈ t.pod.unreceipted)
        -- one that is not for the partner goes to the admitting relay that meets its target first, before the direct slot
        ∧ (∀ o ∈ s.pod.out, o ∉ t.pod.out → o.hdr.dst.toNat ≠ e → let y := o.hdr.dst.toNat
            Config.relayAdmits o.id e n = true ∧ ∃ u, FirstMeeting e y (n + 1) u
              ∧ (∀ q f v, q < 64 → f = d ^^^ (16 * q + (n + q) % 16) → f ≠ d → f ≠ y → (∃ j, Tab.look s.pod.joins f = some j) →
                  f ∉ s.pod.lost → Config.relayAdmits o.id f n = true → CanSend s f q → FirstMeeting f y (n + 1) v →
                  u < v ∨ (u = v ∧ p.toNat ≤ q))
              ∧ (CanSend s y ((d ^^^ y) / 16) → (∀ q ∈ s.pod.out, q.hdr.dst = o.hdr.dst → q = o) →
                  (∀ q ∈ s.pod.relay, q.hdr.dst ≠ o.hdr.dst) →
                  (portAt s ((d ^^^ y) / 16)).met ≠ some (n, true) → wireBytes (framesOf o) ≤ 192000 →
                  ∀ v, FirstMeeting d y n v → u < v))
        -- relayed packets go to their targets only, and none that is 1 ms old
        ∧ (∀ o ∈ t.pod.relay, o ∈ s.pod.relay)
        ∧ (∀ o ∈ s.pod.relay, o.hdr.dst.toNat ≠ e ∨ (∃ c, o.firstSent = some c ∧ c + 1750000 ≤ s.cycle) → o ∈ t.pod.relay)
        -- what fits is sent
        ∧ (∀ o, s.pod.out ++ s.pod.relay = [o] → o.hdr.dst.toNat = e → k.exhausted = none → ¬ begun → (∀ u ∈ s.pod.unreceipted, u.dst ≠ e) →
            (∀ c, o.firstSent = some c → s.cycle < c + 1750000) → k.ctr + 4 * (flitsOf o.hdr o.body).length < 2 ^ 64 - 1 →
            4 * wireBytes (framesOf o) ≤ 192000 → t.pod.out = [] ∧ t.pod.relay = []))
    ∧ (¬ DirectPair s e p.toNat → (∃ b, x.met = some (n, b)) → exec (.rotorMeeting p n) s = .next pulse)
    ∧ (¬ DirectPair s e p.toNat → (∀ b : Bool, x.met ≠ some (n, b)) → ∃ (t : State) (o : Packet), exec (.rotorMeeting p n) s = .next t ∧ OnlyPod s t
        ∧ t.pod.out = s.pod.out ++ [o] ∧ o.body = .presence ∧ o.hdr.dst = BitVec.ofNat 10 e ∧ t.pod.fails = s.pod.fails
        ∧ portAt t p.toNat = { x with met := some (n, true) } ∧ OtherPorts s t p.toNat)
    ∧ ((DirectPair s e p.toNat → ∀ b : Bool, x.met ≠ some (n, b)) → (¬ DirectPair s e p.toNat → x.met = some (n, true)) →
        ∃ t : State, exec (.failedPresenceWindow p n) s = .next t ∧ OnlyPod s t ∧ Tab.get 0 t.pod.fails e = Tab.get 0 s.pod.fails e + 1
          ∧ (∀ k : Nat, k ≠ e → Tab.get 0 t.pod.fails k = Tab.get 0 s.pod.fails k) ∧ portAt t p.toNat = { x with met := some (n, false) }
          ∧ OtherPorts s t p.toNat ∧ t.pod.out = s.pod.out ∧ t.pod.relay = s.pod.relay))
  ∧ (∀ (s : State) (h : PodHeader) (b : PodBody) (d : Nat), s.pod.pos = some d → h.dst.toNat ≠ d → h.src.toNat ≠ d →
    let used := (s.pod.relay.map (fun o => 16 + o.hdr.len.toNat)).sum
    let offers := exec (.relayOffer h b) s
    (Tab.look s.pod.joins h.src.toNat = none ∨ NotArrived s h b → offers = .next s)
    ∧ (∀ (p : Nat) (u : State), (∃ j, Tab.look s.pod.joins h.src.toNat = some j) → TakenAt s h b p u →
      (¬ CrcRight h → ∃ t : State, offers = .next t ∧ CountedAt u t p)
      ∧ (CrcRight h → h.src.toNat ∈ s.pod.lost → offers = .next u)
      ∧ (CrcRight h → h.src.toNat ∉ s.pod.lost →
        (h.dst.toNat ∈ s.pod.lost → ∃ t : State, offers = .next t ∧ OnlyPod u t ∧ t.pod.relay = s.pod.relay
          ∧ Sends t h.src.toNat (.dropRefusal h.dst.toNat h.seq))
        ∧ (h.dst.toNat ∉ s.pod.lost → used + (16 + h.len.toNat) ≤ 16777216 → ∃ (t : State) (o : Packet), offers = .next t ∧ OnlyPod u t
            ∧ t.pod = { u.pod with relay := s.pod.relay ++ [o] } ∧ o.hdr = h ∧ o.body = b ∧ o.firstSent = some s.cycle
            ∧ o.relayed = true ∧ o.id = s.nextId)
        ∧ (h.dst.toNat ∉ s.pod.lost → 16777216 < used + (16 + h.len.toNat) → (∀ o ∈ s.pod.out, o.id < s.nextId) →
            ∃ (t : State) (o : Packet), offers = .next t ∧ OnlyPod u t ∧ t.pod.relay = s.pod.relay ∧ o.hdr.dst = h.src
              ∧ o.body = .offerRefusal h.dst.toNat h.seq
              ∧ (t.pod.out = s.pod.out ++ [o] ∨ t.pod.out = s.pod.out
                  ∧ ({ dst := h.src.toNat, seq := o.hdr.seq, since := s.cycle } : Unreceipted) ∈ t.pod.unreceipted)))))
  ∧ (∀ (s : State) (p : BitVec 6) (tr : Vec) (pl : List Vec) (d : Nat), s.pod.pos = some d →
    let e := trailerField tr 191 182
    let x := portAt s p.toNat
    let same := fun (t : State) => OnlyPod s t ∧ OtherPorts s t p.toNat ∧ t.pod.out = s.pod.out ∧ t.pod.relay = s.pod.relay
    (∀ (k : Key) (r : Nat), Tab.look s.pod.keys (2 * e + 1) = some k → FrameGood k d e p.toNat r tr pl →
      ∃ t : State, exec (.frameReceive p tr pl) s = .next t ∧ same t
        ∧ portAt t p.toNat = { x with bad := 0, rx := x.rx ++ (opened k d e p.toNat r tr pl).2.map some }
        ∧ Tab.look t.pod.keys (2 * e + 1) = some { k with rot := r, last := some (trailerField tr 255 192) }
        ∧ ∀ j : Nat, j ≠ 2 * e + 1 → Tab.look t.pod.keys j = Tab.look s.pod.keys j)
    ∧ ((∀ (k : Key) (r : Nat), Tab.look s.pod.keys (2 * e + 1) = some k → ¬ FrameGood k d e p.toNat r tr pl) →
      ∃ t : State, exec (.frameReceive p tr pl) s = .next t ∧ same t ∧ t.pod.keys = s.pod.keys
        ∧ portAt t p.toNat = if x.bad < 3 then { x with bad := x.bad + 1 }
            else { x with bad := 0, errs := x.errs + 1, rx := x.rx ++ [none] }))
  ∧ (∀ (s : State) (h : PodHeader) (b : PodBody), let arrives := exec (.podPacketArrive h b) s
    (s.pod.pos ≠ some h.dst.toNat ∨ h.src = h.dst ∨ NotArrived s h b → arrives = .next s)
    ∧ (∀ (p : Nat) (u : State), s.pod.pos = some h.dst.toNat → h.src ≠ h.dst → TakenAt s h b p u →
      (¬ CrcRight h → ∃ t : State, arrives = .next t ∧ CountedAt u t p)
      ∧ (CrcRight h → ¬ FromMember s h → arrives = .next u)
      ∧ (CrcRight h → FromMember s h →
        let w := windowOf s h.src
        let src := h.src.toNat
        let taken := fun (Q : State → Prop) => ∃ t : State, arrives = .next t ∧ AcceptedIn s t h b ∧ portAt t p = portAt u p
          ∧ OtherPorts s t p ∧ SameMemory s t ∧ Q t
        (∀ m : BitVec 32, w.high = some m → ¬ Newer h.seq m → Recorded w h.seq → arrives = .next u)
        ∧ (∀ m : BitVec 32, w.high = some m → ¬ Newer h.seq m → 4096 ≤ (m - h.seq).toNat → ∃ t : State, arrives = .next t ∧ CountedAt u t p)
        ∧ (Acceptable w h.seq →
          (b = .presence → taken (fun t => OnlyPod s t ∧ Tab.get 0 t.pod.fails src = 0))
          ∧ ((∃ q, b = .receipt q) ∨ (∃ q, b = .lossNotice q) ∨ (∃ q r, b = .dropRefusal q r) →
              taken (fun t => OnlyPod s t ∧ t.pod.inbox = s.pod.inbox ++ [(src, b)] ∧ t.reqs = s.reqs))
          ∧ (∀ q r, b = .offerRefusal q r → taken (fun t => OnlyPod s t ∧ t.pod.inbox = s.pod.inbox ∧ t.reqs = s.reqs))
          ∧ (∀ (rid : Nat) (v : Vec) (f : Option (Nat × Nat)), b = .reply rid v f →
            (∀ r : Req, s.req? rid = some r → (∃ c, r.stage = .sent c) → r.tgt = .remote src → r.item = none →
              taken (fun t => OnlyPod s t ∧ ∃ (g : Option FaultInfo) (k : Nat), s.nextId ≤ k
                ∧ t.reqs = s.reqs.map (fun q => if q.id = rid then { q with stage := .replied v g, stamp := k } else q) ∧ (f = none ↔ g = none)
                ∧ ∀ (c j : Nat), f = some (c, j) → ∃ i, g = some i ∧ i.cause = BitVec.ofNat 8 c ∧ i.finfo = r.info ||| wd j))
            ∧ ((∀ r : Req, s.req? rid = some r → (∀ c, r.stage ≠ .sent c) ∨ r.tgt ≠ .remote src ∨ r.item ≠ none) →
              taken (fun t => OnlyPod s t ∧ t.reqs = s.reqs)))
          ∧ (∀ rid : Nat, b = .waiting rid → taken (fun t => OnlyPod s t
              ∧ t.reqs = s.reqs.map (fun r => if r.id = rid ∧ r.tgt = .remote src ∧ r.stage.isSent = true
                  then { r with stage := .sent s.cycle, listed := true } else r)))
          ∧ (∀ (rid limit : Nat) (op : PodOp) (a : Nat), b = .access rid none limit op a →
            (∀ (c loc : Nat), inboundCheck s h.pctx.toNat (memOpOf op).need a = some (c, loc) → taken (fun t => OnlyPod s t
              ∧ ∃ r : Req, t.reqs = s.reqs ++ [r] ∧ r.own = .remote src rid 0 0 ∧ r.op = memOpOf op ∧ r.loc = loc ∧ r.ctx = c
                ∧ r.item = none ∧ r.stage = .port ∧ r.limit = limit))
            ∧ (inboundCheck s h.pctx.toNat (memOpOf op).need a = none → taken (fun t => OnlyPod s t ∧ t.reqs = s.reqs
              ∧ ∃ o ∈ t.pod.out, o.hdr.dst = h.src ∧ o.hdr.vc = 1#2 ∧ o.body = .reply rid 0#256 (some (0x03, 9)))))
          ∧ (∀ (rid limit sl tag q n g : Nat) (op : PodOp) (a : Nat), b = .access rid (some (sl, tag, q, n, g)) limit op a →
            (∀ i ∈ s.pod.items, i.pos ≠ src ∨ i.sl ≠ sl ∨ i.tag ≠ tag ∨ i.seq ≠ q ∨ i.batch ≠ g) →
            let item := fun (i : PeerItem) => i.pos = src ∧ i.sl = sl ∧ i.tag = tag ∧ i.seq = q ∧ i.batch = g ∧ i.due = n - 1
            (∀ (c loc : Nat), inboundCheck s h.pctx.toNat (memOpOf op).need a = some (c, loc) → taken (fun t => OnlyPod s t
              ∧ ∃ (r : Req) (i : PeerItem), t.reqs = s.reqs ++ [r] ∧ r.own = .remote src sl 0 g ∧ r.op = memOpOf op ∧ r.loc = loc ∧ r.ctx = c
                ∧ r.item = some (tag, q) ∧ r.stage = .port ∧ r.limit = limit
                ∧ t.pod.items = s.pod.items ++ [i] ∧ item i ∧ i.left = n ∧ i.code = 0#8))
            ∧ (inboundCheck s h.pctx.toNat (memOpOf op).need a = none → taken (fun t => OnlyPod s t ∧ t.reqs = s.reqs
              ∧ ∃ i : PeerItem, t.pod.items = s.pod.items ++ [i] ∧ item i ∧ i.left = n - 1 ∧ i.code = 0x83#8 ∧ i.fault = some (rid, 9))))
          ∧ (∀ (sl gen tag q g : Nat) (a v : Word) (direct : Option Nat), b = .landing sl gen tag q g a v direct →
            (∀ i ∈ s.pod.items, i.pos ≠ src ∨ i.sl ≠ sl ∨ i.tag ≠ tag ∨ i.seq ≠ q ∨ i.batch ≠ g) → taken (fun t => OnlyPod s t
              ∧ ∃ (r : Req) (i : PeerItem), t.reqs = s.reqs ++ [r] ∧ r.own = .remote src sl gen g ∧ r.op = .landing v direct false ∧ r.ea = a
                ∧ r.item = some (tag, q) ∧ r.stage = .port ∧ t.pod.items = s.pod.items ++ [i] ∧ i.pos = src ∧ i.sl = sl
                ∧ i.tag = tag ∧ i.seq = q ∧ i.batch = g ∧ i.left = 1 ∧ i.code = 0#8))
          ∧ (∀ (sl g : Nat) (tag : BitVec 2) (items : List Nat), b = .summaryRequest sl tag g items →
            let same := fun (k : PeerAsk) => k.pos = src ∧ k.sl = sl ∧ k.tag = tag ∧ k.batch = g ∧ k.items = items
            ((∃ k ∈ s.pod.asks, same k) → taken (fun t => OnlyPod s t ∧ t.pod.asks = s.pod.asks))
            ∧ ((∀ k ∈ s.pod.asks, ¬ same k) → taken (fun t => OnlyPod s t
              ∧ ∃ k : PeerAsk, t.pod.asks = s.pod.asks ++ [k] ∧ same k ∧ k.since = s.cycle)))
          ∧ (∀ (id sl gen : Nat) (hd : BitVec 45) (core : Option Nat), b = .hint id sl gen hd core →
            taken (fun t => (core.isSome = true → Sends t src (.hintAck id)) ∧ OnlyAt s t [sl] [] [] []
              ∧ ((s.slot sl).th.gen.toNat ≠ gen → t.slot sl = s.slot sl)
              ∧ ((s.slot sl).th.gen.toNat = gen → ∀ c, core = some c → (t.slot sl).routes.head? = some (hd, c))
              ∧ ((s.slot sl).th.gen.toNat = gen → core = none → ∀ c, (hd, c) ∉ (t.slot sl).routes)))))))
  ∧ (∀ (s : State) (d : BitVec 10) (q : BitVec 32), let it := (d.toNat, PodBody.receipt q)
    (it ∉ s.pod.inbox → exec (.podReceipt d q) s = .next s)
    ∧ (∀ before after, FirstIn (fun m => m = it) s.pod.inbox before it after → ∃ t : State, exec (.podReceipt d q) s = .next t ∧ OnlyPod s t
      ∧ t.pod.inbox = before ++ after
      ∧ (∀ u, u ∈ t.pod.unreceipted ↔ u ∈ s.pod.unreceipted ∧ ¬ (u.dst = d.toNat ∧ u.seq = q)) ∧ t.pod.out = s.pod.out))
  ∧ (∀ (s : State) (id d c : Nat) before o after, s.pod.pos = some d → FirstIn (fun q : Packet => q.id = id) s.pod.relay before o after →
    o.firstSent = some c →
    let p := (d ^^^ o.hdr.dst.toNat) / 16
    (s.cycle < c + 1750000 → exec (.podPacketExpire id) s = .next s)
    ∧ (c + 1750000 ≤ s.cycle → ∃ t : State, exec (.podPacketExpire id) s = .next t ∧ OnlyPod s t
        ∧ t.pod.relay = s.pod.relay.filter (fun q => decide (q.id ≠ id))
        ∧ portAt t p = { portAt s p with errs := (portAt s p).errs + 1 } ∧ OtherPorts s t p ∧ t.pod.out = s.pod.out))

/-- R336, R344, R346 to R353, R355 to R357: a waiting request of another module sends a notice every 100 µs; a request without reply for
1 ms ends PEERLOST or INDET with reason 2; items that a summary waits for in vain fail with 0x8E, or with the fault that one of
their performs has met (the model's choice, log entry 71); an unanswered summary request is
sent again; three failed windows or a notice that has arrived declare a member lost, by the table of R349, as a refused relayed
packet does without the declaration; a join starts epoch, window and keys anew; a key state past 2^63 or stopped gets the next key;
without one for 1 ms the pair's port is down. What the loss of a member does to accesses under way there, what a refusal of a dropped
packet covers, when notices and timers start, this module's own record and the spare of a port are the model's choices (log entries
5, 19, 69, 72 to 74, 78, DEDUCED). -/
def Obligations.PodLossEvents : Prop :=
  (∀ (s : State) (id : Nat) (r : Req), s.req? id = some r →
    (∀ pos rid g b, r.own = .remote pos rid g b → r.item = none → pos ∉ s.pod.lost → (∃ c, r.stage = .waiting c) →
      (s.cycle < r.noticeAt → exec (.waitingNotice id) s = .next s)
      ∧ (r.noticeAt ≤ s.cycle → ∃ t o, exec (.waitingNotice id) s = .next t ∧ OnlyPod s t
        ∧ t.reqs = s.reqs.map (fun q => if q.id = id then { q with noticeAt := s.cycle + 175000 } else q)
        ∧ t.pod.out = s.pod.out ++ [o] ∧ o.body = .waiting rid ∧ o.hdr.dst = BitVec.ofNat 10 pos ∧ o.hdr.vc = 3#2))
    ∧ ((∀ c, r.stage ≠ .waiting c) → exec (.waitingNotice id) s = .next s)
    ∧ (∀ c, r.stage = .sent c → r.item = none → c + 1750000 ≤ s.cycle → ∃ f, FaultOf r f.cause 2 f
        ∧ (Reads r.op → f.cause = 0x0E#8) ∧ (¬ Reads r.op → f.cause = 0x0F#8)
        ∧ exec (.remoteReplyTimeout id) s
          = .next { s with reqs := restaged s id (.replied 0#256 (some f)), nextId := s.nextId + 1 })
    ∧ (∀ c, r.stage = .sent c → s.cycle < c + 1750000 ∨ r.item ≠ none → exec (.remoteReplyTimeout id) s = .next s))
  ∧ (∀ (s : State) (id : Nat) before a after, FirstIn (fun b : PeerAsk => b.id = id) s.pod.asks before a after →
    let mine := fun (i : PeerItem) => i.pos = a.pos ∧ i.sl = a.sl ∧ i.tag = a.tag.toNat ∧ i.batch = a.batch
    (s.cycle < a.since + 1750000 → exec (.summaryPeerTimeout id) s = .next s)
    ∧ (a.since + 1750000 ≤ s.cycle → ∃ t l, exec (.summaryPeerTimeout id) s = .next t ∧ OnlyPod s t ∧ t.pod.asks = s.pod.asks
      ∧ t.pod.items = s.pod.items.map (fun i =>
          if i.pos = a.pos ∧ i.sl = a.sl ∧ i.tag = a.tag.toNat ∧ i.batch = a.batch ∧ i.seq ∈ a.items ∧ 0 < i.due
          then { i with left := 0, due := 0, code := if i.fault = none then 0x8E#8 else i.code, gone := true } else i) ++ l
      ∧ (∀ i ∈ l, mine i ∧ i.seq ∈ a.items ∧ i.left = 0 ∧ i.code = 0x8E#8 ∧ i.gone = true)
      ∧ ∀ n ∈ a.items, (∃ i ∈ s.pod.items, mine i ∧ i.seq = n) ∨ ∃ i ∈ l, i.seq = n))
  ∧ (∀ (s : State) (sl : Nat) (tag : BitVec 2) (pos : Nat), let x := s.slot sl
    let late := fun (b : Ask) => b.tag = tag.toNat ∧ b.peer = .module pos ∧ ∃ c, b.st = .posted c ∧ c + 1750000 ≤ s.cycle
    ((∀ b ∈ x.asked, ¬ late b) → exec (.summaryResend sl tag (.module pos)) s = .next s)
    ∧ (∀ before a after, FirstIn late x.asked before a after → pos ∉ s.pod.lost →
      ∃ t o, exec (.summaryResend sl tag (.module pos)) s = .next t ∧ t.pod.out = s.pod.out ++ [o]
        ∧ o.hdr.dst = BitVec.ofNat 10 pos ∧ o.body = .summaryRequest sl tag a.batch a.items
        ∧ t.slot sl = { x with asked := x.asked.map (fun b => if b = a then { b with st := .posted s.cycle } else b) }
        ∧ SameMemory s t ∧ OnlyAt s t [sl] [] [] [] ∧ t.reqs = s.reqs))
  ∧ (∀ (s : State) (e : BitVec 10), let n := e.toNat
    let told := fun (l : List (Nat × PodBody)) => { s with pod := { s.pod with inbox := l } }
    (CanLose s n → Numbered s → (∀ j ∈ s.pod.joins, j.1 < 1024) → 3 ≤ Tab.get 0 s.pod.fails n →
      ∃ t : State, exec (.peerLostDeclare e) s = .next t ∧ Declared s t n)
    ∧ (Tab.get 0 s.pod.fails n < 3 ∨ ¬ CanLose s n → exec (.peerLostDeclare e) s = .next s)
    ∧ ((∀ m ∈ s.pod.inbox, m.2 ≠ .lossNotice n) → exec (.lossNotice e) s = .next s)
    ∧ (∀ before m after, FirstIn (fun m => m.2 = PodBody.lossNotice n) s.pod.inbox before m after →
      (¬ CanLose s n → exec (.lossNotice e) s = .next (told (before ++ after)))
      ∧ (CanLose s n → Numbered s → (∀ j ∈ s.pod.joins, j.1 < 1024) →
          ∃ t : State, exec (.lossNotice e) s = .next t ∧ Declared (told (before ++ after)) t n)))
  ∧ (∀ (s : State) (e : Nat) (q : BitVec 32), e < 1024 → let id := q.toNat * 1024 + e
    let mine := fun (u : Unreceipted) => u.dst = e ∧ u.seq = q
    ((∀ m ∈ s.pod.inbox, m.2 ≠ .dropRefusal e q) → exec (.relayDropRefusal id) s = .next s)
    ∧ (∀ before m after, FirstIn (fun m => m.2 = PodBody.dropRefusal e q) s.pod.inbox before m after →
      let told := { s with pod := { s.pod with inbox := before ++ after } }
      ((∀ u ∈ s.pod.unreceipted, ¬ mine u) → exec (.relayDropRefusal id) s = .next told)
      ∧ (Numbered s → (∃ u ∈ s.pod.unreceipted, mine u) → ∃ t : State, exec (.relayDropRefusal id) s = .next t ∧ LossTable told t e
        ∧ t.pod.lost = s.pod.lost ∧ ∀ u, u ∈ t.pod.unreceipted ↔ u ∈ s.pod.unreceipted ∧ ¬ mine u)))
  ∧ (∀ (s : State) (p : BitVec 10) (epoch : BitVec 8) (cap : Word) (ports : List PortTest), let n := p.toNat
    let joins := exec (.podJoin p epoch cap ports) s
    (s.pod.pos = none → s.mbox.phase ≠ 6 → joins = .next s)
    ∧ (s.pod.pos = none → s.mbox.phase = 6 → ∃ t : State, joins = .next t ∧ OnlyPod s t ∧ t.pod.pos = some n ∧ t.pod.lost = []
      ∧ t.pod.joins = [(n, { epoch := epoch, cap := 0x0001000000003FFF#64 })] ∧ t.pod.keys = [] ∧ t.pod.rx = [] ∧ t.pod.out = []
      ∧ (∀ k x, k < 64 → ports[k]? = some x → PortUp x (portAt t k))
      ∧ ∀ k, k < 64 → ports[k]? = none → (portAt t k).disabled = true)
    ∧ (∀ d, s.pod.pos = some d → n = d ∨ (∃ j, Tab.look s.pod.joins n = some j ∧ epoch ≠ j.epoch + 1#8) → joins = .next s)
    ∧ (∀ d, s.pod.pos = some d → n ≠ d → (∀ j, Tab.look s.pod.joins n = some j → epoch = j.epoch + 1#8) →
      ∃ t : State, joins = .next t ∧ OnlyPod s t ∧ t.reqs = s.reqs ∧ Tab.look t.pod.joins n = some { epoch := epoch, cap := cap }
        ∧ (∀ k, k ≠ n → Tab.look t.pod.joins k = Tab.look s.pod.joins k) ∧ (∀ m, m ∈ t.pod.lost ↔ m ∈ s.pod.lost ∧ m ≠ n)
        ∧ Tab.look t.pod.rx n = none ∧ (∀ i ∈ t.pod.items, i.pos ≠ n) ∧ Tab.get 0 t.pod.fails n = 0
        ∧ n ∉ (portAt t ((d ^^^ n) / 16)).down ∧ OtherPorts s t ((d ^^^ n) / 16)
        ∧ (∀ r ∈ [2 * n, 2 * n + 1], Tab.look t.pod.keys r = match s.podSecret with
            | some x => some { rot := 0, secret := x, ctr := 0, last := none, exhausted := none }
            | none => none)
        ∧ ∀ r, r ≠ 2 * n → r ≠ 2 * n + 1 → Tab.look t.pod.keys r = Tab.look s.pod.keys r))
  ∧ (∀ (s : State) (p : BitVec 6) (e : BitVec 10) (d : Nat), s.pod.pos = some d →
    let n := 2 * e.toNat
    (p.toNat ≠ (d ^^^ e.toNat) / 16 ∨ Tab.look s.pod.keys n = none →
      exec (.keyRotate p e) s = .next s ∧ exec (.keyTimeout p e) s = .next s)
    ∧ (∀ k, p.toNat = (d ^^^ e.toNat) / 16 → Tab.look s.pod.keys n = some k →
      (k.ctr ≤ 2 ^ 63 → k.exhausted = none → exec (.keyRotate p e) s = .next s)
      ∧ (2 ^ 63 < k.ctr ∨ k.exhausted ≠ none → ∃ t : State, exec (.keyRotate p e) s = .next t ∧ OnlyPod s t
        ∧ Tab.look t.pod.keys n = some { k with rot := k.rot + 1, ctr := 0, exhausted := none }
        ∧ (∀ j, j ≠ n → Tab.look t.pod.keys j = Tab.look s.pod.keys j)
        ∧ (∀ m, m ∈ t.pod.keyexh ↔ m ∈ s.pod.keyexh ∧ m.2 ≠ e.toNat)
        ∧ (∀ m, m ∈ (portAt t p.toNat).down ↔ m ∈ (portAt s p.toNat).down ∧ m ≠ e.toNat) ∧ OtherPorts s t p.toNat)
      ∧ ((∀ c, k.exhausted = some c → s.cycle < c + 1750000) → exec (.keyTimeout p e) s = .next s)
      ∧ (∀ c, k.exhausted = some c → c + 1750000 ≤ s.cycle → ∃ t : State, exec (.keyTimeout p e) s = .next t ∧ OnlyPod s t
        ∧ (∀ m, m ∈ (portAt t p.toNat).down ↔ m = e.toNat ∨ m ∈ (portAt s p.toNat).down) ∧ OtherPorts s t p.toNat
        ∧ t.pod.keys = s.pod.keys)))
end

