-- ==== Sys2Proof/Laws/Tab.lean ====
section
/-! SUPPORT. Reading a sparse table after writing it; the canonical form that every write keeps; reading memory after
writing it. -/

namespace Sys2Proof.Machine

variable {α : Type}

@[simp] theorem Tab.get_put_self (d : α) (t : Tab α) (n : Nat) (x : α) : Tab.get d (Tab.put t n x) n = x := by
  induction t with
  | nil => simp [Tab.put, Tab.get]
  | cons h t ih =>
    obtain ⟨k, v⟩ := h
    unfold Tab.put
    split
    · simp [Tab.get]
    · split
      · simp [Tab.get]
      · simp [Tab.get, *]

theorem Tab.get_put_ne (d : α) (t : Tab α) {n m : Nat} (x : α) (h : m ≠ n) :
    Tab.get d (Tab.put t n x) m = Tab.get d t m := by
  induction t with
  | nil => simp [Tab.put, Tab.get, h.symm]
  | cons c t ih =>
    obtain ⟨k, v⟩ := c
    unfold Tab.put
    split
    · simp_all [Tab.get, h.symm]
    · split
      · simp [Tab.get, h.symm]
      · simp [Tab.get, ih]

@[simp] theorem Tab.look_put_self (t : Tab α) (n : Nat) (x : α) : Tab.look (Tab.put t n x) n = some x := by
  induction t with
  | nil => simp [Tab.put, Tab.look]
  | cons h t ih =>
    obtain ⟨k, v⟩ := h
    unfold Tab.put
    split
    · simp [Tab.look]
    · split
      · simp [Tab.look]
      · simp [Tab.look, *]

theorem Tab.look_put_ne (t : Tab α) {n m : Nat} (x : α) (h : m ≠ n) : Tab.look (Tab.put t n x) m = Tab.look t m := by
  induction t with
  | nil => simp [Tab.put, Tab.look, h.symm]
  | cons c t ih =>
    obtain ⟨k, v⟩ := c
    unfold Tab.put
    split
    · simp_all [Tab.look, h.symm]
    · split
      · simp [Tab.look, h.symm]
      · simp [Tab.look, ih]

/-- A key at or below the bound of a canonical rest is not listed in it. -/
theorem Tab.get_above [DecidableEq α] (d : α) : ∀ (t : Tab α) (lo n : Nat), Tab.canonAbove d (some lo) t = true → n ≤ lo →
    Tab.get d t n = d
  | [], _, _, _, _ => rfl
  | (k, v) :: t, lo, n, h, hn => by
    simp only [Tab.canonAbove, Bool.and_eq_true, decide_eq_true_eq] at h
    have : k ≠ n := by omega
    simp only [Tab.get, this, if_false]
    exact Tab.get_above d t k n h.2 (by omega)

/-- A lower bound may be lowered. -/
theorem Tab.canonAbove_mono [DecidableEq α] (d : α) {t : Tab α} {lo : Nat} (lo' : Option Nat)
    (hlo : ∀ l, lo' = some l → l ≤ lo) (h : Tab.canonAbove d (some lo) t = true) : Tab.canonAbove d lo' t = true := by
  cases t with
  | nil => cases lo' <;> rfl
  | cons c t =>
    obtain ⟨k, v⟩ := c
    simp only [Tab.canonAbove, Bool.and_eq_true, decide_eq_true_eq] at h ⊢
    refine ⟨⟨?_, h.1.2⟩, h.2⟩
    cases lo' with
    | none => rfl
    | some l => exact decide_eq_true (by have := hlo l rfl; omega)

theorem Tab.canonAbove_put [DecidableEq α] (d : α) {n : Nat} {x : α} (hx : x ≠ d) : ∀ (t : Tab α) (lo : Option Nat),
    (∀ l, lo = some l → l < n) → Tab.canonAbove d lo t = true → Tab.canonAbove d lo (Tab.put t n x) = true
  | [], lo, hlo, _ => by
    cases lo with
    | none => simp [Tab.put, Tab.canonAbove, hx]
    | some l => simp [Tab.put, Tab.canonAbove, hx, hlo l rfl]
  | (k, v) :: t, lo, hlo, h => by
    simp only [Tab.canonAbove, Bool.and_eq_true, decide_eq_true_eq] at h
    unfold Tab.put
    split
    · subst_vars
      simp only [Tab.canonAbove, Bool.and_eq_true, decide_eq_true_eq]
      exact ⟨⟨h.1.1, hx⟩, h.2⟩
    · split
      · simp only [Tab.canonAbove, Bool.and_eq_true, decide_eq_true_eq]
        refine ⟨⟨?_, hx⟩, ⟨by assumption, h.1.2⟩, h.2⟩
        cases lo with
        | none => rfl
        | some l => exact decide_eq_true (hlo l rfl)
      · simp only [Tab.canonAbove, Bool.and_eq_true, decide_eq_true_eq]
        refine ⟨h.1, Tab.canonAbove_put d hx t (some k) ?_ h.2⟩
        intro l hl
        cases hl
        omega

theorem Tab.canonAbove_drop [DecidableEq α] (d : α) (n : Nat) : ∀ (t : Tab α) (lo : Option Nat),
    Tab.canonAbove d lo t = true → Tab.canonAbove d lo (Tab.drop t n) = true
  | [], lo, h => h
  | (k, v) :: t, lo, h => by
    simp only [Tab.canonAbove, Bool.and_eq_true, decide_eq_true_eq] at h
    have ih := Tab.canonAbove_drop d n t (some k) h.2
    unfold Tab.drop
    split
    · refine Tab.canonAbove_mono d lo ?_ ih
      intro l hl
      subst hl
      have := of_decide_eq_true h.1.1
      omega
    · simp only [Tab.canonAbove, Bool.and_eq_true, decide_eq_true_eq]
      exact ⟨h.1, ih⟩

/-- Writing a table in canonical form keeps the form. -/
theorem Tab.canon_write [DecidableEq α] (d : α) {t : Tab α} (n : Nat) (x : α) (h : Tab.canon d t = true) :
    Tab.canon d (Tab.write d t n x) = true := by
  unfold Tab.write
  split
  · exact Tab.canonAbove_drop d n t none h
  · exact Tab.canonAbove_put d (by assumption) t none (by simp) h

theorem Tab.get_drop_ne [DecidableEq α] (d : α) {n m : Nat} (hm : m ≠ n) : ∀ (t : Tab α),
    Tab.get d (Tab.drop t n) m = Tab.get d t m
  | [] => rfl
  | (k, v) :: t => by
    unfold Tab.drop
    split
    · have : k ≠ m := by omega
      simp [Tab.get, this, Tab.get_drop_ne d hm t]
    · simp [Tab.get, Tab.get_drop_ne d hm t]

theorem Tab.get_drop_self [DecidableEq α] (d : α) (n : Nat) : ∀ t : Tab α, Tab.get d (Tab.drop t n) n = d
  | [] => rfl
  | (k, v) :: t => by
    unfold Tab.drop
    split
    · exact Tab.get_drop_self d n t
    · simp [Tab.get, *, Tab.get_drop_self d n t]

theorem Tab.look_drop_ne {n m : Nat} (hm : m ≠ n) : ∀ (t : Tab α), Tab.look (Tab.drop t n) m = Tab.look t m
  | [] => rfl
  | (k, v) :: t => by
    unfold Tab.drop
    split
    · have : k ≠ m := by omega
      simp [Tab.look, this, Tab.look_drop_ne hm t]
    · simp [Tab.look, Tab.look_drop_ne hm t]

@[simp] theorem Tab.look_drop_self (n : Nat) : ∀ t : Tab α, Tab.look (Tab.drop t n) n = none
  | [] => rfl
  | (k, v) :: t => by
    unfold Tab.drop
    split
    · exact Tab.look_drop_self n t
    · simp [Tab.look, *, Tab.look_drop_self n t]

/-- A read of what was just written. -/
@[simp] theorem Tab.get_write_self [DecidableEq α] (d : α) (t : Tab α) (n : Nat) (x : α) :
    Tab.get d (Tab.write d t n x) n = x := by
  unfold Tab.write
  split
  · subst_vars
    exact Tab.get_drop_self _ n t
  · exact Tab.get_put_self d t n x

/-- A write leaves every other key alone. -/
theorem Tab.get_write_ne [DecidableEq α] (d : α) (t : Tab α) {n m : Nat} (x : α) (h : m ≠ n) :
    Tab.get d (Tab.write d t n x) m = Tab.get d t m := by
  unfold Tab.write
  split
  · exact Tab.get_drop_ne d h t
  · exact Tab.get_put_ne d t x h

/-! ### Memory -/

/-- Storing a byte keeps the canonical form. -/
theorem Memory.wf_setByte {m : Memory} (a : Nat) (b : BitVec 8) (h : Memory.wf m = true) :
    Memory.wf (Memory.setByte m a b) = true := Tab.canon_write unlistedByte a b h

/-- Storing bytes keeps the canonical form. -/
theorem Memory.wf_writeNat : ∀ (n v : Nat) (m : Memory) (a : Nat), Memory.wf m = true →
    Memory.wf (Memory.writeNat m a n v) = true
  | 0, _, _, _, h => h
  | n + 1, v, _, a, h => Memory.wf_writeNat n (v / 256) _ (a + 1) (Memory.wf_setByte a _ h)

theorem Memory.byte_setByte_self (m : Memory) (a : Nat) (b : BitVec 8) :
    Memory.byte (Memory.setByte m a b) a = b := Tab.get_write_self unlistedByte m a b

theorem Memory.byte_setByte_ne (m : Memory) {a x : Nat} (b : BitVec 8) (h : x ≠ a) :
    Memory.byte (Memory.setByte m a b) x = Memory.byte m x := Tab.get_write_ne unlistedByte m b h

/-- Storing `n` bytes from `a` leaves every other byte alone. -/
theorem Memory.byte_writeNat_outside : ∀ (n v : Nat) (m : Memory) (a x : Nat), (x < a ∨ a + n ≤ x) →
    Memory.byte (Memory.writeNat m a n v) x = Memory.byte m x
  | 0, _, _, _, _, _ => rfl
  | n + 1, v, m, a, x, h => by
    rw [Memory.writeNat, Memory.byte_writeNat_outside n (v / 256) _ (a + 1) x (by omega)]
    exact Memory.byte_setByte_ne m _ (by omega)

/-- Byte `i` of `n` bytes just stored. -/
theorem Memory.byte_writeNat_inside : ∀ (n v : Nat) (m : Memory) (a i : Nat), i < n →
    Memory.byte (Memory.writeNat m a n v) (a + i) = BitVec.ofNat 8 (v / 256 ^ i)
  | n + 1, v, m, a, 0, _ => by
    rw [Memory.writeNat, Memory.byte_writeNat_outside n (v / 256) _ (a + 1) (a + 0) (by omega)]
    simpa using Memory.byte_setByte_self m a (BitVec.ofNat 8 v)
  | n + 1, v, m, a, i + 1, hi => by
    rw [Memory.writeNat, show a + (i + 1) = (a + 1) + i by omega,
      Memory.byte_writeNat_inside n (v / 256) _ (a + 1) i (by omega),
      Nat.div_div_eq_div_mul, Nat.pow_succ', Nat.mul_comm]

/-- What was stored reads back, reduced to its bytes. -/
theorem Memory.readNat_writeNat : ∀ (n v : Nat) (m : Memory) (a : Nat),
    Memory.readNat (Memory.writeNat m a n v) a n = v % 256 ^ n
  | 0, v, _, _ => by simp [Memory.readNat, Nat.mod_one]
  | n + 1, v, m, a => by
    rw [Memory.readNat]
    have h0 := Memory.byte_writeNat_inside (n + 1) v m a 0 (by omega)
    have h1 : Memory.readNat (Memory.writeNat m a (n + 1) v) (a + 1) n = v / 256 % 256 ^ n := by
      rw [Memory.writeNat]
      exact Memory.readNat_writeNat n (v / 256) _ (a + 1)
    simp only [Nat.add_zero, Nat.pow_zero, Nat.div_one] at h0
    have hm : v % 256 ^ (n + 1) = v % 256 + 256 * (v / 256 % 256 ^ n) := by
      rw [Nat.pow_succ' (m := 256), Nat.mod_mul]
    rw [h0, h1, BitVec.toNat_ofNat, hm]

end Sys2Proof.Machine
end

