-- ==== Sys2Proof/Laws/State.lean ====
section
/-! SUPPORT. One lemma per field per update of State and of Slot, true by rfl; and what an agent reads as after an
update. -/

namespace Sys2Proof.Machine

/-! ### setSlot -/

@[simp] theorem State.setSlot_agenda (s : State) (k : Nat) (x : Slot) : (s.setSlot k x).agenda = s.agenda := rfl
@[simp] theorem State.setSlot_cur (s : State) (k : Nat) (x : Slot) : (s.setSlot k x).cur = s.cur := rfl
@[simp] theorem State.setSlot_nextId (s : State) (k : Nat) (x : Slot) : (s.setSlot k x).nextId = s.nextId := rfl
@[simp] theorem State.setSlot_freeCtr (s : State) (k : Nat) (x : Slot) : (s.setSlot k x).freeCtr = s.freeCtr := rfl
@[simp] theorem State.setSlot_cycle (s : State) (k : Nat) (x : Slot) : (s.setSlot k x).cycle = s.cycle := rfl
@[simp] theorem State.setSlot_power (s : State) (k : Nat) (x : Slot) : (s.setSlot k x).power = s.power := rfl
@[simp] theorem State.setSlot_cores (s : State) (k : Nat) (x : Slot) : (s.setSlot k x).cores = s.cores := rfl
@[simp] theorem State.setSlot_tiles (s : State) (k : Nat) (x : Slot) : (s.setSlot k x).tiles = s.tiles := rfl
@[simp] theorem State.setSlot_nodes (s : State) (k : Nat) (x : Slot) : (s.setSlot k x).nodes = s.nodes := rfl
@[simp] theorem State.setSlot_mem (s : State) (k : Nat) (x : Slot) : (s.setSlot k x).mem = s.mem := rfl
@[simp] theorem State.setSlot_wst (s : State) (k : Nat) (x : Slot) : (s.setSlot k x).wst = s.wst := rfl
@[simp] theorem State.setSlot_bad (s : State) (k : Nat) (x : Slot) : (s.setSlot k x).bad = s.bad := rfl
@[simp] theorem State.setSlot_corr (s : State) (k : Nat) (x : Slot) : (s.setSlot k x).corr = s.corr := rfl
@[simp] theorem State.setSlot_hostMem (s : State) (k : Nat) (x : Slot) : (s.setSlot k x).hostMem = s.hostMem := rfl
@[simp] theorem State.setSlot_hostHoles (s : State) (k : Nat) (x : Slot) : (s.setSlot k x).hostHoles = s.hostHoles := rfl
@[simp] theorem State.setSlot_reqs (s : State) (k : Nat) (x : Slot) : (s.setSlot k x).reqs = s.reqs := rfl
@[simp] theorem State.setSlot_pipe (s : State) (k : Nat) (x : Slot) : (s.setSlot k x).pipe = s.pipe := rfl
@[simp] theorem State.setSlot_hints (s : State) (k : Nat) (x : Slot) : (s.setSlot k x).hints = s.hints := rfl
@[simp] theorem State.setSlot_ctls (s : State) (k : Nat) (x : Slot) : (s.setSlot k x).ctls = s.ctls := rfl
@[simp] theorem State.setSlot_routers (s : State) (k : Nat) (x : Slot) : (s.setSlot k x).routers = s.routers := rfl
@[simp] theorem State.setSlot_contribs (s : State) (k : Nat) (x : Slot) : (s.setSlot k x).contribs = s.contribs := rfl
@[simp] theorem State.setSlot_ctxs (s : State) (k : Nat) (x : Slot) : (s.setSlot k x).ctxs = s.ctxs := rfl
@[simp] theorem State.setSlot_launches (s : State) (k : Nat) (x : Slot) : (s.setSlot k x).launches = s.launches := rfl
@[simp] theorem State.setSlot_queues (s : State) (k : Nat) (x : Slot) : (s.setSlot k x).queues = s.queues := rfl
@[simp] theorem State.setSlot_mbox (s : State) (k : Nat) (x : Slot) : (s.setSlot k x).mbox = s.mbox := rfl
@[simp] theorem State.setSlot_memwin (s : State) (k : Nat) (x : Slot) : (s.setSlot k x).memwin = s.memwin := rfl
@[simp] theorem State.setSlot_podSecret (s : State) (k : Nat) (x : Slot) : (s.setSlot k x).podSecret = s.podSecret := rfl
@[simp] theorem State.setSlot_image (s : State) (k : Nat) (x : Slot) : (s.setSlot k x).image = s.image := rfl
@[simp] theorem State.setSlot_defects (s : State) (k : Nat) (x : Slot) : (s.setSlot k x).defects = s.defects := rfl
@[simp] theorem State.setSlot_bootHist (s : State) (k : Nat) (x : Slot) : (s.setSlot k x).bootHist = s.bootHist := rfl
@[simp] theorem State.setSlot_oscs (s : State) (k : Nat) (x : Slot) : (s.setSlot k x).oscs = s.oscs := rfl
@[simp] theorem State.setSlot_pod (s : State) (k : Nat) (x : Slot) : (s.setSlot k x).pod = s.pod := rfl
@[simp] theorem State.setSlot_hostOut (s : State) (k : Nat) (x : Slot) : (s.setSlot k x).hostOut = s.hostOut := rfl
@[simp] theorem State.setSlot_core (s : State) (k : Nat) (x : Slot) (j : Nat) : (s.setSlot k x).core j = s.core j := rfl
@[simp] theorem State.setSlot_tile (s : State) (k : Nat) (x : Slot) (j : Nat) : (s.setSlot k x).tile j = s.tile j := rfl
@[simp] theorem State.setSlot_node (s : State) (k : Nat) (x : Slot) (j : Nat) : (s.setSlot k x).node j = s.node j := rfl

/-! ### updSlot -/

@[simp] theorem State.updSlot_agenda (s : State) (k : Nat) (f : Slot → Slot) : (s.updSlot k f).agenda = s.agenda := rfl
@[simp] theorem State.updSlot_cur (s : State) (k : Nat) (f : Slot → Slot) : (s.updSlot k f).cur = s.cur := rfl
@[simp] theorem State.updSlot_nextId (s : State) (k : Nat) (f : Slot → Slot) : (s.updSlot k f).nextId = s.nextId := rfl
@[simp] theorem State.updSlot_freeCtr (s : State) (k : Nat) (f : Slot → Slot) : (s.updSlot k f).freeCtr = s.freeCtr := rfl
@[simp] theorem State.updSlot_cycle (s : State) (k : Nat) (f : Slot → Slot) : (s.updSlot k f).cycle = s.cycle := rfl
@[simp] theorem State.updSlot_power (s : State) (k : Nat) (f : Slot → Slot) : (s.updSlot k f).power = s.power := rfl
@[simp] theorem State.updSlot_cores (s : State) (k : Nat) (f : Slot → Slot) : (s.updSlot k f).cores = s.cores := rfl
@[simp] theorem State.updSlot_tiles (s : State) (k : Nat) (f : Slot → Slot) : (s.updSlot k f).tiles = s.tiles := rfl
@[simp] theorem State.updSlot_nodes (s : State) (k : Nat) (f : Slot → Slot) : (s.updSlot k f).nodes = s.nodes := rfl
@[simp] theorem State.updSlot_mem (s : State) (k : Nat) (f : Slot → Slot) : (s.updSlot k f).mem = s.mem := rfl
@[simp] theorem State.updSlot_wst (s : State) (k : Nat) (f : Slot → Slot) : (s.updSlot k f).wst = s.wst := rfl
@[simp] theorem State.updSlot_bad (s : State) (k : Nat) (f : Slot → Slot) : (s.updSlot k f).bad = s.bad := rfl
@[simp] theorem State.updSlot_corr (s : State) (k : Nat) (f : Slot → Slot) : (s.updSlot k f).corr = s.corr := rfl
@[simp] theorem State.updSlot_hostMem (s : State) (k : Nat) (f : Slot → Slot) : (s.updSlot k f).hostMem = s.hostMem := rfl
@[simp] theorem State.updSlot_hostHoles (s : State) (k : Nat) (f : Slot → Slot) : (s.updSlot k f).hostHoles = s.hostHoles := rfl
@[simp] theorem State.updSlot_reqs (s : State) (k : Nat) (f : Slot → Slot) : (s.updSlot k f).reqs = s.reqs := rfl
@[simp] theorem State.updSlot_pipe (s : State) (k : Nat) (f : Slot → Slot) : (s.updSlot k f).pipe = s.pipe := rfl
@[simp] theorem State.updSlot_hints (s : State) (k : Nat) (f : Slot → Slot) : (s.updSlot k f).hints = s.hints := rfl
@[simp] theorem State.updSlot_ctls (s : State) (k : Nat) (f : Slot → Slot) : (s.updSlot k f).ctls = s.ctls := rfl
@[simp] theorem State.updSlot_routers (s : State) (k : Nat) (f : Slot → Slot) : (s.updSlot k f).routers = s.routers := rfl
@[simp] theorem State.updSlot_contribs (s : State) (k : Nat) (f : Slot → Slot) : (s.updSlot k f).contribs = s.contribs := rfl
@[simp] theorem State.updSlot_ctxs (s : State) (k : Nat) (f : Slot → Slot) : (s.updSlot k f).ctxs = s.ctxs := rfl
@[simp] theorem State.updSlot_launches (s : State) (k : Nat) (f : Slot → Slot) : (s.updSlot k f).launches = s.launches := rfl
@[simp] theorem State.updSlot_queues (s : State) (k : Nat) (f : Slot → Slot) : (s.updSlot k f).queues = s.queues := rfl
@[simp] theorem State.updSlot_mbox (s : State) (k : Nat) (f : Slot → Slot) : (s.updSlot k f).mbox = s.mbox := rfl
@[simp] theorem State.updSlot_memwin (s : State) (k : Nat) (f : Slot → Slot) : (s.updSlot k f).memwin = s.memwin := rfl
@[simp] theorem State.updSlot_podSecret (s : State) (k : Nat) (f : Slot → Slot) : (s.updSlot k f).podSecret = s.podSecret := rfl
@[simp] theorem State.updSlot_image (s : State) (k : Nat) (f : Slot → Slot) : (s.updSlot k f).image = s.image := rfl
@[simp] theorem State.updSlot_defects (s : State) (k : Nat) (f : Slot → Slot) : (s.updSlot k f).defects = s.defects := rfl
@[simp] theorem State.updSlot_bootHist (s : State) (k : Nat) (f : Slot → Slot) : (s.updSlot k f).bootHist = s.bootHist := rfl
@[simp] theorem State.updSlot_oscs (s : State) (k : Nat) (f : Slot → Slot) : (s.updSlot k f).oscs = s.oscs := rfl
@[simp] theorem State.updSlot_pod (s : State) (k : Nat) (f : Slot → Slot) : (s.updSlot k f).pod = s.pod := rfl
@[simp] theorem State.updSlot_hostOut (s : State) (k : Nat) (f : Slot → Slot) : (s.updSlot k f).hostOut = s.hostOut := rfl
@[simp] theorem State.updSlot_core (s : State) (k : Nat) (f : Slot → Slot) (j : Nat) : (s.updSlot k f).core j = s.core j := rfl
@[simp] theorem State.updSlot_tile (s : State) (k : Nat) (f : Slot → Slot) (j : Nat) : (s.updSlot k f).tile j = s.tile j := rfl
@[simp] theorem State.updSlot_node (s : State) (k : Nat) (f : Slot → Slot) (j : Nat) : (s.updSlot k f).node j = s.node j := rfl

/-! ### setCore -/

@[simp] theorem State.setCore_agenda (s : State) (k : Nat) (x : Core) : (s.setCore k x).agenda = s.agenda := rfl
@[simp] theorem State.setCore_cur (s : State) (k : Nat) (x : Core) : (s.setCore k x).cur = s.cur := rfl
@[simp] theorem State.setCore_nextId (s : State) (k : Nat) (x : Core) : (s.setCore k x).nextId = s.nextId := rfl
@[simp] theorem State.setCore_freeCtr (s : State) (k : Nat) (x : Core) : (s.setCore k x).freeCtr = s.freeCtr := rfl
@[simp] theorem State.setCore_cycle (s : State) (k : Nat) (x : Core) : (s.setCore k x).cycle = s.cycle := rfl
@[simp] theorem State.setCore_power (s : State) (k : Nat) (x : Core) : (s.setCore k x).power = s.power := rfl
@[simp] theorem State.setCore_slots (s : State) (k : Nat) (x : Core) : (s.setCore k x).slots = s.slots := rfl
@[simp] theorem State.setCore_tiles (s : State) (k : Nat) (x : Core) : (s.setCore k x).tiles = s.tiles := rfl
@[simp] theorem State.setCore_nodes (s : State) (k : Nat) (x : Core) : (s.setCore k x).nodes = s.nodes := rfl
@[simp] theorem State.setCore_mem (s : State) (k : Nat) (x : Core) : (s.setCore k x).mem = s.mem := rfl
@[simp] theorem State.setCore_wst (s : State) (k : Nat) (x : Core) : (s.setCore k x).wst = s.wst := rfl
@[simp] theorem State.setCore_bad (s : State) (k : Nat) (x : Core) : (s.setCore k x).bad = s.bad := rfl
@[simp] theorem State.setCore_corr (s : State) (k : Nat) (x : Core) : (s.setCore k x).corr = s.corr := rfl
@[simp] theorem State.setCore_hostMem (s : State) (k : Nat) (x : Core) : (s.setCore k x).hostMem = s.hostMem := rfl
@[simp] theorem State.setCore_hostHoles (s : State) (k : Nat) (x : Core) : (s.setCore k x).hostHoles = s.hostHoles := rfl
@[simp] theorem State.setCore_reqs (s : State) (k : Nat) (x : Core) : (s.setCore k x).reqs = s.reqs := rfl
@[simp] theorem State.setCore_pipe (s : State) (k : Nat) (x : Core) : (s.setCore k x).pipe = s.pipe := rfl
@[simp] theorem State.setCore_hints (s : State) (k : Nat) (x : Core) : (s.setCore k x).hints = s.hints := rfl
@[simp] theorem State.setCore_ctls (s : State) (k : Nat) (x : Core) : (s.setCore k x).ctls = s.ctls := rfl
@[simp] theorem State.setCore_routers (s : State) (k : Nat) (x : Core) : (s.setCore k x).routers = s.routers := rfl
@[simp] theorem State.setCore_contribs (s : State) (k : Nat) (x : Core) : (s.setCore k x).contribs = s.contribs := rfl
@[simp] theorem State.setCore_ctxs (s : State) (k : Nat) (x : Core) : (s.setCore k x).ctxs = s.ctxs := rfl
@[simp] theorem State.setCore_launches (s : State) (k : Nat) (x : Core) : (s.setCore k x).launches = s.launches := rfl
@[simp] theorem State.setCore_queues (s : State) (k : Nat) (x : Core) : (s.setCore k x).queues = s.queues := rfl
@[simp] theorem State.setCore_mbox (s : State) (k : Nat) (x : Core) : (s.setCore k x).mbox = s.mbox := rfl
@[simp] theorem State.setCore_memwin (s : State) (k : Nat) (x : Core) : (s.setCore k x).memwin = s.memwin := rfl
@[simp] theorem State.setCore_podSecret (s : State) (k : Nat) (x : Core) : (s.setCore k x).podSecret = s.podSecret := rfl
@[simp] theorem State.setCore_image (s : State) (k : Nat) (x : Core) : (s.setCore k x).image = s.image := rfl
@[simp] theorem State.setCore_defects (s : State) (k : Nat) (x : Core) : (s.setCore k x).defects = s.defects := rfl
@[simp] theorem State.setCore_bootHist (s : State) (k : Nat) (x : Core) : (s.setCore k x).bootHist = s.bootHist := rfl
@[simp] theorem State.setCore_oscs (s : State) (k : Nat) (x : Core) : (s.setCore k x).oscs = s.oscs := rfl
@[simp] theorem State.setCore_pod (s : State) (k : Nat) (x : Core) : (s.setCore k x).pod = s.pod := rfl
@[simp] theorem State.setCore_hostOut (s : State) (k : Nat) (x : Core) : (s.setCore k x).hostOut = s.hostOut := rfl
@[simp] theorem State.setCore_slot (s : State) (k : Nat) (x : Core) (j : Nat) : (s.setCore k x).slot j = s.slot j := rfl
@[simp] theorem State.setCore_tile (s : State) (k : Nat) (x : Core) (j : Nat) : (s.setCore k x).tile j = s.tile j := rfl
@[simp] theorem State.setCore_node (s : State) (k : Nat) (x : Core) (j : Nat) : (s.setCore k x).node j = s.node j := rfl

/-! ### updCore -/

@[simp] theorem State.updCore_agenda (s : State) (k : Nat) (f : Core → Core) : (s.updCore k f).agenda = s.agenda := rfl
@[simp] theorem State.updCore_cur (s : State) (k : Nat) (f : Core → Core) : (s.updCore k f).cur = s.cur := rfl
@[simp] theorem State.updCore_nextId (s : State) (k : Nat) (f : Core → Core) : (s.updCore k f).nextId = s.nextId := rfl
@[simp] theorem State.updCore_freeCtr (s : State) (k : Nat) (f : Core → Core) : (s.updCore k f).freeCtr = s.freeCtr := rfl
@[simp] theorem State.updCore_cycle (s : State) (k : Nat) (f : Core → Core) : (s.updCore k f).cycle = s.cycle := rfl
@[simp] theorem State.updCore_power (s : State) (k : Nat) (f : Core → Core) : (s.updCore k f).power = s.power := rfl
@[simp] theorem State.updCore_slots (s : State) (k : Nat) (f : Core → Core) : (s.updCore k f).slots = s.slots := rfl
@[simp] theorem State.updCore_tiles (s : State) (k : Nat) (f : Core → Core) : (s.updCore k f).tiles = s.tiles := rfl
@[simp] theorem State.updCore_nodes (s : State) (k : Nat) (f : Core → Core) : (s.updCore k f).nodes = s.nodes := rfl
@[simp] theorem State.updCore_mem (s : State) (k : Nat) (f : Core → Core) : (s.updCore k f).mem = s.mem := rfl
@[simp] theorem State.updCore_wst (s : State) (k : Nat) (f : Core → Core) : (s.updCore k f).wst = s.wst := rfl
@[simp] theorem State.updCore_bad (s : State) (k : Nat) (f : Core → Core) : (s.updCore k f).bad = s.bad := rfl
@[simp] theorem State.updCore_corr (s : State) (k : Nat) (f : Core → Core) : (s.updCore k f).corr = s.corr := rfl
@[simp] theorem State.updCore_hostMem (s : State) (k : Nat) (f : Core → Core) : (s.updCore k f).hostMem = s.hostMem := rfl
@[simp] theorem State.updCore_hostHoles (s : State) (k : Nat) (f : Core → Core) : (s.updCore k f).hostHoles = s.hostHoles := rfl
@[simp] theorem State.updCore_reqs (s : State) (k : Nat) (f : Core → Core) : (s.updCore k f).reqs = s.reqs := rfl
@[simp] theorem State.updCore_pipe (s : State) (k : Nat) (f : Core → Core) : (s.updCore k f).pipe = s.pipe := rfl
@[simp] theorem State.updCore_hints (s : State) (k : Nat) (f : Core → Core) : (s.updCore k f).hints = s.hints := rfl
@[simp] theorem State.updCore_ctls (s : State) (k : Nat) (f : Core → Core) : (s.updCore k f).ctls = s.ctls := rfl
@[simp] theorem State.updCore_routers (s : State) (k : Nat) (f : Core → Core) : (s.updCore k f).routers = s.routers := rfl
@[simp] theorem State.updCore_contribs (s : State) (k : Nat) (f : Core → Core) : (s.updCore k f).contribs = s.contribs := rfl
@[simp] theorem State.updCore_ctxs (s : State) (k : Nat) (f : Core → Core) : (s.updCore k f).ctxs = s.ctxs := rfl
@[simp] theorem State.updCore_launches (s : State) (k : Nat) (f : Core → Core) : (s.updCore k f).launches = s.launches := rfl
@[simp] theorem State.updCore_queues (s : State) (k : Nat) (f : Core → Core) : (s.updCore k f).queues = s.queues := rfl
@[simp] theorem State.updCore_mbox (s : State) (k : Nat) (f : Core → Core) : (s.updCore k f).mbox = s.mbox := rfl
@[simp] theorem State.updCore_memwin (s : State) (k : Nat) (f : Core → Core) : (s.updCore k f).memwin = s.memwin := rfl
@[simp] theorem State.updCore_podSecret (s : State) (k : Nat) (f : Core → Core) : (s.updCore k f).podSecret = s.podSecret := rfl
@[simp] theorem State.updCore_image (s : State) (k : Nat) (f : Core → Core) : (s.updCore k f).image = s.image := rfl
@[simp] theorem State.updCore_defects (s : State) (k : Nat) (f : Core → Core) : (s.updCore k f).defects = s.defects := rfl
@[simp] theorem State.updCore_bootHist (s : State) (k : Nat) (f : Core → Core) : (s.updCore k f).bootHist = s.bootHist := rfl
@[simp] theorem State.updCore_oscs (s : State) (k : Nat) (f : Core → Core) : (s.updCore k f).oscs = s.oscs := rfl
@[simp] theorem State.updCore_pod (s : State) (k : Nat) (f : Core → Core) : (s.updCore k f).pod = s.pod := rfl
@[simp] theorem State.updCore_hostOut (s : State) (k : Nat) (f : Core → Core) : (s.updCore k f).hostOut = s.hostOut := rfl
@[simp] theorem State.updCore_slot (s : State) (k : Nat) (f : Core → Core) (j : Nat) : (s.updCore k f).slot j = s.slot j := rfl
@[simp] theorem State.updCore_tile (s : State) (k : Nat) (f : Core → Core) (j : Nat) : (s.updCore k f).tile j = s.tile j := rfl
@[simp] theorem State.updCore_node (s : State) (k : Nat) (f : Core → Core) (j : Nat) : (s.updCore k f).node j = s.node j := rfl

/-! ### setTile -/

@[simp] theorem State.setTile_agenda (s : State) (k : Nat) (x : Tile) : (s.setTile k x).agenda = s.agenda := rfl
@[simp] theorem State.setTile_cur (s : State) (k : Nat) (x : Tile) : (s.setTile k x).cur = s.cur := rfl
@[simp] theorem State.setTile_nextId (s : State) (k : Nat) (x : Tile) : (s.setTile k x).nextId = s.nextId := rfl
@[simp] theorem State.setTile_freeCtr (s : State) (k : Nat) (x : Tile) : (s.setTile k x).freeCtr = s.freeCtr := rfl
@[simp] theorem State.setTile_cycle (s : State) (k : Nat) (x : Tile) : (s.setTile k x).cycle = s.cycle := rfl
@[simp] theorem State.setTile_power (s : State) (k : Nat) (x : Tile) : (s.setTile k x).power = s.power := rfl
@[simp] theorem State.setTile_slots (s : State) (k : Nat) (x : Tile) : (s.setTile k x).slots = s.slots := rfl
@[simp] theorem State.setTile_cores (s : State) (k : Nat) (x : Tile) : (s.setTile k x).cores = s.cores := rfl
@[simp] theorem State.setTile_nodes (s : State) (k : Nat) (x : Tile) : (s.setTile k x).nodes = s.nodes := rfl
@[simp] theorem State.setTile_mem (s : State) (k : Nat) (x : Tile) : (s.setTile k x).mem = s.mem := rfl
@[simp] theorem State.setTile_wst (s : State) (k : Nat) (x : Tile) : (s.setTile k x).wst = s.wst := rfl
@[simp] theorem State.setTile_bad (s : State) (k : Nat) (x : Tile) : (s.setTile k x).bad = s.bad := rfl
@[simp] theorem State.setTile_corr (s : State) (k : Nat) (x : Tile) : (s.setTile k x).corr = s.corr := rfl
@[simp] theorem State.setTile_hostMem (s : State) (k : Nat) (x : Tile) : (s.setTile k x).hostMem = s.hostMem := rfl
@[simp] theorem State.setTile_hostHoles (s : State) (k : Nat) (x : Tile) : (s.setTile k x).hostHoles = s.hostHoles := rfl
@[simp] theorem State.setTile_reqs (s : State) (k : Nat) (x : Tile) : (s.setTile k x).reqs = s.reqs := rfl
@[simp] theorem State.setTile_pipe (s : State) (k : Nat) (x : Tile) : (s.setTile k x).pipe = s.pipe := rfl
@[simp] theorem State.setTile_hints (s : State) (k : Nat) (x : Tile) : (s.setTile k x).hints = s.hints := rfl
@[simp] theorem State.setTile_ctls (s : State) (k : Nat) (x : Tile) : (s.setTile k x).ctls = s.ctls := rfl
@[simp] theorem State.setTile_routers (s : State) (k : Nat) (x : Tile) : (s.setTile k x).routers = s.routers := rfl
@[simp] theorem State.setTile_contribs (s : State) (k : Nat) (x : Tile) : (s.setTile k x).contribs = s.contribs := rfl
@[simp] theorem State.setTile_ctxs (s : State) (k : Nat) (x : Tile) : (s.setTile k x).ctxs = s.ctxs := rfl
@[simp] theorem State.setTile_launches (s : State) (k : Nat) (x : Tile) : (s.setTile k x).launches = s.launches := rfl
@[simp] theorem State.setTile_queues (s : State) (k : Nat) (x : Tile) : (s.setTile k x).queues = s.queues := rfl
@[simp] theorem State.setTile_mbox (s : State) (k : Nat) (x : Tile) : (s.setTile k x).mbox = s.mbox := rfl
@[simp] theorem State.setTile_memwin (s : State) (k : Nat) (x : Tile) : (s.setTile k x).memwin = s.memwin := rfl
@[simp] theorem State.setTile_podSecret (s : State) (k : Nat) (x : Tile) : (s.setTile k x).podSecret = s.podSecret := rfl
@[simp] theorem State.setTile_image (s : State) (k : Nat) (x : Tile) : (s.setTile k x).image = s.image := rfl
@[simp] theorem State.setTile_defects (s : State) (k : Nat) (x : Tile) : (s.setTile k x).defects = s.defects := rfl
@[simp] theorem State.setTile_bootHist (s : State) (k : Nat) (x : Tile) : (s.setTile k x).bootHist = s.bootHist := rfl
@[simp] theorem State.setTile_oscs (s : State) (k : Nat) (x : Tile) : (s.setTile k x).oscs = s.oscs := rfl
@[simp] theorem State.setTile_pod (s : State) (k : Nat) (x : Tile) : (s.setTile k x).pod = s.pod := rfl
@[simp] theorem State.setTile_hostOut (s : State) (k : Nat) (x : Tile) : (s.setTile k x).hostOut = s.hostOut := rfl
@[simp] theorem State.setTile_slot (s : State) (k : Nat) (x : Tile) (j : Nat) : (s.setTile k x).slot j = s.slot j := rfl
@[simp] theorem State.setTile_core (s : State) (k : Nat) (x : Tile) (j : Nat) : (s.setTile k x).core j = s.core j := rfl
@[simp] theorem State.setTile_node (s : State) (k : Nat) (x : Tile) (j : Nat) : (s.setTile k x).node j = s.node j := rfl

/-! ### updTile -/

@[simp] theorem State.updTile_agenda (s : State) (k : Nat) (f : Tile → Tile) : (s.updTile k f).agenda = s.agenda := rfl
@[simp] theorem State.updTile_cur (s : State) (k : Nat) (f : Tile → Tile) : (s.updTile k f).cur = s.cur := rfl
@[simp] theorem State.updTile_nextId (s : State) (k : Nat) (f : Tile → Tile) : (s.updTile k f).nextId = s.nextId := rfl
@[simp] theorem State.updTile_freeCtr (s : State) (k : Nat) (f : Tile → Tile) : (s.updTile k f).freeCtr = s.freeCtr := rfl
@[simp] theorem State.updTile_cycle (s : State) (k : Nat) (f : Tile → Tile) : (s.updTile k f).cycle = s.cycle := rfl
@[simp] theorem State.updTile_power (s : State) (k : Nat) (f : Tile → Tile) : (s.updTile k f).power = s.power := rfl
@[simp] theorem State.updTile_slots (s : State) (k : Nat) (f : Tile → Tile) : (s.updTile k f).slots = s.slots := rfl
@[simp] theorem State.updTile_cores (s : State) (k : Nat) (f : Tile → Tile) : (s.updTile k f).cores = s.cores := rfl
@[simp] theorem State.updTile_nodes (s : State) (k : Nat) (f : Tile → Tile) : (s.updTile k f).nodes = s.nodes := rfl
@[simp] theorem State.updTile_mem (s : State) (k : Nat) (f : Tile → Tile) : (s.updTile k f).mem = s.mem := rfl
@[simp] theorem State.updTile_wst (s : State) (k : Nat) (f : Tile → Tile) : (s.updTile k f).wst = s.wst := rfl
@[simp] theorem State.updTile_bad (s : State) (k : Nat) (f : Tile → Tile) : (s.updTile k f).bad = s.bad := rfl
@[simp] theorem State.updTile_corr (s : State) (k : Nat) (f : Tile → Tile) : (s.updTile k f).corr = s.corr := rfl
@[simp] theorem State.updTile_hostMem (s : State) (k : Nat) (f : Tile → Tile) : (s.updTile k f).hostMem = s.hostMem := rfl
@[simp] theorem State.updTile_hostHoles (s : State) (k : Nat) (f : Tile → Tile) : (s.updTile k f).hostHoles = s.hostHoles := rfl
@[simp] theorem State.updTile_reqs (s : State) (k : Nat) (f : Tile → Tile) : (s.updTile k f).reqs = s.reqs := rfl
@[simp] theorem State.updTile_pipe (s : State) (k : Nat) (f : Tile → Tile) : (s.updTile k f).pipe = s.pipe := rfl
@[simp] theorem State.updTile_hints (s : State) (k : Nat) (f : Tile → Tile) : (s.updTile k f).hints = s.hints := rfl
@[simp] theorem State.updTile_ctls (s : State) (k : Nat) (f : Tile → Tile) : (s.updTile k f).ctls = s.ctls := rfl
@[simp] theorem State.updTile_routers (s : State) (k : Nat) (f : Tile → Tile) : (s.updTile k f).routers = s.routers := rfl
@[simp] theorem State.updTile_contribs (s : State) (k : Nat) (f : Tile → Tile) : (s.updTile k f).contribs = s.contribs := rfl
@[simp] theorem State.updTile_ctxs (s : State) (k : Nat) (f : Tile → Tile) : (s.updTile k f).ctxs = s.ctxs := rfl
@[simp] theorem State.updTile_launches (s : State) (k : Nat) (f : Tile → Tile) : (s.updTile k f).launches = s.launches := rfl
@[simp] theorem State.updTile_queues (s : State) (k : Nat) (f : Tile → Tile) : (s.updTile k f).queues = s.queues := rfl
@[simp] theorem State.updTile_mbox (s : State) (k : Nat) (f : Tile → Tile) : (s.updTile k f).mbox = s.mbox := rfl
@[simp] theorem State.updTile_memwin (s : State) (k : Nat) (f : Tile → Tile) : (s.updTile k f).memwin = s.memwin := rfl
@[simp] theorem State.updTile_podSecret (s : State) (k : Nat) (f : Tile → Tile) : (s.updTile k f).podSecret = s.podSecret := rfl
@[simp] theorem State.updTile_image (s : State) (k : Nat) (f : Tile → Tile) : (s.updTile k f).image = s.image := rfl
@[simp] theorem State.updTile_defects (s : State) (k : Nat) (f : Tile → Tile) : (s.updTile k f).defects = s.defects := rfl
@[simp] theorem State.updTile_bootHist (s : State) (k : Nat) (f : Tile → Tile) : (s.updTile k f).bootHist = s.bootHist := rfl
@[simp] theorem State.updTile_oscs (s : State) (k : Nat) (f : Tile → Tile) : (s.updTile k f).oscs = s.oscs := rfl
@[simp] theorem State.updTile_pod (s : State) (k : Nat) (f : Tile → Tile) : (s.updTile k f).pod = s.pod := rfl
@[simp] theorem State.updTile_hostOut (s : State) (k : Nat) (f : Tile → Tile) : (s.updTile k f).hostOut = s.hostOut := rfl
@[simp] theorem State.updTile_slot (s : State) (k : Nat) (f : Tile → Tile) (j : Nat) : (s.updTile k f).slot j = s.slot j := rfl
@[simp] theorem State.updTile_core (s : State) (k : Nat) (f : Tile → Tile) (j : Nat) : (s.updTile k f).core j = s.core j := rfl
@[simp] theorem State.updTile_node (s : State) (k : Nat) (f : Tile → Tile) (j : Nat) : (s.updTile k f).node j = s.node j := rfl

/-! ### setNode -/

@[simp] theorem State.setNode_agenda (s : State) (k : Nat) (x : Node) : (s.setNode k x).agenda = s.agenda := rfl
@[simp] theorem State.setNode_cur (s : State) (k : Nat) (x : Node) : (s.setNode k x).cur = s.cur := rfl
@[simp] theorem State.setNode_nextId (s : State) (k : Nat) (x : Node) : (s.setNode k x).nextId = s.nextId := rfl
@[simp] theorem State.setNode_freeCtr (s : State) (k : Nat) (x : Node) : (s.setNode k x).freeCtr = s.freeCtr := rfl
@[simp] theorem State.setNode_cycle (s : State) (k : Nat) (x : Node) : (s.setNode k x).cycle = s.cycle := rfl
@[simp] theorem State.setNode_power (s : State) (k : Nat) (x : Node) : (s.setNode k x).power = s.power := rfl
@[simp] theorem State.setNode_slots (s : State) (k : Nat) (x : Node) : (s.setNode k x).slots = s.slots := rfl
@[simp] theorem State.setNode_cores (s : State) (k : Nat) (x : Node) : (s.setNode k x).cores = s.cores := rfl
@[simp] theorem State.setNode_tiles (s : State) (k : Nat) (x : Node) : (s.setNode k x).tiles = s.tiles := rfl
@[simp] theorem State.setNode_mem (s : State) (k : Nat) (x : Node) : (s.setNode k x).mem = s.mem := rfl
@[simp] theorem State.setNode_wst (s : State) (k : Nat) (x : Node) : (s.setNode k x).wst = s.wst := rfl
@[simp] theorem State.setNode_bad (s : State) (k : Nat) (x : Node) : (s.setNode k x).bad = s.bad := rfl
@[simp] theorem State.setNode_corr (s : State) (k : Nat) (x : Node) : (s.setNode k x).corr = s.corr := rfl
@[simp] theorem State.setNode_hostMem (s : State) (k : Nat) (x : Node) : (s.setNode k x).hostMem = s.hostMem := rfl
@[simp] theorem State.setNode_hostHoles (s : State) (k : Nat) (x : Node) : (s.setNode k x).hostHoles = s.hostHoles := rfl
@[simp] theorem State.setNode_reqs (s : State) (k : Nat) (x : Node) : (s.setNode k x).reqs = s.reqs := rfl
@[simp] theorem State.setNode_pipe (s : State) (k : Nat) (x : Node) : (s.setNode k x).pipe = s.pipe := rfl
@[simp] theorem State.setNode_hints (s : State) (k : Nat) (x : Node) : (s.setNode k x).hints = s.hints := rfl
@[simp] theorem State.setNode_ctls (s : State) (k : Nat) (x : Node) : (s.setNode k x).ctls = s.ctls := rfl
@[simp] theorem State.setNode_routers (s : State) (k : Nat) (x : Node) : (s.setNode k x).routers = s.routers := rfl
@[simp] theorem State.setNode_contribs (s : State) (k : Nat) (x : Node) : (s.setNode k x).contribs = s.contribs := rfl
@[simp] theorem State.setNode_ctxs (s : State) (k : Nat) (x : Node) : (s.setNode k x).ctxs = s.ctxs := rfl
@[simp] theorem State.setNode_launches (s : State) (k : Nat) (x : Node) : (s.setNode k x).launches = s.launches := rfl
@[simp] theorem State.setNode_queues (s : State) (k : Nat) (x : Node) : (s.setNode k x).queues = s.queues := rfl
@[simp] theorem State.setNode_mbox (s : State) (k : Nat) (x : Node) : (s.setNode k x).mbox = s.mbox := rfl
@[simp] theorem State.setNode_memwin (s : State) (k : Nat) (x : Node) : (s.setNode k x).memwin = s.memwin := rfl
@[simp] theorem State.setNode_podSecret (s : State) (k : Nat) (x : Node) : (s.setNode k x).podSecret = s.podSecret := rfl
@[simp] theorem State.setNode_image (s : State) (k : Nat) (x : Node) : (s.setNode k x).image = s.image := rfl
@[simp] theorem State.setNode_defects (s : State) (k : Nat) (x : Node) : (s.setNode k x).defects = s.defects := rfl
@[simp] theorem State.setNode_bootHist (s : State) (k : Nat) (x : Node) : (s.setNode k x).bootHist = s.bootHist := rfl
@[simp] theorem State.setNode_oscs (s : State) (k : Nat) (x : Node) : (s.setNode k x).oscs = s.oscs := rfl
@[simp] theorem State.setNode_pod (s : State) (k : Nat) (x : Node) : (s.setNode k x).pod = s.pod := rfl
@[simp] theorem State.setNode_hostOut (s : State) (k : Nat) (x : Node) : (s.setNode k x).hostOut = s.hostOut := rfl
@[simp] theorem State.setNode_slot (s : State) (k : Nat) (x : Node) (j : Nat) : (s.setNode k x).slot j = s.slot j := rfl
@[simp] theorem State.setNode_core (s : State) (k : Nat) (x : Node) (j : Nat) : (s.setNode k x).core j = s.core j := rfl
@[simp] theorem State.setNode_tile (s : State) (k : Nat) (x : Node) (j : Nat) : (s.setNode k x).tile j = s.tile j := rfl

/-! ### updNode -/

@[simp] theorem State.updNode_agenda (s : State) (k : Nat) (f : Node → Node) : (s.updNode k f).agenda = s.agenda := rfl
@[simp] theorem State.updNode_cur (s : State) (k : Nat) (f : Node → Node) : (s.updNode k f).cur = s.cur := rfl
@[simp] theorem State.updNode_nextId (s : State) (k : Nat) (f : Node → Node) : (s.updNode k f).nextId = s.nextId := rfl
@[simp] theorem State.updNode_freeCtr (s : State) (k : Nat) (f : Node → Node) : (s.updNode k f).freeCtr = s.freeCtr := rfl
@[simp] theorem State.updNode_cycle (s : State) (k : Nat) (f : Node → Node) : (s.updNode k f).cycle = s.cycle := rfl
@[simp] theorem State.updNode_power (s : State) (k : Nat) (f : Node → Node) : (s.updNode k f).power = s.power := rfl
@[simp] theorem State.updNode_slots (s : State) (k : Nat) (f : Node → Node) : (s.updNode k f).slots = s.slots := rfl
@[simp] theorem State.updNode_cores (s : State) (k : Nat) (f : Node → Node) : (s.updNode k f).cores = s.cores := rfl
@[simp] theorem State.updNode_tiles (s : State) (k : Nat) (f : Node → Node) : (s.updNode k f).tiles = s.tiles := rfl
@[simp] theorem State.updNode_mem (s : State) (k : Nat) (f : Node → Node) : (s.updNode k f).mem = s.mem := rfl
@[simp] theorem State.updNode_wst (s : State) (k : Nat) (f : Node → Node) : (s.updNode k f).wst = s.wst := rfl
@[simp] theorem State.updNode_bad (s : State) (k : Nat) (f : Node → Node) : (s.updNode k f).bad = s.bad := rfl
@[simp] theorem State.updNode_corr (s : State) (k : Nat) (f : Node → Node) : (s.updNode k f).corr = s.corr := rfl
@[simp] theorem State.updNode_hostMem (s : State) (k : Nat) (f : Node → Node) : (s.updNode k f).hostMem = s.hostMem := rfl
@[simp] theorem State.updNode_hostHoles (s : State) (k : Nat) (f : Node → Node) : (s.updNode k f).hostHoles = s.hostHoles := rfl
@[simp] theorem State.updNode_reqs (s : State) (k : Nat) (f : Node → Node) : (s.updNode k f).reqs = s.reqs := rfl
@[simp] theorem State.updNode_pipe (s : State) (k : Nat) (f : Node → Node) : (s.updNode k f).pipe = s.pipe := rfl
@[simp] theorem State.updNode_hints (s : State) (k : Nat) (f : Node → Node) : (s.updNode k f).hints = s.hints := rfl
@[simp] theorem State.updNode_ctls (s : State) (k : Nat) (f : Node → Node) : (s.updNode k f).ctls = s.ctls := rfl
@[simp] theorem State.updNode_routers (s : State) (k : Nat) (f : Node → Node) : (s.updNode k f).routers = s.routers := rfl
@[simp] theorem State.updNode_contribs (s : State) (k : Nat) (f : Node → Node) : (s.updNode k f).contribs = s.contribs := rfl
@[simp] theorem State.updNode_ctxs (s : State) (k : Nat) (f : Node → Node) : (s.updNode k f).ctxs = s.ctxs := rfl
@[simp] theorem State.updNode_launches (s : State) (k : Nat) (f : Node → Node) : (s.updNode k f).launches = s.launches := rfl
@[simp] theorem State.updNode_queues (s : State) (k : Nat) (f : Node → Node) : (s.updNode k f).queues = s.queues := rfl
@[simp] theorem State.updNode_mbox (s : State) (k : Nat) (f : Node → Node) : (s.updNode k f).mbox = s.mbox := rfl
@[simp] theorem State.updNode_memwin (s : State) (k : Nat) (f : Node → Node) : (s.updNode k f).memwin = s.memwin := rfl
@[simp] theorem State.updNode_podSecret (s : State) (k : Nat) (f : Node → Node) : (s.updNode k f).podSecret = s.podSecret := rfl
@[simp] theorem State.updNode_image (s : State) (k : Nat) (f : Node → Node) : (s.updNode k f).image = s.image := rfl
@[simp] theorem State.updNode_defects (s : State) (k : Nat) (f : Node → Node) : (s.updNode k f).defects = s.defects := rfl
@[simp] theorem State.updNode_bootHist (s : State) (k : Nat) (f : Node → Node) : (s.updNode k f).bootHist = s.bootHist := rfl
@[simp] theorem State.updNode_oscs (s : State) (k : Nat) (f : Node → Node) : (s.updNode k f).oscs = s.oscs := rfl
@[simp] theorem State.updNode_pod (s : State) (k : Nat) (f : Node → Node) : (s.updNode k f).pod = s.pod := rfl
@[simp] theorem State.updNode_hostOut (s : State) (k : Nat) (f : Node → Node) : (s.updNode k f).hostOut = s.hostOut := rfl
@[simp] theorem State.updNode_slot (s : State) (k : Nat) (f : Node → Node) (j : Nat) : (s.updNode k f).slot j = s.slot j := rfl
@[simp] theorem State.updNode_core (s : State) (k : Nat) (f : Node → Node) (j : Nat) : (s.updNode k f).core j = s.core j := rfl
@[simp] theorem State.updNode_tile (s : State) (k : Nat) (f : Node → Node) (j : Nat) : (s.updNode k f).tile j = s.tile j := rfl

/-! ### updReq -/

@[simp] theorem State.updReq_agenda (s : State) (k : Nat) (f : Req → Req) : (s.updReq k f).agenda = s.agenda := rfl
@[simp] theorem State.updReq_cur (s : State) (k : Nat) (f : Req → Req) : (s.updReq k f).cur = s.cur := rfl
@[simp] theorem State.updReq_nextId (s : State) (k : Nat) (f : Req → Req) : (s.updReq k f).nextId = s.nextId := rfl
@[simp] theorem State.updReq_freeCtr (s : State) (k : Nat) (f : Req → Req) : (s.updReq k f).freeCtr = s.freeCtr := rfl
@[simp] theorem State.updReq_cycle (s : State) (k : Nat) (f : Req → Req) : (s.updReq k f).cycle = s.cycle := rfl
@[simp] theorem State.updReq_power (s : State) (k : Nat) (f : Req → Req) : (s.updReq k f).power = s.power := rfl
@[simp] theorem State.updReq_slots (s : State) (k : Nat) (f : Req → Req) : (s.updReq k f).slots = s.slots := rfl
@[simp] theorem State.updReq_cores (s : State) (k : Nat) (f : Req → Req) : (s.updReq k f).cores = s.cores := rfl
@[simp] theorem State.updReq_tiles (s : State) (k : Nat) (f : Req → Req) : (s.updReq k f).tiles = s.tiles := rfl
@[simp] theorem State.updReq_nodes (s : State) (k : Nat) (f : Req → Req) : (s.updReq k f).nodes = s.nodes := rfl
@[simp] theorem State.updReq_mem (s : State) (k : Nat) (f : Req → Req) : (s.updReq k f).mem = s.mem := rfl
@[simp] theorem State.updReq_wst (s : State) (k : Nat) (f : Req → Req) : (s.updReq k f).wst = s.wst := rfl
@[simp] theorem State.updReq_bad (s : State) (k : Nat) (f : Req → Req) : (s.updReq k f).bad = s.bad := rfl
@[simp] theorem State.updReq_corr (s : State) (k : Nat) (f : Req → Req) : (s.updReq k f).corr = s.corr := rfl
@[simp] theorem State.updReq_hostMem (s : State) (k : Nat) (f : Req → Req) : (s.updReq k f).hostMem = s.hostMem := rfl
@[simp] theorem State.updReq_hostHoles (s : State) (k : Nat) (f : Req → Req) : (s.updReq k f).hostHoles = s.hostHoles := rfl
@[simp] theorem State.updReq_pipe (s : State) (k : Nat) (f : Req → Req) : (s.updReq k f).pipe = s.pipe := rfl
@[simp] theorem State.updReq_hints (s : State) (k : Nat) (f : Req → Req) : (s.updReq k f).hints = s.hints := rfl
@[simp] theorem State.updReq_ctls (s : State) (k : Nat) (f : Req → Req) : (s.updReq k f).ctls = s.ctls := rfl
@[simp] theorem State.updReq_routers (s : State) (k : Nat) (f : Req → Req) : (s.updReq k f).routers = s.routers := rfl
@[simp] theorem State.updReq_contribs (s : State) (k : Nat) (f : Req → Req) : (s.updReq k f).contribs = s.contribs := rfl
@[simp] theorem State.updReq_ctxs (s : State) (k : Nat) (f : Req → Req) : (s.updReq k f).ctxs = s.ctxs := rfl
@[simp] theorem State.updReq_launches (s : State) (k : Nat) (f : Req → Req) : (s.updReq k f).launches = s.launches := rfl
@[simp] theorem State.updReq_queues (s : State) (k : Nat) (f : Req → Req) : (s.updReq k f).queues = s.queues := rfl
@[simp] theorem State.updReq_mbox (s : State) (k : Nat) (f : Req → Req) : (s.updReq k f).mbox = s.mbox := rfl
@[simp] theorem State.updReq_memwin (s : State) (k : Nat) (f : Req → Req) : (s.updReq k f).memwin = s.memwin := rfl
@[simp] theorem State.updReq_podSecret (s : State) (k : Nat) (f : Req → Req) : (s.updReq k f).podSecret = s.podSecret := rfl
@[simp] theorem State.updReq_image (s : State) (k : Nat) (f : Req → Req) : (s.updReq k f).image = s.image := rfl
@[simp] theorem State.updReq_defects (s : State) (k : Nat) (f : Req → Req) : (s.updReq k f).defects = s.defects := rfl
@[simp] theorem State.updReq_bootHist (s : State) (k : Nat) (f : Req → Req) : (s.updReq k f).bootHist = s.bootHist := rfl
@[simp] theorem State.updReq_oscs (s : State) (k : Nat) (f : Req → Req) : (s.updReq k f).oscs = s.oscs := rfl
@[simp] theorem State.updReq_pod (s : State) (k : Nat) (f : Req → Req) : (s.updReq k f).pod = s.pod := rfl
@[simp] theorem State.updReq_hostOut (s : State) (k : Nat) (f : Req → Req) : (s.updReq k f).hostOut = s.hostOut := rfl
@[simp] theorem State.updReq_slot (s : State) (k : Nat) (f : Req → Req) (j : Nat) : (s.updReq k f).slot j = s.slot j := rfl
@[simp] theorem State.updReq_core (s : State) (k : Nat) (f : Req → Req) (j : Nat) : (s.updReq k f).core j = s.core j := rfl
@[simp] theorem State.updReq_tile (s : State) (k : Nat) (f : Req → Req) (j : Nat) : (s.updReq k f).tile j = s.tile j := rfl
@[simp] theorem State.updReq_node (s : State) (k : Nat) (f : Req → Req) (j : Nat) : (s.updReq k f).node j = s.node j := rfl

/-! ### dropReq -/

@[simp] theorem State.dropReq_agenda (s : State) (k : Nat) : (s.dropReq k).agenda = s.agenda := rfl
@[simp] theorem State.dropReq_cur (s : State) (k : Nat) : (s.dropReq k).cur = s.cur := rfl
@[simp] theorem State.dropReq_nextId (s : State) (k : Nat) : (s.dropReq k).nextId = s.nextId := rfl
@[simp] theorem State.dropReq_freeCtr (s : State) (k : Nat) : (s.dropReq k).freeCtr = s.freeCtr := rfl
@[simp] theorem State.dropReq_cycle (s : State) (k : Nat) : (s.dropReq k).cycle = s.cycle := rfl
@[simp] theorem State.dropReq_power (s : State) (k : Nat) : (s.dropReq k).power = s.power := rfl
@[simp] theorem State.dropReq_slots (s : State) (k : Nat) : (s.dropReq k).slots = s.slots := rfl
@[simp] theorem State.dropReq_cores (s : State) (k : Nat) : (s.dropReq k).cores = s.cores := rfl
@[simp] theorem State.dropReq_tiles (s : State) (k : Nat) : (s.dropReq k).tiles = s.tiles := rfl
@[simp] theorem State.dropReq_nodes (s : State) (k : Nat) : (s.dropReq k).nodes = s.nodes := rfl
@[simp] theorem State.dropReq_mem (s : State) (k : Nat) : (s.dropReq k).mem = s.mem := rfl
@[simp] theorem State.dropReq_wst (s : State) (k : Nat) : (s.dropReq k).wst = s.wst := rfl
@[simp] theorem State.dropReq_bad (s : State) (k : Nat) : (s.dropReq k).bad = s.bad := rfl
@[simp] theorem State.dropReq_corr (s : State) (k : Nat) : (s.dropReq k).corr = s.corr := rfl
@[simp] theorem State.dropReq_hostMem (s : State) (k : Nat) : (s.dropReq k).hostMem = s.hostMem := rfl
@[simp] theorem State.dropReq_hostHoles (s : State) (k : Nat) : (s.dropReq k).hostHoles = s.hostHoles := rfl
@[simp] theorem State.dropReq_pipe (s : State) (k : Nat) : (s.dropReq k).pipe = s.pipe := rfl
@[simp] theorem State.dropReq_hints (s : State) (k : Nat) : (s.dropReq k).hints = s.hints := rfl
@[simp] theorem State.dropReq_ctls (s : State) (k : Nat) : (s.dropReq k).ctls = s.ctls := rfl
@[simp] theorem State.dropReq_routers (s : State) (k : Nat) : (s.dropReq k).routers = s.routers := rfl
@[simp] theorem State.dropReq_contribs (s : State) (k : Nat) : (s.dropReq k).contribs = s.contribs := rfl
@[simp] theorem State.dropReq_ctxs (s : State) (k : Nat) : (s.dropReq k).ctxs = s.ctxs := rfl
@[simp] theorem State.dropReq_launches (s : State) (k : Nat) : (s.dropReq k).launches = s.launches := rfl
@[simp] theorem State.dropReq_queues (s : State) (k : Nat) : (s.dropReq k).queues = s.queues := rfl
@[simp] theorem State.dropReq_mbox (s : State) (k : Nat) : (s.dropReq k).mbox = s.mbox := rfl
@[simp] theorem State.dropReq_memwin (s : State) (k : Nat) : (s.dropReq k).memwin = s.memwin := rfl
@[simp] theorem State.dropReq_podSecret (s : State) (k : Nat) : (s.dropReq k).podSecret = s.podSecret := rfl
@[simp] theorem State.dropReq_image (s : State) (k : Nat) : (s.dropReq k).image = s.image := rfl
@[simp] theorem State.dropReq_defects (s : State) (k : Nat) : (s.dropReq k).defects = s.defects := rfl
@[simp] theorem State.dropReq_bootHist (s : State) (k : Nat) : (s.dropReq k).bootHist = s.bootHist := rfl
@[simp] theorem State.dropReq_oscs (s : State) (k : Nat) : (s.dropReq k).oscs = s.oscs := rfl
@[simp] theorem State.dropReq_pod (s : State) (k : Nat) : (s.dropReq k).pod = s.pod := rfl
@[simp] theorem State.dropReq_hostOut (s : State) (k : Nat) : (s.dropReq k).hostOut = s.hostOut := rfl
@[simp] theorem State.dropReq_slot (s : State) (k : Nat) (j : Nat) : (s.dropReq k).slot j = s.slot j := rfl
@[simp] theorem State.dropReq_core (s : State) (k : Nat) (j : Nat) : (s.dropReq k).core j = s.core j := rfl
@[simp] theorem State.dropReq_tile (s : State) (k : Nat) (j : Nat) : (s.dropReq k).tile j = s.tile j := rfl
@[simp] theorem State.dropReq_node (s : State) (k : Nat) (j : Nat) : (s.dropReq k).node j = s.node j := rfl

/-! ### stageReq -/

@[simp] theorem State.stageReq_agenda (s : State) (k : Nat) (x : Stage) : (s.stageReq k x).agenda = s.agenda := rfl
@[simp] theorem State.stageReq_cur (s : State) (k : Nat) (x : Stage) : (s.stageReq k x).cur = s.cur := rfl
@[simp] theorem State.stageReq_freeCtr (s : State) (k : Nat) (x : Stage) : (s.stageReq k x).freeCtr = s.freeCtr := rfl
@[simp] theorem State.stageReq_cycle (s : State) (k : Nat) (x : Stage) : (s.stageReq k x).cycle = s.cycle := rfl
@[simp] theorem State.stageReq_power (s : State) (k : Nat) (x : Stage) : (s.stageReq k x).power = s.power := rfl
@[simp] theorem State.stageReq_slots (s : State) (k : Nat) (x : Stage) : (s.stageReq k x).slots = s.slots := rfl
@[simp] theorem State.stageReq_cores (s : State) (k : Nat) (x : Stage) : (s.stageReq k x).cores = s.cores := rfl
@[simp] theorem State.stageReq_tiles (s : State) (k : Nat) (x : Stage) : (s.stageReq k x).tiles = s.tiles := rfl
@[simp] theorem State.stageReq_nodes (s : State) (k : Nat) (x : Stage) : (s.stageReq k x).nodes = s.nodes := rfl
@[simp] theorem State.stageReq_mem (s : State) (k : Nat) (x : Stage) : (s.stageReq k x).mem = s.mem := rfl
@[simp] theorem State.stageReq_wst (s : State) (k : Nat) (x : Stage) : (s.stageReq k x).wst = s.wst := rfl
@[simp] theorem State.stageReq_bad (s : State) (k : Nat) (x : Stage) : (s.stageReq k x).bad = s.bad := rfl
@[simp] theorem State.stageReq_corr (s : State) (k : Nat) (x : Stage) : (s.stageReq k x).corr = s.corr := rfl
@[simp] theorem State.stageReq_hostMem (s : State) (k : Nat) (x : Stage) : (s.stageReq k x).hostMem = s.hostMem := rfl
@[simp] theorem State.stageReq_hostHoles (s : State) (k : Nat) (x : Stage) : (s.stageReq k x).hostHoles = s.hostHoles := rfl
@[simp] theorem State.stageReq_pipe (s : State) (k : Nat) (x : Stage) : (s.stageReq k x).pipe = s.pipe := rfl
@[simp] theorem State.stageReq_hints (s : State) (k : Nat) (x : Stage) : (s.stageReq k x).hints = s.hints := rfl
@[simp] theorem State.stageReq_ctls (s : State) (k : Nat) (x : Stage) : (s.stageReq k x).ctls = s.ctls := rfl
@[simp] theorem State.stageReq_routers (s : State) (k : Nat) (x : Stage) : (s.stageReq k x).routers = s.routers := rfl
@[simp] theorem State.stageReq_contribs (s : State) (k : Nat) (x : Stage) : (s.stageReq k x).contribs = s.contribs := rfl
@[simp] theorem State.stageReq_ctxs (s : State) (k : Nat) (x : Stage) : (s.stageReq k x).ctxs = s.ctxs := rfl
@[simp] theorem State.stageReq_launches (s : State) (k : Nat) (x : Stage) : (s.stageReq k x).launches = s.launches := rfl
@[simp] theorem State.stageReq_queues (s : State) (k : Nat) (x : Stage) : (s.stageReq k x).queues = s.queues := rfl
@[simp] theorem State.stageReq_mbox (s : State) (k : Nat) (x : Stage) : (s.stageReq k x).mbox = s.mbox := rfl
@[simp] theorem State.stageReq_memwin (s : State) (k : Nat) (x : Stage) : (s.stageReq k x).memwin = s.memwin := rfl
@[simp] theorem State.stageReq_podSecret (s : State) (k : Nat) (x : Stage) : (s.stageReq k x).podSecret = s.podSecret := rfl
@[simp] theorem State.stageReq_image (s : State) (k : Nat) (x : Stage) : (s.stageReq k x).image = s.image := rfl
@[simp] theorem State.stageReq_defects (s : State) (k : Nat) (x : Stage) : (s.stageReq k x).defects = s.defects := rfl
@[simp] theorem State.stageReq_bootHist (s : State) (k : Nat) (x : Stage) : (s.stageReq k x).bootHist = s.bootHist := rfl
@[simp] theorem State.stageReq_oscs (s : State) (k : Nat) (x : Stage) : (s.stageReq k x).oscs = s.oscs := rfl
@[simp] theorem State.stageReq_pod (s : State) (k : Nat) (x : Stage) : (s.stageReq k x).pod = s.pod := rfl
@[simp] theorem State.stageReq_hostOut (s : State) (k : Nat) (x : Stage) : (s.stageReq k x).hostOut = s.hostOut := rfl
@[simp] theorem State.stageReq_slot (s : State) (k : Nat) (x : Stage) (j : Nat) : (s.stageReq k x).slot j = s.slot j := rfl
@[simp] theorem State.stageReq_core (s : State) (k : Nat) (x : Stage) (j : Nat) : (s.stageReq k x).core j = s.core j := rfl
@[simp] theorem State.stageReq_tile (s : State) (k : Nat) (x : Stage) (j : Nat) : (s.stageReq k x).tile j = s.tile j := rfl
@[simp] theorem State.stageReq_node (s : State) (k : Nat) (x : Stage) (j : Nat) : (s.stageReq k x).node j = s.node j := rfl

@[simp] theorem State.slot_setSlot_self (s : State) (k : Nat) (x : Slot) : (s.setSlot k x).slot k = x :=
  Tab.get_put_self _ _ _ _
theorem State.slot_setSlot_ne (s : State) {k j : Nat} (x : Slot) (h : j ≠ k) : (s.setSlot k x).slot j = s.slot j :=
  Tab.get_put_ne _ _ _ h
@[simp] theorem State.slot_updSlot_self (s : State) (k : Nat) (f : Slot → Slot) : (s.updSlot k f).slot k = f (s.slot k) :=
  Tab.get_put_self _ _ _ _
theorem State.slot_updSlot_ne (s : State) {k j : Nat} (f : Slot → Slot) (h : j ≠ k) : (s.updSlot k f).slot j = s.slot j :=
  Tab.get_put_ne _ _ _ h

@[simp] theorem State.core_setCore_self (s : State) (k : Nat) (x : Core) : (s.setCore k x).core k = x :=
  Tab.get_put_self _ _ _ _
theorem State.core_setCore_ne (s : State) {k j : Nat} (x : Core) (h : j ≠ k) : (s.setCore k x).core j = s.core j :=
  Tab.get_put_ne _ _ _ h
@[simp] theorem State.core_updCore_self (s : State) (k : Nat) (f : Core → Core) : (s.updCore k f).core k = f (s.core k) :=
  Tab.get_put_self _ _ _ _
theorem State.core_updCore_ne (s : State) {k j : Nat} (f : Core → Core) (h : j ≠ k) : (s.updCore k f).core j = s.core j :=
  Tab.get_put_ne _ _ _ h

@[simp] theorem State.tile_setTile_self (s : State) (k : Nat) (x : Tile) : (s.setTile k x).tile k = x :=
  Tab.get_put_self _ _ _ _
theorem State.tile_setTile_ne (s : State) {k j : Nat} (x : Tile) (h : j ≠ k) : (s.setTile k x).tile j = s.tile j :=
  Tab.get_put_ne _ _ _ h
@[simp] theorem State.tile_updTile_self (s : State) (k : Nat) (f : Tile → Tile) : (s.updTile k f).tile k = f (s.tile k) :=
  Tab.get_put_self _ _ _ _
theorem State.tile_updTile_ne (s : State) {k j : Nat} (f : Tile → Tile) (h : j ≠ k) : (s.updTile k f).tile j = s.tile j :=
  Tab.get_put_ne _ _ _ h

@[simp] theorem State.node_setNode_self (s : State) (k : Nat) (x : Node) : (s.setNode k x).node k = x :=
  Tab.get_put_self _ _ _ _
theorem State.node_setNode_ne (s : State) {k j : Nat} (x : Node) (h : j ≠ k) : (s.setNode k x).node j = s.node j :=
  Tab.get_put_ne _ _ _ h
@[simp] theorem State.node_updNode_self (s : State) (k : Nat) (f : Node → Node) : (s.updNode k f).node k = f (s.node k) :=
  Tab.get_put_self _ _ _ _
theorem State.node_updNode_ne (s : State) {k j : Nat} (f : Node → Node) (h : j ≠ k) : (s.updNode k f).node j = s.node j :=
  Tab.get_put_ne _ _ _ h

/-! ### Slot.count -/

@[simp] theorem Slot.count_st (x : Slot) (k : Fin 16) : (x.count k).st = x.st := rfl
@[simp] theorem Slot.count_reason (x : Slot) (k : Fin 16) : (x.count k).reason = x.reason := rfl
@[simp] theorem Slot.count_inPark (x : Slot) (k : Fin 16) : (x.count k).inPark = x.inPark := rfl
@[simp] theorem Slot.count_turnAt (x : Slot) (k : Fin 16) : (x.count k).turnAt = x.turnAt := rfl
@[simp] theorem Slot.count_pc (x : Slot) (k : Fin 16) : (x.count k).pc = x.pc := rfl
@[simp] theorem Slot.count_g (x : Slot) (k : Fin 16) : (x.count k).g = x.g := rfl
@[simp] theorem Slot.count_v (x : Slot) (k : Fin 16) : (x.count k).v = x.v := rfl
@[simp] theorem Slot.count_pres (x : Slot) (k : Fin 16) : (x.count k).pres = x.pres := rfl
@[simp] theorem Slot.count_pend (x : Slot) (k : Fin 16) : (x.count k).pend = x.pend := rfl
@[simp] theorem Slot.count_rerr (x : Slot) (k : Fin 16) : (x.count k).rerr = x.rerr := rfl
@[simp] theorem Slot.count_rcorr (x : Slot) (k : Fin 16) : (x.count k).rcorr = x.rcorr := rfl
@[simp] theorem Slot.count_gen (x : Slot) (k : Fin 16) : (x.count k).gen = x.gen := rfl
@[simp] theorem Slot.count_th (x : Slot) (k : Fin 16) : (x.count k).th = x.th := rfl
@[simp] theorem Slot.count_ctx (x : Slot) (k : Fin 16) : (x.count k).ctx = x.ctx := rfl
@[simp] theorem Slot.count_launch (x : Slot) (k : Fin 16) : (x.count k).launch = x.launch := rfl
@[simp] theorem Slot.count_bank (x : Slot) (k : Fin 16) : (x.count k).bank = x.bank := rfl
@[simp] theorem Slot.count_n (x : Slot) (k : Fin 16) : (x.count k).n = x.n := rfl
@[simp] theorem Slot.count_efmt (x : Slot) (k : Fin 16) : (x.count k).efmt = x.efmt := rfl
@[simp] theorem Slot.count_shape (x : Slot) (k : Fin 16) : (x.count k).shape = x.shape := rfl
@[simp] theorem Slot.count_tmsel (x : Slot) (k : Fin 16) : (x.count k).tmsel = x.tmsel := rfl
@[simp] theorem Slot.count_batch (x : Slot) (k : Fin 16) : (x.count k).batch = x.batch := rfl
@[simp] theorem Slot.count_bstat (x : Slot) (k : Fin 16) : (x.count k).bstat = x.bstat := rfl
@[simp] theorem Slot.count_btrap (x : Slot) (k : Fin 16) : (x.count k).btrap = x.btrap := rfl
@[simp] theorem Slot.count_logged (x : Slot) (k : Fin 16) : (x.count k).logged = x.logged := rfl
@[simp] theorem Slot.count_tvec (x : Slot) (k : Fin 16) : (x.count k).tvec = x.tvec := rfl
@[simp] theorem Slot.count_epc (x : Slot) (k : Fin 16) : (x.count k).epc = x.epc := rfl
@[simp] theorem Slot.count_fcause (x : Slot) (k : Fin 16) : (x.count k).fcause = x.fcause := rfl
@[simp] theorem Slot.count_faddr (x : Slot) (k : Fin 16) : (x.count k).faddr = x.faddr := rfl
@[simp] theorem Slot.count_finfo (x : Slot) (k : Fin 16) : (x.count k).finfo = x.finfo := rfl
@[simp] theorem Slot.count_waitlim (x : Slot) (k : Fin 16) : (x.count k).waitlim = x.waitlim := rfl
@[simp] theorem Slot.count_wins (x : Slot) (k : Fin 16) : (x.count k).wins = x.wins := rfl
@[simp] theorem Slot.count_dfr (x : Slot) (k : Fin 16) : (x.count k).dfr = x.dfr := rfl
@[simp] theorem Slot.count_accs (x : Slot) (k : Fin 16) : (x.count k).accs = x.accs := rfl
@[simp] theorem Slot.count_items (x : Slot) (k : Fin 16) : (x.count k).items = x.items := rfl
@[simp] theorem Slot.count_asked (x : Slot) (k : Fin 16) : (x.count k).asked = x.asked := rfl
@[simp] theorem Slot.count_latch (x : Slot) (k : Fin 16) : (x.count k).latch = x.latch := rfl
@[simp] theorem Slot.count_stopped (x : Slot) (k : Fin 16) : (x.count k).stopped = x.stopped := rfl
@[simp] theorem Slot.count_owned (x : Slot) (k : Fin 16) : (x.count k).owned = x.owned := rfl
@[simp] theorem Slot.count_edesc0 (x : Slot) (k : Fin 16) : (x.count k).edesc0 = x.edesc0 := rfl
@[simp] theorem Slot.count_edesc1 (x : Slot) (k : Fin 16) : (x.count k).edesc1 = x.edesc1 := rfl
@[simp] theorem Slot.count_estat0 (x : Slot) (k : Fin 16) : (x.count k).estat0 = x.estat0 := rfl
@[simp] theorem Slot.count_estat1 (x : Slot) (k : Fin 16) : (x.count k).estat1 = x.estat1 := rfl
@[simp] theorem Slot.count_attach (x : Slot) (k : Fin 16) : (x.count k).attach = x.attach := rfl
@[simp] theorem Slot.count_routes (x : Slot) (k : Fin 16) : (x.count k).routes = x.routes := rfl
@[simp] theorem Slot.count_named (x : Slot) (k : Fin 16) : (x.count k).named = x.named := rfl
@[simp] theorem Slot.count_replay (x : Slot) (k : Fin 16) : (x.count k).replay = x.replay := rfl
@[simp] theorem Slot.count_pre (x : Slot) (k : Fin 16) : (x.count k).pre = x.pre := rfl
@[simp] theorem Slot.count_drain (x : Slot) (k : Fin 16) : (x.count k).drain = x.drain := rfl
@[simp] theorem Slot.count_tfault (x : Slot) (k : Fin 16) : (x.count k).tfault = x.tfault := rfl
@[simp] theorem Slot.count_ending (x : Slot) (k : Fin 16) : (x.count k).ending = x.ending := rfl
@[simp] theorem Slot.count_retryAt (x : Slot) (k : Fin 16) : (x.count k).retryAt = x.retryAt := rfl
@[simp] theorem Slot.count_changes (x : Slot) (k : Fin 16) : (x.count k).changes = x.changes := rfl
@[simp] theorem Slot.count_cls (x : Slot) (k : Fin 16) : (x.count k).cls = x.cls := rfl

/-! ### Slot.present -/

@[simp] theorem Slot.present_st (x : Slot) (c : Nat) : (x.present c).st = x.st := rfl
@[simp] theorem Slot.present_reason (x : Slot) (c : Nat) : (x.present c).reason = x.reason := rfl
@[simp] theorem Slot.present_inPark (x : Slot) (c : Nat) : (x.present c).inPark = x.inPark := rfl
@[simp] theorem Slot.present_turnAt (x : Slot) (c : Nat) : (x.present c).turnAt = x.turnAt := rfl
@[simp] theorem Slot.present_pc (x : Slot) (c : Nat) : (x.present c).pc = x.pc := rfl
@[simp] theorem Slot.present_g (x : Slot) (c : Nat) : (x.present c).g = x.g := rfl
@[simp] theorem Slot.present_v (x : Slot) (c : Nat) : (x.present c).v = x.v := rfl
@[simp] theorem Slot.present_gen (x : Slot) (c : Nat) : (x.present c).gen = x.gen := rfl
@[simp] theorem Slot.present_th (x : Slot) (c : Nat) : (x.present c).th = x.th := rfl
@[simp] theorem Slot.present_ctx (x : Slot) (c : Nat) : (x.present c).ctx = x.ctx := rfl
@[simp] theorem Slot.present_launch (x : Slot) (c : Nat) : (x.present c).launch = x.launch := rfl
@[simp] theorem Slot.present_bank (x : Slot) (c : Nat) : (x.present c).bank = x.bank := rfl
@[simp] theorem Slot.present_n (x : Slot) (c : Nat) : (x.present c).n = x.n := rfl
@[simp] theorem Slot.present_efmt (x : Slot) (c : Nat) : (x.present c).efmt = x.efmt := rfl
@[simp] theorem Slot.present_shape (x : Slot) (c : Nat) : (x.present c).shape = x.shape := rfl
@[simp] theorem Slot.present_tmsel (x : Slot) (c : Nat) : (x.present c).tmsel = x.tmsel := rfl
@[simp] theorem Slot.present_batch (x : Slot) (c : Nat) : (x.present c).batch = x.batch := rfl
@[simp] theorem Slot.present_bstat (x : Slot) (c : Nat) : (x.present c).bstat = x.bstat := rfl
@[simp] theorem Slot.present_btrap (x : Slot) (c : Nat) : (x.present c).btrap = x.btrap := rfl
@[simp] theorem Slot.present_logged (x : Slot) (c : Nat) : (x.present c).logged = x.logged := rfl
@[simp] theorem Slot.present_tvec (x : Slot) (c : Nat) : (x.present c).tvec = x.tvec := rfl
@[simp] theorem Slot.present_epc (x : Slot) (c : Nat) : (x.present c).epc = x.epc := rfl
@[simp] theorem Slot.present_fcause (x : Slot) (c : Nat) : (x.present c).fcause = x.fcause := rfl
@[simp] theorem Slot.present_faddr (x : Slot) (c : Nat) : (x.present c).faddr = x.faddr := rfl
@[simp] theorem Slot.present_finfo (x : Slot) (c : Nat) : (x.present c).finfo = x.finfo := rfl
@[simp] theorem Slot.present_waitlim (x : Slot) (c : Nat) : (x.present c).waitlim = x.waitlim := rfl
@[simp] theorem Slot.present_cnt (x : Slot) (c : Nat) : (x.present c).cnt = x.cnt := rfl
@[simp] theorem Slot.present_wins (x : Slot) (c : Nat) : (x.present c).wins = x.wins := rfl
@[simp] theorem Slot.present_dfr (x : Slot) (c : Nat) : (x.present c).dfr = x.dfr := rfl
@[simp] theorem Slot.present_accs (x : Slot) (c : Nat) : (x.present c).accs = x.accs := rfl
@[simp] theorem Slot.present_items (x : Slot) (c : Nat) : (x.present c).items = x.items := rfl
@[simp] theorem Slot.present_asked (x : Slot) (c : Nat) : (x.present c).asked = x.asked := rfl
@[simp] theorem Slot.present_latch (x : Slot) (c : Nat) : (x.present c).latch = x.latch := rfl
@[simp] theorem Slot.present_stopped (x : Slot) (c : Nat) : (x.present c).stopped = x.stopped := rfl
@[simp] theorem Slot.present_owned (x : Slot) (c : Nat) : (x.present c).owned = x.owned := rfl
@[simp] theorem Slot.present_edesc0 (x : Slot) (c : Nat) : (x.present c).edesc0 = x.edesc0 := rfl
@[simp] theorem Slot.present_edesc1 (x : Slot) (c : Nat) : (x.present c).edesc1 = x.edesc1 := rfl
@[simp] theorem Slot.present_estat0 (x : Slot) (c : Nat) : (x.present c).estat0 = x.estat0 := rfl
@[simp] theorem Slot.present_estat1 (x : Slot) (c : Nat) : (x.present c).estat1 = x.estat1 := rfl
@[simp] theorem Slot.present_attach (x : Slot) (c : Nat) : (x.present c).attach = x.attach := rfl
@[simp] theorem Slot.present_routes (x : Slot) (c : Nat) : (x.present c).routes = x.routes := rfl
@[simp] theorem Slot.present_named (x : Slot) (c : Nat) : (x.present c).named = x.named := rfl
@[simp] theorem Slot.present_replay (x : Slot) (c : Nat) : (x.present c).replay = x.replay := rfl
@[simp] theorem Slot.present_pre (x : Slot) (c : Nat) : (x.present c).pre = x.pre := rfl
@[simp] theorem Slot.present_drain (x : Slot) (c : Nat) : (x.present c).drain = x.drain := rfl
@[simp] theorem Slot.present_tfault (x : Slot) (c : Nat) : (x.present c).tfault = x.tfault := rfl
@[simp] theorem Slot.present_ending (x : Slot) (c : Nat) : (x.present c).ending = x.ending := rfl
@[simp] theorem Slot.present_retryAt (x : Slot) (c : Nat) : (x.present c).retryAt = x.retryAt := rfl
@[simp] theorem Slot.present_changes (x : Slot) (c : Nat) : (x.present c).changes = x.changes := rfl
@[simp] theorem Slot.present_cls (x : Slot) (c : Nat) : (x.present c).cls = x.cls := rfl

/-! ### Slot.setG -/

@[simp] theorem Slot.setG_st (x : Slot) (r : Reg) (v : Word) : (x.setG r v).st = x.st := rfl
@[simp] theorem Slot.setG_reason (x : Slot) (r : Reg) (v : Word) : (x.setG r v).reason = x.reason := rfl
@[simp] theorem Slot.setG_inPark (x : Slot) (r : Reg) (v : Word) : (x.setG r v).inPark = x.inPark := rfl
@[simp] theorem Slot.setG_turnAt (x : Slot) (r : Reg) (v : Word) : (x.setG r v).turnAt = x.turnAt := rfl
@[simp] theorem Slot.setG_pc (x : Slot) (r : Reg) (v : Word) : (x.setG r v).pc = x.pc := rfl
@[simp] theorem Slot.setG_v (x : Slot) (r : Reg) (v : Word) : (x.setG r v).v = x.v := rfl
@[simp] theorem Slot.setG_gen (x : Slot) (r : Reg) (v : Word) : (x.setG r v).gen = x.gen := rfl
@[simp] theorem Slot.setG_th (x : Slot) (r : Reg) (v : Word) : (x.setG r v).th = x.th := rfl
@[simp] theorem Slot.setG_ctx (x : Slot) (r : Reg) (v : Word) : (x.setG r v).ctx = x.ctx := rfl
@[simp] theorem Slot.setG_launch (x : Slot) (r : Reg) (v : Word) : (x.setG r v).launch = x.launch := rfl
@[simp] theorem Slot.setG_bank (x : Slot) (r : Reg) (v : Word) : (x.setG r v).bank = x.bank := rfl
@[simp] theorem Slot.setG_n (x : Slot) (r : Reg) (v : Word) : (x.setG r v).n = x.n := rfl
@[simp] theorem Slot.setG_efmt (x : Slot) (r : Reg) (v : Word) : (x.setG r v).efmt = x.efmt := rfl
@[simp] theorem Slot.setG_shape (x : Slot) (r : Reg) (v : Word) : (x.setG r v).shape = x.shape := rfl
@[simp] theorem Slot.setG_tmsel (x : Slot) (r : Reg) (v : Word) : (x.setG r v).tmsel = x.tmsel := rfl
@[simp] theorem Slot.setG_batch (x : Slot) (r : Reg) (v : Word) : (x.setG r v).batch = x.batch := rfl
@[simp] theorem Slot.setG_bstat (x : Slot) (r : Reg) (v : Word) : (x.setG r v).bstat = x.bstat := rfl
@[simp] theorem Slot.setG_btrap (x : Slot) (r : Reg) (v : Word) : (x.setG r v).btrap = x.btrap := rfl
@[simp] theorem Slot.setG_logged (x : Slot) (r : Reg) (v : Word) : (x.setG r v).logged = x.logged := rfl
@[simp] theorem Slot.setG_tvec (x : Slot) (r : Reg) (v : Word) : (x.setG r v).tvec = x.tvec := rfl
@[simp] theorem Slot.setG_epc (x : Slot) (r : Reg) (v : Word) : (x.setG r v).epc = x.epc := rfl
@[simp] theorem Slot.setG_fcause (x : Slot) (r : Reg) (v : Word) : (x.setG r v).fcause = x.fcause := rfl
@[simp] theorem Slot.setG_faddr (x : Slot) (r : Reg) (v : Word) : (x.setG r v).faddr = x.faddr := rfl
@[simp] theorem Slot.setG_finfo (x : Slot) (r : Reg) (v : Word) : (x.setG r v).finfo = x.finfo := rfl
@[simp] theorem Slot.setG_waitlim (x : Slot) (r : Reg) (v : Word) : (x.setG r v).waitlim = x.waitlim := rfl
@[simp] theorem Slot.setG_cnt (x : Slot) (r : Reg) (v : Word) : (x.setG r v).cnt = x.cnt := rfl
@[simp] theorem Slot.setG_wins (x : Slot) (r : Reg) (v : Word) : (x.setG r v).wins = x.wins := rfl
@[simp] theorem Slot.setG_dfr (x : Slot) (r : Reg) (v : Word) : (x.setG r v).dfr = x.dfr := rfl
@[simp] theorem Slot.setG_accs (x : Slot) (r : Reg) (v : Word) : (x.setG r v).accs = x.accs := rfl
@[simp] theorem Slot.setG_items (x : Slot) (r : Reg) (v : Word) : (x.setG r v).items = x.items := rfl
@[simp] theorem Slot.setG_asked (x : Slot) (r : Reg) (v : Word) : (x.setG r v).asked = x.asked := rfl
@[simp] theorem Slot.setG_latch (x : Slot) (r : Reg) (v : Word) : (x.setG r v).latch = x.latch := rfl
@[simp] theorem Slot.setG_stopped (x : Slot) (r : Reg) (v : Word) : (x.setG r v).stopped = x.stopped := rfl
@[simp] theorem Slot.setG_owned (x : Slot) (r : Reg) (v : Word) : (x.setG r v).owned = x.owned := rfl
@[simp] theorem Slot.setG_edesc0 (x : Slot) (r : Reg) (v : Word) : (x.setG r v).edesc0 = x.edesc0 := rfl
@[simp] theorem Slot.setG_edesc1 (x : Slot) (r : Reg) (v : Word) : (x.setG r v).edesc1 = x.edesc1 := rfl
@[simp] theorem Slot.setG_estat0 (x : Slot) (r : Reg) (v : Word) : (x.setG r v).estat0 = x.estat0 := rfl
@[simp] theorem Slot.setG_estat1 (x : Slot) (r : Reg) (v : Word) : (x.setG r v).estat1 = x.estat1 := rfl
@[simp] theorem Slot.setG_attach (x : Slot) (r : Reg) (v : Word) : (x.setG r v).attach = x.attach := rfl
@[simp] theorem Slot.setG_routes (x : Slot) (r : Reg) (v : Word) : (x.setG r v).routes = x.routes := rfl
@[simp] theorem Slot.setG_named (x : Slot) (r : Reg) (v : Word) : (x.setG r v).named = x.named := rfl
@[simp] theorem Slot.setG_replay (x : Slot) (r : Reg) (v : Word) : (x.setG r v).replay = x.replay := rfl
@[simp] theorem Slot.setG_pre (x : Slot) (r : Reg) (v : Word) : (x.setG r v).pre = x.pre := rfl
@[simp] theorem Slot.setG_drain (x : Slot) (r : Reg) (v : Word) : (x.setG r v).drain = x.drain := rfl
@[simp] theorem Slot.setG_tfault (x : Slot) (r : Reg) (v : Word) : (x.setG r v).tfault = x.tfault := rfl
@[simp] theorem Slot.setG_ending (x : Slot) (r : Reg) (v : Word) : (x.setG r v).ending = x.ending := rfl
@[simp] theorem Slot.setG_retryAt (x : Slot) (r : Reg) (v : Word) : (x.setG r v).retryAt = x.retryAt := rfl
@[simp] theorem Slot.setG_changes (x : Slot) (r : Reg) (v : Word) : (x.setG r v).changes = x.changes := rfl
@[simp] theorem Slot.setG_cls (x : Slot) (r : Reg) (v : Word) : (x.setG r v).cls = x.cls := rfl

/-! ### Slot.setV -/

@[simp] theorem Slot.setV_st (x : Slot) (r : VReg) (v : Vec) : (x.setV r v).st = x.st := rfl
@[simp] theorem Slot.setV_reason (x : Slot) (r : VReg) (v : Vec) : (x.setV r v).reason = x.reason := rfl
@[simp] theorem Slot.setV_inPark (x : Slot) (r : VReg) (v : Vec) : (x.setV r v).inPark = x.inPark := rfl
@[simp] theorem Slot.setV_turnAt (x : Slot) (r : VReg) (v : Vec) : (x.setV r v).turnAt = x.turnAt := rfl
@[simp] theorem Slot.setV_pc (x : Slot) (r : VReg) (v : Vec) : (x.setV r v).pc = x.pc := rfl
@[simp] theorem Slot.setV_g (x : Slot) (r : VReg) (v : Vec) : (x.setV r v).g = x.g := rfl
@[simp] theorem Slot.setV_gen (x : Slot) (r : VReg) (v : Vec) : (x.setV r v).gen = x.gen := rfl
@[simp] theorem Slot.setV_th (x : Slot) (r : VReg) (v : Vec) : (x.setV r v).th = x.th := rfl
@[simp] theorem Slot.setV_ctx (x : Slot) (r : VReg) (v : Vec) : (x.setV r v).ctx = x.ctx := rfl
@[simp] theorem Slot.setV_launch (x : Slot) (r : VReg) (v : Vec) : (x.setV r v).launch = x.launch := rfl
@[simp] theorem Slot.setV_bank (x : Slot) (r : VReg) (v : Vec) : (x.setV r v).bank = x.bank := rfl
@[simp] theorem Slot.setV_n (x : Slot) (r : VReg) (v : Vec) : (x.setV r v).n = x.n := rfl
@[simp] theorem Slot.setV_efmt (x : Slot) (r : VReg) (v : Vec) : (x.setV r v).efmt = x.efmt := rfl
@[simp] theorem Slot.setV_shape (x : Slot) (r : VReg) (v : Vec) : (x.setV r v).shape = x.shape := rfl
@[simp] theorem Slot.setV_tmsel (x : Slot) (r : VReg) (v : Vec) : (x.setV r v).tmsel = x.tmsel := rfl
@[simp] theorem Slot.setV_batch (x : Slot) (r : VReg) (v : Vec) : (x.setV r v).batch = x.batch := rfl
@[simp] theorem Slot.setV_bstat (x : Slot) (r : VReg) (v : Vec) : (x.setV r v).bstat = x.bstat := rfl
@[simp] theorem Slot.setV_btrap (x : Slot) (r : VReg) (v : Vec) : (x.setV r v).btrap = x.btrap := rfl
@[simp] theorem Slot.setV_logged (x : Slot) (r : VReg) (v : Vec) : (x.setV r v).logged = x.logged := rfl
@[simp] theorem Slot.setV_tvec (x : Slot) (r : VReg) (v : Vec) : (x.setV r v).tvec = x.tvec := rfl
@[simp] theorem Slot.setV_epc (x : Slot) (r : VReg) (v : Vec) : (x.setV r v).epc = x.epc := rfl
@[simp] theorem Slot.setV_fcause (x : Slot) (r : VReg) (v : Vec) : (x.setV r v).fcause = x.fcause := rfl
@[simp] theorem Slot.setV_faddr (x : Slot) (r : VReg) (v : Vec) : (x.setV r v).faddr = x.faddr := rfl
@[simp] theorem Slot.setV_finfo (x : Slot) (r : VReg) (v : Vec) : (x.setV r v).finfo = x.finfo := rfl
@[simp] theorem Slot.setV_waitlim (x : Slot) (r : VReg) (v : Vec) : (x.setV r v).waitlim = x.waitlim := rfl
@[simp] theorem Slot.setV_cnt (x : Slot) (r : VReg) (v : Vec) : (x.setV r v).cnt = x.cnt := rfl
@[simp] theorem Slot.setV_wins (x : Slot) (r : VReg) (v : Vec) : (x.setV r v).wins = x.wins := rfl
@[simp] theorem Slot.setV_dfr (x : Slot) (r : VReg) (v : Vec) : (x.setV r v).dfr = x.dfr := rfl
@[simp] theorem Slot.setV_accs (x : Slot) (r : VReg) (v : Vec) : (x.setV r v).accs = x.accs := rfl
@[simp] theorem Slot.setV_items (x : Slot) (r : VReg) (v : Vec) : (x.setV r v).items = x.items := rfl
@[simp] theorem Slot.setV_asked (x : Slot) (r : VReg) (v : Vec) : (x.setV r v).asked = x.asked := rfl
@[simp] theorem Slot.setV_latch (x : Slot) (r : VReg) (v : Vec) : (x.setV r v).latch = x.latch := rfl
@[simp] theorem Slot.setV_stopped (x : Slot) (r : VReg) (v : Vec) : (x.setV r v).stopped = x.stopped := rfl
@[simp] theorem Slot.setV_owned (x : Slot) (r : VReg) (v : Vec) : (x.setV r v).owned = x.owned := rfl
@[simp] theorem Slot.setV_edesc0 (x : Slot) (r : VReg) (v : Vec) : (x.setV r v).edesc0 = x.edesc0 := rfl
@[simp] theorem Slot.setV_edesc1 (x : Slot) (r : VReg) (v : Vec) : (x.setV r v).edesc1 = x.edesc1 := rfl
@[simp] theorem Slot.setV_estat0 (x : Slot) (r : VReg) (v : Vec) : (x.setV r v).estat0 = x.estat0 := rfl
@[simp] theorem Slot.setV_estat1 (x : Slot) (r : VReg) (v : Vec) : (x.setV r v).estat1 = x.estat1 := rfl
@[simp] theorem Slot.setV_attach (x : Slot) (r : VReg) (v : Vec) : (x.setV r v).attach = x.attach := rfl
@[simp] theorem Slot.setV_routes (x : Slot) (r : VReg) (v : Vec) : (x.setV r v).routes = x.routes := rfl
@[simp] theorem Slot.setV_named (x : Slot) (r : VReg) (v : Vec) : (x.setV r v).named = x.named := rfl
@[simp] theorem Slot.setV_replay (x : Slot) (r : VReg) (v : Vec) : (x.setV r v).replay = x.replay := rfl
@[simp] theorem Slot.setV_pre (x : Slot) (r : VReg) (v : Vec) : (x.setV r v).pre = x.pre := rfl
@[simp] theorem Slot.setV_drain (x : Slot) (r : VReg) (v : Vec) : (x.setV r v).drain = x.drain := rfl
@[simp] theorem Slot.setV_tfault (x : Slot) (r : VReg) (v : Vec) : (x.setV r v).tfault = x.tfault := rfl
@[simp] theorem Slot.setV_ending (x : Slot) (r : VReg) (v : Vec) : (x.setV r v).ending = x.ending := rfl
@[simp] theorem Slot.setV_retryAt (x : Slot) (r : VReg) (v : Vec) : (x.setV r v).retryAt = x.retryAt := rfl
@[simp] theorem Slot.setV_changes (x : Slot) (r : VReg) (v : Vec) : (x.setV r v).changes = x.changes := rfl
@[simp] theorem Slot.setV_cls (x : Slot) (r : VReg) (v : Vec) : (x.setV r v).cls = x.cls := rfl

/-! ### Slot.pending -/

@[simp] theorem Slot.pending_st (x : Slot) (m : BitVec 48) : (x.pending m).st = x.st := rfl
@[simp] theorem Slot.pending_reason (x : Slot) (m : BitVec 48) : (x.pending m).reason = x.reason := rfl
@[simp] theorem Slot.pending_inPark (x : Slot) (m : BitVec 48) : (x.pending m).inPark = x.inPark := rfl
@[simp] theorem Slot.pending_turnAt (x : Slot) (m : BitVec 48) : (x.pending m).turnAt = x.turnAt := rfl
@[simp] theorem Slot.pending_pc (x : Slot) (m : BitVec 48) : (x.pending m).pc = x.pc := rfl
@[simp] theorem Slot.pending_g (x : Slot) (m : BitVec 48) : (x.pending m).g = x.g := rfl
@[simp] theorem Slot.pending_v (x : Slot) (m : BitVec 48) : (x.pending m).v = x.v := rfl
@[simp] theorem Slot.pending_rerr (x : Slot) (m : BitVec 48) : (x.pending m).rerr = x.rerr := rfl
@[simp] theorem Slot.pending_rcorr (x : Slot) (m : BitVec 48) : (x.pending m).rcorr = x.rcorr := rfl
@[simp] theorem Slot.pending_gen (x : Slot) (m : BitVec 48) : (x.pending m).gen = x.gen := rfl
@[simp] theorem Slot.pending_th (x : Slot) (m : BitVec 48) : (x.pending m).th = x.th := rfl
@[simp] theorem Slot.pending_ctx (x : Slot) (m : BitVec 48) : (x.pending m).ctx = x.ctx := rfl
@[simp] theorem Slot.pending_launch (x : Slot) (m : BitVec 48) : (x.pending m).launch = x.launch := rfl
@[simp] theorem Slot.pending_bank (x : Slot) (m : BitVec 48) : (x.pending m).bank = x.bank := rfl
@[simp] theorem Slot.pending_n (x : Slot) (m : BitVec 48) : (x.pending m).n = x.n := rfl
@[simp] theorem Slot.pending_efmt (x : Slot) (m : BitVec 48) : (x.pending m).efmt = x.efmt := rfl
@[simp] theorem Slot.pending_shape (x : Slot) (m : BitVec 48) : (x.pending m).shape = x.shape := rfl
@[simp] theorem Slot.pending_tmsel (x : Slot) (m : BitVec 48) : (x.pending m).tmsel = x.tmsel := rfl
@[simp] theorem Slot.pending_batch (x : Slot) (m : BitVec 48) : (x.pending m).batch = x.batch := rfl
@[simp] theorem Slot.pending_bstat (x : Slot) (m : BitVec 48) : (x.pending m).bstat = x.bstat := rfl
@[simp] theorem Slot.pending_btrap (x : Slot) (m : BitVec 48) : (x.pending m).btrap = x.btrap := rfl
@[simp] theorem Slot.pending_logged (x : Slot) (m : BitVec 48) : (x.pending m).logged = x.logged := rfl
@[simp] theorem Slot.pending_tvec (x : Slot) (m : BitVec 48) : (x.pending m).tvec = x.tvec := rfl
@[simp] theorem Slot.pending_epc (x : Slot) (m : BitVec 48) : (x.pending m).epc = x.epc := rfl
@[simp] theorem Slot.pending_fcause (x : Slot) (m : BitVec 48) : (x.pending m).fcause = x.fcause := rfl
@[simp] theorem Slot.pending_faddr (x : Slot) (m : BitVec 48) : (x.pending m).faddr = x.faddr := rfl
@[simp] theorem Slot.pending_finfo (x : Slot) (m : BitVec 48) : (x.pending m).finfo = x.finfo := rfl
@[simp] theorem Slot.pending_waitlim (x : Slot) (m : BitVec 48) : (x.pending m).waitlim = x.waitlim := rfl
@[simp] theorem Slot.pending_cnt (x : Slot) (m : BitVec 48) : (x.pending m).cnt = x.cnt := rfl
@[simp] theorem Slot.pending_wins (x : Slot) (m : BitVec 48) : (x.pending m).wins = x.wins := rfl
@[simp] theorem Slot.pending_dfr (x : Slot) (m : BitVec 48) : (x.pending m).dfr = x.dfr := rfl
@[simp] theorem Slot.pending_accs (x : Slot) (m : BitVec 48) : (x.pending m).accs = x.accs := rfl
@[simp] theorem Slot.pending_items (x : Slot) (m : BitVec 48) : (x.pending m).items = x.items := rfl
@[simp] theorem Slot.pending_asked (x : Slot) (m : BitVec 48) : (x.pending m).asked = x.asked := rfl
@[simp] theorem Slot.pending_latch (x : Slot) (m : BitVec 48) : (x.pending m).latch = x.latch := rfl
@[simp] theorem Slot.pending_stopped (x : Slot) (m : BitVec 48) : (x.pending m).stopped = x.stopped := rfl
@[simp] theorem Slot.pending_owned (x : Slot) (m : BitVec 48) : (x.pending m).owned = x.owned := rfl
@[simp] theorem Slot.pending_edesc0 (x : Slot) (m : BitVec 48) : (x.pending m).edesc0 = x.edesc0 := rfl
@[simp] theorem Slot.pending_edesc1 (x : Slot) (m : BitVec 48) : (x.pending m).edesc1 = x.edesc1 := rfl
@[simp] theorem Slot.pending_estat0 (x : Slot) (m : BitVec 48) : (x.pending m).estat0 = x.estat0 := rfl
@[simp] theorem Slot.pending_estat1 (x : Slot) (m : BitVec 48) : (x.pending m).estat1 = x.estat1 := rfl
@[simp] theorem Slot.pending_attach (x : Slot) (m : BitVec 48) : (x.pending m).attach = x.attach := rfl
@[simp] theorem Slot.pending_routes (x : Slot) (m : BitVec 48) : (x.pending m).routes = x.routes := rfl
@[simp] theorem Slot.pending_named (x : Slot) (m : BitVec 48) : (x.pending m).named = x.named := rfl
@[simp] theorem Slot.pending_replay (x : Slot) (m : BitVec 48) : (x.pending m).replay = x.replay := rfl
@[simp] theorem Slot.pending_pre (x : Slot) (m : BitVec 48) : (x.pending m).pre = x.pre := rfl
@[simp] theorem Slot.pending_drain (x : Slot) (m : BitVec 48) : (x.pending m).drain = x.drain := rfl
@[simp] theorem Slot.pending_tfault (x : Slot) (m : BitVec 48) : (x.pending m).tfault = x.tfault := rfl
@[simp] theorem Slot.pending_ending (x : Slot) (m : BitVec 48) : (x.pending m).ending = x.ending := rfl
@[simp] theorem Slot.pending_retryAt (x : Slot) (m : BitVec 48) : (x.pending m).retryAt = x.retryAt := rfl
@[simp] theorem Slot.pending_changes (x : Slot) (m : BitVec 48) : (x.pending m).changes = x.changes := rfl
@[simp] theorem Slot.pending_cls (x : Slot) (m : BitVec 48) : (x.pending m).cls = x.cls := rfl

/-! ### Slot.openWin -/

@[simp] theorem Slot.openWin_st (x : Slot) (i n : Nat) (m : BitVec 48) : (x.openWin i n m).st = x.st := rfl
@[simp] theorem Slot.openWin_reason (x : Slot) (i n : Nat) (m : BitVec 48) : (x.openWin i n m).reason = x.reason := rfl
@[simp] theorem Slot.openWin_inPark (x : Slot) (i n : Nat) (m : BitVec 48) : (x.openWin i n m).inPark = x.inPark := rfl
@[simp] theorem Slot.openWin_turnAt (x : Slot) (i n : Nat) (m : BitVec 48) : (x.openWin i n m).turnAt = x.turnAt := rfl
@[simp] theorem Slot.openWin_pc (x : Slot) (i n : Nat) (m : BitVec 48) : (x.openWin i n m).pc = x.pc := rfl
@[simp] theorem Slot.openWin_g (x : Slot) (i n : Nat) (m : BitVec 48) : (x.openWin i n m).g = x.g := rfl
@[simp] theorem Slot.openWin_v (x : Slot) (i n : Nat) (m : BitVec 48) : (x.openWin i n m).v = x.v := rfl
@[simp] theorem Slot.openWin_pres (x : Slot) (i n : Nat) (m : BitVec 48) : (x.openWin i n m).pres = x.pres := rfl
@[simp] theorem Slot.openWin_pend (x : Slot) (i n : Nat) (m : BitVec 48) : (x.openWin i n m).pend = x.pend := rfl
@[simp] theorem Slot.openWin_rerr (x : Slot) (i n : Nat) (m : BitVec 48) : (x.openWin i n m).rerr = x.rerr := rfl
@[simp] theorem Slot.openWin_rcorr (x : Slot) (i n : Nat) (m : BitVec 48) : (x.openWin i n m).rcorr = x.rcorr := rfl
@[simp] theorem Slot.openWin_gen (x : Slot) (i n : Nat) (m : BitVec 48) : (x.openWin i n m).gen = x.gen := rfl
@[simp] theorem Slot.openWin_th (x : Slot) (i n : Nat) (m : BitVec 48) : (x.openWin i n m).th = x.th := rfl
@[simp] theorem Slot.openWin_ctx (x : Slot) (i n : Nat) (m : BitVec 48) : (x.openWin i n m).ctx = x.ctx := rfl
@[simp] theorem Slot.openWin_launch (x : Slot) (i n : Nat) (m : BitVec 48) : (x.openWin i n m).launch = x.launch := rfl
@[simp] theorem Slot.openWin_bank (x : Slot) (i n : Nat) (m : BitVec 48) : (x.openWin i n m).bank = x.bank := rfl
@[simp] theorem Slot.openWin_n (x : Slot) (i n : Nat) (m : BitVec 48) : (x.openWin i n m).n = x.n := rfl
@[simp] theorem Slot.openWin_efmt (x : Slot) (i n : Nat) (m : BitVec 48) : (x.openWin i n m).efmt = x.efmt := rfl
@[simp] theorem Slot.openWin_shape (x : Slot) (i n : Nat) (m : BitVec 48) : (x.openWin i n m).shape = x.shape := rfl
@[simp] theorem Slot.openWin_tmsel (x : Slot) (i n : Nat) (m : BitVec 48) : (x.openWin i n m).tmsel = x.tmsel := rfl
@[simp] theorem Slot.openWin_batch (x : Slot) (i n : Nat) (m : BitVec 48) : (x.openWin i n m).batch = x.batch := rfl
@[simp] theorem Slot.openWin_bstat (x : Slot) (i n : Nat) (m : BitVec 48) : (x.openWin i n m).bstat = x.bstat := rfl
@[simp] theorem Slot.openWin_btrap (x : Slot) (i n : Nat) (m : BitVec 48) : (x.openWin i n m).btrap = x.btrap := rfl
@[simp] theorem Slot.openWin_logged (x : Slot) (i n : Nat) (m : BitVec 48) : (x.openWin i n m).logged = x.logged := rfl
@[simp] theorem Slot.openWin_tvec (x : Slot) (i n : Nat) (m : BitVec 48) : (x.openWin i n m).tvec = x.tvec := rfl
@[simp] theorem Slot.openWin_epc (x : Slot) (i n : Nat) (m : BitVec 48) : (x.openWin i n m).epc = x.epc := rfl
@[simp] theorem Slot.openWin_fcause (x : Slot) (i n : Nat) (m : BitVec 48) : (x.openWin i n m).fcause = x.fcause := rfl
@[simp] theorem Slot.openWin_faddr (x : Slot) (i n : Nat) (m : BitVec 48) : (x.openWin i n m).faddr = x.faddr := rfl
@[simp] theorem Slot.openWin_finfo (x : Slot) (i n : Nat) (m : BitVec 48) : (x.openWin i n m).finfo = x.finfo := rfl
@[simp] theorem Slot.openWin_waitlim (x : Slot) (i n : Nat) (m : BitVec 48) : (x.openWin i n m).waitlim = x.waitlim := rfl
@[simp] theorem Slot.openWin_cnt (x : Slot) (i n : Nat) (m : BitVec 48) : (x.openWin i n m).cnt = x.cnt := rfl
@[simp] theorem Slot.openWin_dfr (x : Slot) (i n : Nat) (m : BitVec 48) : (x.openWin i n m).dfr = x.dfr := rfl
@[simp] theorem Slot.openWin_accs (x : Slot) (i n : Nat) (m : BitVec 48) : (x.openWin i n m).accs = x.accs := rfl
@[simp] theorem Slot.openWin_items (x : Slot) (i n : Nat) (m : BitVec 48) : (x.openWin i n m).items = x.items := rfl
@[simp] theorem Slot.openWin_asked (x : Slot) (i n : Nat) (m : BitVec 48) : (x.openWin i n m).asked = x.asked := rfl
@[simp] theorem Slot.openWin_latch (x : Slot) (i n : Nat) (m : BitVec 48) : (x.openWin i n m).latch = x.latch := rfl
@[simp] theorem Slot.openWin_stopped (x : Slot) (i n : Nat) (m : BitVec 48) : (x.openWin i n m).stopped = x.stopped := rfl
@[simp] theorem Slot.openWin_owned (x : Slot) (i n : Nat) (m : BitVec 48) : (x.openWin i n m).owned = x.owned := rfl
@[simp] theorem Slot.openWin_edesc0 (x : Slot) (i n : Nat) (m : BitVec 48) : (x.openWin i n m).edesc0 = x.edesc0 := rfl
@[simp] theorem Slot.openWin_edesc1 (x : Slot) (i n : Nat) (m : BitVec 48) : (x.openWin i n m).edesc1 = x.edesc1 := rfl
@[simp] theorem Slot.openWin_estat0 (x : Slot) (i n : Nat) (m : BitVec 48) : (x.openWin i n m).estat0 = x.estat0 := rfl
@[simp] theorem Slot.openWin_estat1 (x : Slot) (i n : Nat) (m : BitVec 48) : (x.openWin i n m).estat1 = x.estat1 := rfl
@[simp] theorem Slot.openWin_attach (x : Slot) (i n : Nat) (m : BitVec 48) : (x.openWin i n m).attach = x.attach := rfl
@[simp] theorem Slot.openWin_routes (x : Slot) (i n : Nat) (m : BitVec 48) : (x.openWin i n m).routes = x.routes := rfl
@[simp] theorem Slot.openWin_named (x : Slot) (i n : Nat) (m : BitVec 48) : (x.openWin i n m).named = x.named := rfl
@[simp] theorem Slot.openWin_replay (x : Slot) (i n : Nat) (m : BitVec 48) : (x.openWin i n m).replay = x.replay := rfl
@[simp] theorem Slot.openWin_pre (x : Slot) (i n : Nat) (m : BitVec 48) : (x.openWin i n m).pre = x.pre := rfl
@[simp] theorem Slot.openWin_drain (x : Slot) (i n : Nat) (m : BitVec 48) : (x.openWin i n m).drain = x.drain := rfl
@[simp] theorem Slot.openWin_tfault (x : Slot) (i n : Nat) (m : BitVec 48) : (x.openWin i n m).tfault = x.tfault := rfl
@[simp] theorem Slot.openWin_ending (x : Slot) (i n : Nat) (m : BitVec 48) : (x.openWin i n m).ending = x.ending := rfl
@[simp] theorem Slot.openWin_retryAt (x : Slot) (i n : Nat) (m : BitVec 48) : (x.openWin i n m).retryAt = x.retryAt := rfl
@[simp] theorem Slot.openWin_changes (x : Slot) (i n : Nat) (m : BitVec 48) : (x.openWin i n m).changes = x.changes := rfl
@[simp] theorem Slot.openWin_cls (x : Slot) (i n : Nat) (m : BitVec 48) : (x.openWin i n m).cls = x.cls := rfl

/-! ### Slot.lowerWins -/

@[simp] theorem Slot.lowerWins_st (x : Slot) : (x.lowerWins).st = x.st := rfl
@[simp] theorem Slot.lowerWins_reason (x : Slot) : (x.lowerWins).reason = x.reason := rfl
@[simp] theorem Slot.lowerWins_inPark (x : Slot) : (x.lowerWins).inPark = x.inPark := rfl
@[simp] theorem Slot.lowerWins_turnAt (x : Slot) : (x.lowerWins).turnAt = x.turnAt := rfl
@[simp] theorem Slot.lowerWins_pc (x : Slot) : (x.lowerWins).pc = x.pc := rfl
@[simp] theorem Slot.lowerWins_g (x : Slot) : (x.lowerWins).g = x.g := rfl
@[simp] theorem Slot.lowerWins_v (x : Slot) : (x.lowerWins).v = x.v := rfl
@[simp] theorem Slot.lowerWins_pres (x : Slot) : (x.lowerWins).pres = x.pres := rfl
@[simp] theorem Slot.lowerWins_pend (x : Slot) : (x.lowerWins).pend = x.pend := rfl
@[simp] theorem Slot.lowerWins_rerr (x : Slot) : (x.lowerWins).rerr = x.rerr := rfl
@[simp] theorem Slot.lowerWins_rcorr (x : Slot) : (x.lowerWins).rcorr = x.rcorr := rfl
@[simp] theorem Slot.lowerWins_gen (x : Slot) : (x.lowerWins).gen = x.gen := rfl
@[simp] theorem Slot.lowerWins_th (x : Slot) : (x.lowerWins).th = x.th := rfl
@[simp] theorem Slot.lowerWins_ctx (x : Slot) : (x.lowerWins).ctx = x.ctx := rfl
@[simp] theorem Slot.lowerWins_launch (x : Slot) : (x.lowerWins).launch = x.launch := rfl
@[simp] theorem Slot.lowerWins_bank (x : Slot) : (x.lowerWins).bank = x.bank := rfl
@[simp] theorem Slot.lowerWins_n (x : Slot) : (x.lowerWins).n = x.n := rfl
@[simp] theorem Slot.lowerWins_efmt (x : Slot) : (x.lowerWins).efmt = x.efmt := rfl
@[simp] theorem Slot.lowerWins_shape (x : Slot) : (x.lowerWins).shape = x.shape := rfl
@[simp] theorem Slot.lowerWins_tmsel (x : Slot) : (x.lowerWins).tmsel = x.tmsel := rfl
@[simp] theorem Slot.lowerWins_batch (x : Slot) : (x.lowerWins).batch = x.batch := rfl
@[simp] theorem Slot.lowerWins_bstat (x : Slot) : (x.lowerWins).bstat = x.bstat := rfl
@[simp] theorem Slot.lowerWins_btrap (x : Slot) : (x.lowerWins).btrap = x.btrap := rfl
@[simp] theorem Slot.lowerWins_logged (x : Slot) : (x.lowerWins).logged = x.logged := rfl
@[simp] theorem Slot.lowerWins_tvec (x : Slot) : (x.lowerWins).tvec = x.tvec := rfl
@[simp] theorem Slot.lowerWins_epc (x : Slot) : (x.lowerWins).epc = x.epc := rfl
@[simp] theorem Slot.lowerWins_fcause (x : Slot) : (x.lowerWins).fcause = x.fcause := rfl
@[simp] theorem Slot.lowerWins_faddr (x : Slot) : (x.lowerWins).faddr = x.faddr := rfl
@[simp] theorem Slot.lowerWins_finfo (x : Slot) : (x.lowerWins).finfo = x.finfo := rfl
@[simp] theorem Slot.lowerWins_waitlim (x : Slot) : (x.lowerWins).waitlim = x.waitlim := rfl
@[simp] theorem Slot.lowerWins_cnt (x : Slot) : (x.lowerWins).cnt = x.cnt := rfl
@[simp] theorem Slot.lowerWins_dfr (x : Slot) : (x.lowerWins).dfr = x.dfr := rfl
@[simp] theorem Slot.lowerWins_accs (x : Slot) : (x.lowerWins).accs = x.accs := rfl
@[simp] theorem Slot.lowerWins_items (x : Slot) : (x.lowerWins).items = x.items := rfl
@[simp] theorem Slot.lowerWins_asked (x : Slot) : (x.lowerWins).asked = x.asked := rfl
@[simp] theorem Slot.lowerWins_latch (x : Slot) : (x.lowerWins).latch = x.latch := rfl
@[simp] theorem Slot.lowerWins_stopped (x : Slot) : (x.lowerWins).stopped = x.stopped := rfl
@[simp] theorem Slot.lowerWins_owned (x : Slot) : (x.lowerWins).owned = x.owned := rfl
@[simp] theorem Slot.lowerWins_edesc0 (x : Slot) : (x.lowerWins).edesc0 = x.edesc0 := rfl
@[simp] theorem Slot.lowerWins_edesc1 (x : Slot) : (x.lowerWins).edesc1 = x.edesc1 := rfl
@[simp] theorem Slot.lowerWins_estat0 (x : Slot) : (x.lowerWins).estat0 = x.estat0 := rfl
@[simp] theorem Slot.lowerWins_estat1 (x : Slot) : (x.lowerWins).estat1 = x.estat1 := rfl
@[simp] theorem Slot.lowerWins_attach (x : Slot) : (x.lowerWins).attach = x.attach := rfl
@[simp] theorem Slot.lowerWins_routes (x : Slot) : (x.lowerWins).routes = x.routes := rfl
@[simp] theorem Slot.lowerWins_named (x : Slot) : (x.lowerWins).named = x.named := rfl
@[simp] theorem Slot.lowerWins_replay (x : Slot) : (x.lowerWins).replay = x.replay := rfl
@[simp] theorem Slot.lowerWins_pre (x : Slot) : (x.lowerWins).pre = x.pre := rfl
@[simp] theorem Slot.lowerWins_drain (x : Slot) : (x.lowerWins).drain = x.drain := rfl
@[simp] theorem Slot.lowerWins_tfault (x : Slot) : (x.lowerWins).tfault = x.tfault := rfl
@[simp] theorem Slot.lowerWins_ending (x : Slot) : (x.lowerWins).ending = x.ending := rfl
@[simp] theorem Slot.lowerWins_retryAt (x : Slot) : (x.lowerWins).retryAt = x.retryAt := rfl
@[simp] theorem Slot.lowerWins_changes (x : Slot) : (x.lowerWins).changes = x.changes := rfl
@[simp] theorem Slot.lowerWins_cls (x : Slot) : (x.lowerWins).cls = x.cls := rfl

/-! ### Slot.retire -/

@[simp] theorem Slot.retire_turnAt (x : Slot) (p : Nat) : (x.retire p).turnAt = x.turnAt := rfl
@[simp] theorem Slot.retire_g (x : Slot) (p : Nat) : (x.retire p).g = x.g := rfl
@[simp] theorem Slot.retire_v (x : Slot) (p : Nat) : (x.retire p).v = x.v := rfl
@[simp] theorem Slot.retire_pres (x : Slot) (p : Nat) : (x.retire p).pres = x.pres := rfl
@[simp] theorem Slot.retire_pend (x : Slot) (p : Nat) : (x.retire p).pend = x.pend := rfl
@[simp] theorem Slot.retire_rerr (x : Slot) (p : Nat) : (x.retire p).rerr = x.rerr := rfl
@[simp] theorem Slot.retire_rcorr (x : Slot) (p : Nat) : (x.retire p).rcorr = x.rcorr := rfl
@[simp] theorem Slot.retire_gen (x : Slot) (p : Nat) : (x.retire p).gen = x.gen := rfl
@[simp] theorem Slot.retire_th (x : Slot) (p : Nat) : (x.retire p).th = x.th := rfl
@[simp] theorem Slot.retire_ctx (x : Slot) (p : Nat) : (x.retire p).ctx = x.ctx := rfl
@[simp] theorem Slot.retire_launch (x : Slot) (p : Nat) : (x.retire p).launch = x.launch := rfl
@[simp] theorem Slot.retire_bank (x : Slot) (p : Nat) : (x.retire p).bank = x.bank := rfl
@[simp] theorem Slot.retire_n (x : Slot) (p : Nat) : (x.retire p).n = x.n := rfl
@[simp] theorem Slot.retire_efmt (x : Slot) (p : Nat) : (x.retire p).efmt = x.efmt := rfl
@[simp] theorem Slot.retire_shape (x : Slot) (p : Nat) : (x.retire p).shape = x.shape := rfl
@[simp] theorem Slot.retire_tmsel (x : Slot) (p : Nat) : (x.retire p).tmsel = x.tmsel := rfl
@[simp] theorem Slot.retire_batch (x : Slot) (p : Nat) : (x.retire p).batch = x.batch := rfl
@[simp] theorem Slot.retire_bstat (x : Slot) (p : Nat) : (x.retire p).bstat = x.bstat := rfl
@[simp] theorem Slot.retire_btrap (x : Slot) (p : Nat) : (x.retire p).btrap = x.btrap := rfl
@[simp] theorem Slot.retire_logged (x : Slot) (p : Nat) : (x.retire p).logged = x.logged := rfl
@[simp] theorem Slot.retire_tvec (x : Slot) (p : Nat) : (x.retire p).tvec = x.tvec := rfl
@[simp] theorem Slot.retire_epc (x : Slot) (p : Nat) : (x.retire p).epc = x.epc := rfl
@[simp] theorem Slot.retire_fcause (x : Slot) (p : Nat) : (x.retire p).fcause = x.fcause := rfl
@[simp] theorem Slot.retire_faddr (x : Slot) (p : Nat) : (x.retire p).faddr = x.faddr := rfl
@[simp] theorem Slot.retire_finfo (x : Slot) (p : Nat) : (x.retire p).finfo = x.finfo := rfl
@[simp] theorem Slot.retire_waitlim (x : Slot) (p : Nat) : (x.retire p).waitlim = x.waitlim := rfl
@[simp] theorem Slot.retire_dfr (x : Slot) (p : Nat) : (x.retire p).dfr = x.dfr := rfl
@[simp] theorem Slot.retire_accs (x : Slot) (p : Nat) : (x.retire p).accs = x.accs := rfl
@[simp] theorem Slot.retire_items (x : Slot) (p : Nat) : (x.retire p).items = x.items := rfl
@[simp] theorem Slot.retire_asked (x : Slot) (p : Nat) : (x.retire p).asked = x.asked := rfl
@[simp] theorem Slot.retire_latch (x : Slot) (p : Nat) : (x.retire p).latch = x.latch := rfl
@[simp] theorem Slot.retire_stopped (x : Slot) (p : Nat) : (x.retire p).stopped = x.stopped := rfl
@[simp] theorem Slot.retire_owned (x : Slot) (p : Nat) : (x.retire p).owned = x.owned := rfl
@[simp] theorem Slot.retire_edesc0 (x : Slot) (p : Nat) : (x.retire p).edesc0 = x.edesc0 := rfl
@[simp] theorem Slot.retire_edesc1 (x : Slot) (p : Nat) : (x.retire p).edesc1 = x.edesc1 := rfl
@[simp] theorem Slot.retire_estat0 (x : Slot) (p : Nat) : (x.retire p).estat0 = x.estat0 := rfl
@[simp] theorem Slot.retire_estat1 (x : Slot) (p : Nat) : (x.retire p).estat1 = x.estat1 := rfl
@[simp] theorem Slot.retire_attach (x : Slot) (p : Nat) : (x.retire p).attach = x.attach := rfl
@[simp] theorem Slot.retire_routes (x : Slot) (p : Nat) : (x.retire p).routes = x.routes := rfl
@[simp] theorem Slot.retire_named (x : Slot) (p : Nat) : (x.retire p).named = x.named := rfl
@[simp] theorem Slot.retire_pre (x : Slot) (p : Nat) : (x.retire p).pre = x.pre := rfl
@[simp] theorem Slot.retire_drain (x : Slot) (p : Nat) : (x.retire p).drain = x.drain := rfl
@[simp] theorem Slot.retire_tfault (x : Slot) (p : Nat) : (x.retire p).tfault = x.tfault := rfl
@[simp] theorem Slot.retire_ending (x : Slot) (p : Nat) : (x.retire p).ending = x.ending := rfl
@[simp] theorem Slot.retire_retryAt (x : Slot) (p : Nat) : (x.retire p).retryAt = x.retryAt := rfl
@[simp] theorem Slot.retire_changes (x : Slot) (p : Nat) : (x.retire p).changes = x.changes := rfl
@[simp] theorem Slot.retire_cls (x : Slot) (p : Nat) : (x.retire p).cls = x.cls := rfl

/-! ### Slot.recordTrap -/

@[simp] theorem Slot.recordTrap_st (x : Slot) (c : BitVec 8) (a f : Word) (e : Nat) : (x.recordTrap c a f e).st = x.st := rfl
@[simp] theorem Slot.recordTrap_reason (x : Slot) (c : BitVec 8) (a f : Word) (e : Nat) : (x.recordTrap c a f e).reason = x.reason := rfl
@[simp] theorem Slot.recordTrap_inPark (x : Slot) (c : BitVec 8) (a f : Word) (e : Nat) : (x.recordTrap c a f e).inPark = x.inPark := rfl
@[simp] theorem Slot.recordTrap_turnAt (x : Slot) (c : BitVec 8) (a f : Word) (e : Nat) : (x.recordTrap c a f e).turnAt = x.turnAt := rfl
@[simp] theorem Slot.recordTrap_pc (x : Slot) (c : BitVec 8) (a f : Word) (e : Nat) : (x.recordTrap c a f e).pc = x.pc := rfl
@[simp] theorem Slot.recordTrap_g (x : Slot) (c : BitVec 8) (a f : Word) (e : Nat) : (x.recordTrap c a f e).g = x.g := rfl
@[simp] theorem Slot.recordTrap_v (x : Slot) (c : BitVec 8) (a f : Word) (e : Nat) : (x.recordTrap c a f e).v = x.v := rfl
@[simp] theorem Slot.recordTrap_pres (x : Slot) (c : BitVec 8) (a f : Word) (e : Nat) : (x.recordTrap c a f e).pres = x.pres := rfl
@[simp] theorem Slot.recordTrap_pend (x : Slot) (c : BitVec 8) (a f : Word) (e : Nat) : (x.recordTrap c a f e).pend = x.pend := rfl
@[simp] theorem Slot.recordTrap_rerr (x : Slot) (c : BitVec 8) (a f : Word) (e : Nat) : (x.recordTrap c a f e).rerr = x.rerr := rfl
@[simp] theorem Slot.recordTrap_rcorr (x : Slot) (c : BitVec 8) (a f : Word) (e : Nat) : (x.recordTrap c a f e).rcorr = x.rcorr := rfl
@[simp] theorem Slot.recordTrap_gen (x : Slot) (c : BitVec 8) (a f : Word) (e : Nat) : (x.recordTrap c a f e).gen = x.gen := rfl
@[simp] theorem Slot.recordTrap_th (x : Slot) (c : BitVec 8) (a f : Word) (e : Nat) : (x.recordTrap c a f e).th = x.th := rfl
@[simp] theorem Slot.recordTrap_ctx (x : Slot) (c : BitVec 8) (a f : Word) (e : Nat) : (x.recordTrap c a f e).ctx = x.ctx := rfl
@[simp] theorem Slot.recordTrap_launch (x : Slot) (c : BitVec 8) (a f : Word) (e : Nat) : (x.recordTrap c a f e).launch = x.launch := rfl
@[simp] theorem Slot.recordTrap_bank (x : Slot) (c : BitVec 8) (a f : Word) (e : Nat) : (x.recordTrap c a f e).bank = x.bank := rfl
@[simp] theorem Slot.recordTrap_n (x : Slot) (c : BitVec 8) (a f : Word) (e : Nat) : (x.recordTrap c a f e).n = x.n := rfl
@[simp] theorem Slot.recordTrap_efmt (x : Slot) (c : BitVec 8) (a f : Word) (e : Nat) : (x.recordTrap c a f e).efmt = x.efmt := rfl
@[simp] theorem Slot.recordTrap_shape (x : Slot) (c : BitVec 8) (a f : Word) (e : Nat) : (x.recordTrap c a f e).shape = x.shape := rfl
@[simp] theorem Slot.recordTrap_tmsel (x : Slot) (c : BitVec 8) (a f : Word) (e : Nat) : (x.recordTrap c a f e).tmsel = x.tmsel := rfl
@[simp] theorem Slot.recordTrap_batch (x : Slot) (c : BitVec 8) (a f : Word) (e : Nat) : (x.recordTrap c a f e).batch = x.batch := rfl
@[simp] theorem Slot.recordTrap_bstat (x : Slot) (c : BitVec 8) (a f : Word) (e : Nat) : (x.recordTrap c a f e).bstat = x.bstat := rfl
@[simp] theorem Slot.recordTrap_btrap (x : Slot) (c : BitVec 8) (a f : Word) (e : Nat) : (x.recordTrap c a f e).btrap = x.btrap := rfl
@[simp] theorem Slot.recordTrap_logged (x : Slot) (c : BitVec 8) (a f : Word) (e : Nat) : (x.recordTrap c a f e).logged = x.logged := rfl
@[simp] theorem Slot.recordTrap_tvec (x : Slot) (c : BitVec 8) (a f : Word) (e : Nat) : (x.recordTrap c a f e).tvec = x.tvec := rfl
@[simp] theorem Slot.recordTrap_waitlim (x : Slot) (c : BitVec 8) (a f : Word) (e : Nat) : (x.recordTrap c a f e).waitlim = x.waitlim := rfl
@[simp] theorem Slot.recordTrap_cnt (x : Slot) (c : BitVec 8) (a f : Word) (e : Nat) : (x.recordTrap c a f e).cnt = x.cnt := rfl
@[simp] theorem Slot.recordTrap_wins (x : Slot) (c : BitVec 8) (a f : Word) (e : Nat) : (x.recordTrap c a f e).wins = x.wins := rfl
@[simp] theorem Slot.recordTrap_dfr (x : Slot) (c : BitVec 8) (a f : Word) (e : Nat) : (x.recordTrap c a f e).dfr = x.dfr := rfl
@[simp] theorem Slot.recordTrap_accs (x : Slot) (c : BitVec 8) (a f : Word) (e : Nat) : (x.recordTrap c a f e).accs = x.accs := rfl
@[simp] theorem Slot.recordTrap_items (x : Slot) (c : BitVec 8) (a f : Word) (e : Nat) : (x.recordTrap c a f e).items = x.items := rfl
@[simp] theorem Slot.recordTrap_asked (x : Slot) (c : BitVec 8) (a f : Word) (e : Nat) : (x.recordTrap c a f e).asked = x.asked := rfl
@[simp] theorem Slot.recordTrap_latch (x : Slot) (c : BitVec 8) (a f : Word) (e : Nat) : (x.recordTrap c a f e).latch = x.latch := rfl
@[simp] theorem Slot.recordTrap_stopped (x : Slot) (c : BitVec 8) (a f : Word) (e : Nat) : (x.recordTrap c a f e).stopped = x.stopped := rfl
@[simp] theorem Slot.recordTrap_owned (x : Slot) (c : BitVec 8) (a f : Word) (e : Nat) : (x.recordTrap c a f e).owned = x.owned := rfl
@[simp] theorem Slot.recordTrap_edesc0 (x : Slot) (c : BitVec 8) (a f : Word) (e : Nat) : (x.recordTrap c a f e).edesc0 = x.edesc0 := rfl
@[simp] theorem Slot.recordTrap_edesc1 (x : Slot) (c : BitVec 8) (a f : Word) (e : Nat) : (x.recordTrap c a f e).edesc1 = x.edesc1 := rfl
@[simp] theorem Slot.recordTrap_estat0 (x : Slot) (c : BitVec 8) (a f : Word) (e : Nat) : (x.recordTrap c a f e).estat0 = x.estat0 := rfl
@[simp] theorem Slot.recordTrap_estat1 (x : Slot) (c : BitVec 8) (a f : Word) (e : Nat) : (x.recordTrap c a f e).estat1 = x.estat1 := rfl
@[simp] theorem Slot.recordTrap_attach (x : Slot) (c : BitVec 8) (a f : Word) (e : Nat) : (x.recordTrap c a f e).attach = x.attach := rfl
@[simp] theorem Slot.recordTrap_routes (x : Slot) (c : BitVec 8) (a f : Word) (e : Nat) : (x.recordTrap c a f e).routes = x.routes := rfl
@[simp] theorem Slot.recordTrap_named (x : Slot) (c : BitVec 8) (a f : Word) (e : Nat) : (x.recordTrap c a f e).named = x.named := rfl
@[simp] theorem Slot.recordTrap_replay (x : Slot) (c : BitVec 8) (a f : Word) (e : Nat) : (x.recordTrap c a f e).replay = x.replay := rfl
@[simp] theorem Slot.recordTrap_pre (x : Slot) (c : BitVec 8) (a f : Word) (e : Nat) : (x.recordTrap c a f e).pre = x.pre := rfl
@[simp] theorem Slot.recordTrap_drain (x : Slot) (c : BitVec 8) (a f : Word) (e : Nat) : (x.recordTrap c a f e).drain = x.drain := rfl
@[simp] theorem Slot.recordTrap_tfault (x : Slot) (c : BitVec 8) (a f : Word) (e : Nat) : (x.recordTrap c a f e).tfault = x.tfault := rfl
@[simp] theorem Slot.recordTrap_ending (x : Slot) (c : BitVec 8) (a f : Word) (e : Nat) : (x.recordTrap c a f e).ending = x.ending := rfl
@[simp] theorem Slot.recordTrap_retryAt (x : Slot) (c : BitVec 8) (a f : Word) (e : Nat) : (x.recordTrap c a f e).retryAt = x.retryAt := rfl
@[simp] theorem Slot.recordTrap_changes (x : Slot) (c : BitVec 8) (a f : Word) (e : Nat) : (x.recordTrap c a f e).changes = x.changes := rfl
@[simp] theorem Slot.recordTrap_cls (x : Slot) (c : BitVec 8) (a f : Word) (e : Nat) : (x.recordTrap c a f e).cls = x.cls := rfl

/-! ### Slot.closeWin -/

@[simp] theorem Slot.closeWin_st (x : Slot) (i : Nat) : (x.closeWin i).st = x.st := rfl
@[simp] theorem Slot.closeWin_reason (x : Slot) (i : Nat) : (x.closeWin i).reason = x.reason := rfl
@[simp] theorem Slot.closeWin_inPark (x : Slot) (i : Nat) : (x.closeWin i).inPark = x.inPark := rfl
@[simp] theorem Slot.closeWin_turnAt (x : Slot) (i : Nat) : (x.closeWin i).turnAt = x.turnAt := rfl
@[simp] theorem Slot.closeWin_pc (x : Slot) (i : Nat) : (x.closeWin i).pc = x.pc := rfl
@[simp] theorem Slot.closeWin_g (x : Slot) (i : Nat) : (x.closeWin i).g = x.g := rfl
@[simp] theorem Slot.closeWin_v (x : Slot) (i : Nat) : (x.closeWin i).v = x.v := rfl
@[simp] theorem Slot.closeWin_pres (x : Slot) (i : Nat) : (x.closeWin i).pres = x.pres := rfl
@[simp] theorem Slot.closeWin_pend (x : Slot) (i : Nat) : (x.closeWin i).pend = x.pend := rfl
@[simp] theorem Slot.closeWin_rerr (x : Slot) (i : Nat) : (x.closeWin i).rerr = x.rerr := rfl
@[simp] theorem Slot.closeWin_rcorr (x : Slot) (i : Nat) : (x.closeWin i).rcorr = x.rcorr := rfl
@[simp] theorem Slot.closeWin_gen (x : Slot) (i : Nat) : (x.closeWin i).gen = x.gen := rfl
@[simp] theorem Slot.closeWin_th (x : Slot) (i : Nat) : (x.closeWin i).th = x.th := rfl
@[simp] theorem Slot.closeWin_ctx (x : Slot) (i : Nat) : (x.closeWin i).ctx = x.ctx := rfl
@[simp] theorem Slot.closeWin_launch (x : Slot) (i : Nat) : (x.closeWin i).launch = x.launch := rfl
@[simp] theorem Slot.closeWin_bank (x : Slot) (i : Nat) : (x.closeWin i).bank = x.bank := rfl
@[simp] theorem Slot.closeWin_n (x : Slot) (i : Nat) : (x.closeWin i).n = x.n := rfl
@[simp] theorem Slot.closeWin_efmt (x : Slot) (i : Nat) : (x.closeWin i).efmt = x.efmt := rfl
@[simp] theorem Slot.closeWin_shape (x : Slot) (i : Nat) : (x.closeWin i).shape = x.shape := rfl
@[simp] theorem Slot.closeWin_tmsel (x : Slot) (i : Nat) : (x.closeWin i).tmsel = x.tmsel := rfl
@[simp] theorem Slot.closeWin_batch (x : Slot) (i : Nat) : (x.closeWin i).batch = x.batch := rfl
@[simp] theorem Slot.closeWin_bstat (x : Slot) (i : Nat) : (x.closeWin i).bstat = x.bstat := rfl
@[simp] theorem Slot.closeWin_btrap (x : Slot) (i : Nat) : (x.closeWin i).btrap = x.btrap := rfl
@[simp] theorem Slot.closeWin_logged (x : Slot) (i : Nat) : (x.closeWin i).logged = x.logged := rfl
@[simp] theorem Slot.closeWin_tvec (x : Slot) (i : Nat) : (x.closeWin i).tvec = x.tvec := rfl
@[simp] theorem Slot.closeWin_epc (x : Slot) (i : Nat) : (x.closeWin i).epc = x.epc := rfl
@[simp] theorem Slot.closeWin_fcause (x : Slot) (i : Nat) : (x.closeWin i).fcause = x.fcause := rfl
@[simp] theorem Slot.closeWin_faddr (x : Slot) (i : Nat) : (x.closeWin i).faddr = x.faddr := rfl
@[simp] theorem Slot.closeWin_finfo (x : Slot) (i : Nat) : (x.closeWin i).finfo = x.finfo := rfl
@[simp] theorem Slot.closeWin_waitlim (x : Slot) (i : Nat) : (x.closeWin i).waitlim = x.waitlim := rfl
@[simp] theorem Slot.closeWin_cnt (x : Slot) (i : Nat) : (x.closeWin i).cnt = x.cnt := rfl
@[simp] theorem Slot.closeWin_dfr (x : Slot) (i : Nat) : (x.closeWin i).dfr = x.dfr := rfl
@[simp] theorem Slot.closeWin_accs (x : Slot) (i : Nat) : (x.closeWin i).accs = x.accs := rfl
@[simp] theorem Slot.closeWin_items (x : Slot) (i : Nat) : (x.closeWin i).items = x.items := rfl
@[simp] theorem Slot.closeWin_asked (x : Slot) (i : Nat) : (x.closeWin i).asked = x.asked := rfl
@[simp] theorem Slot.closeWin_latch (x : Slot) (i : Nat) : (x.closeWin i).latch = x.latch := rfl
@[simp] theorem Slot.closeWin_stopped (x : Slot) (i : Nat) : (x.closeWin i).stopped = x.stopped := rfl
@[simp] theorem Slot.closeWin_owned (x : Slot) (i : Nat) : (x.closeWin i).owned = x.owned := rfl
@[simp] theorem Slot.closeWin_edesc0 (x : Slot) (i : Nat) : (x.closeWin i).edesc0 = x.edesc0 := rfl
@[simp] theorem Slot.closeWin_edesc1 (x : Slot) (i : Nat) : (x.closeWin i).edesc1 = x.edesc1 := rfl
@[simp] theorem Slot.closeWin_estat0 (x : Slot) (i : Nat) : (x.closeWin i).estat0 = x.estat0 := rfl
@[simp] theorem Slot.closeWin_estat1 (x : Slot) (i : Nat) : (x.closeWin i).estat1 = x.estat1 := rfl
@[simp] theorem Slot.closeWin_attach (x : Slot) (i : Nat) : (x.closeWin i).attach = x.attach := rfl
@[simp] theorem Slot.closeWin_routes (x : Slot) (i : Nat) : (x.closeWin i).routes = x.routes := rfl
@[simp] theorem Slot.closeWin_named (x : Slot) (i : Nat) : (x.closeWin i).named = x.named := rfl
@[simp] theorem Slot.closeWin_replay (x : Slot) (i : Nat) : (x.closeWin i).replay = x.replay := rfl
@[simp] theorem Slot.closeWin_pre (x : Slot) (i : Nat) : (x.closeWin i).pre = x.pre := rfl
@[simp] theorem Slot.closeWin_drain (x : Slot) (i : Nat) : (x.closeWin i).drain = x.drain := rfl
@[simp] theorem Slot.closeWin_tfault (x : Slot) (i : Nat) : (x.closeWin i).tfault = x.tfault := rfl
@[simp] theorem Slot.closeWin_ending (x : Slot) (i : Nat) : (x.closeWin i).ending = x.ending := rfl
@[simp] theorem Slot.closeWin_retryAt (x : Slot) (i : Nat) : (x.closeWin i).retryAt = x.retryAt := rfl
@[simp] theorem Slot.closeWin_changes (x : Slot) (i : Nat) : (x.closeWin i).changes = x.changes := rfl
@[simp] theorem Slot.closeWin_cls (x : Slot) (i : Nat) : (x.closeWin i).cls = x.cls := rfl

/-! ### Slot.refull -/

@[simp] theorem Slot.refull_st (x : Slot) (m : BitVec 48) : (x.refull m).st = x.st := rfl
@[simp] theorem Slot.refull_reason (x : Slot) (m : BitVec 48) : (x.refull m).reason = x.reason := rfl
@[simp] theorem Slot.refull_inPark (x : Slot) (m : BitVec 48) : (x.refull m).inPark = x.inPark := rfl
@[simp] theorem Slot.refull_turnAt (x : Slot) (m : BitVec 48) : (x.refull m).turnAt = x.turnAt := rfl
@[simp] theorem Slot.refull_pc (x : Slot) (m : BitVec 48) : (x.refull m).pc = x.pc := rfl
@[simp] theorem Slot.refull_g (x : Slot) (m : BitVec 48) : (x.refull m).g = x.g := rfl
@[simp] theorem Slot.refull_v (x : Slot) (m : BitVec 48) : (x.refull m).v = x.v := rfl
@[simp] theorem Slot.refull_rerr (x : Slot) (m : BitVec 48) : (x.refull m).rerr = x.rerr := rfl
@[simp] theorem Slot.refull_rcorr (x : Slot) (m : BitVec 48) : (x.refull m).rcorr = x.rcorr := rfl
@[simp] theorem Slot.refull_gen (x : Slot) (m : BitVec 48) : (x.refull m).gen = x.gen := rfl
@[simp] theorem Slot.refull_th (x : Slot) (m : BitVec 48) : (x.refull m).th = x.th := rfl
@[simp] theorem Slot.refull_ctx (x : Slot) (m : BitVec 48) : (x.refull m).ctx = x.ctx := rfl
@[simp] theorem Slot.refull_launch (x : Slot) (m : BitVec 48) : (x.refull m).launch = x.launch := rfl
@[simp] theorem Slot.refull_bank (x : Slot) (m : BitVec 48) : (x.refull m).bank = x.bank := rfl
@[simp] theorem Slot.refull_n (x : Slot) (m : BitVec 48) : (x.refull m).n = x.n := rfl
@[simp] theorem Slot.refull_efmt (x : Slot) (m : BitVec 48) : (x.refull m).efmt = x.efmt := rfl
@[simp] theorem Slot.refull_shape (x : Slot) (m : BitVec 48) : (x.refull m).shape = x.shape := rfl
@[simp] theorem Slot.refull_tmsel (x : Slot) (m : BitVec 48) : (x.refull m).tmsel = x.tmsel := rfl
@[simp] theorem Slot.refull_batch (x : Slot) (m : BitVec 48) : (x.refull m).batch = x.batch := rfl
@[simp] theorem Slot.refull_bstat (x : Slot) (m : BitVec 48) : (x.refull m).bstat = x.bstat := rfl
@[simp] theorem Slot.refull_btrap (x : Slot) (m : BitVec 48) : (x.refull m).btrap = x.btrap := rfl
@[simp] theorem Slot.refull_logged (x : Slot) (m : BitVec 48) : (x.refull m).logged = x.logged := rfl
@[simp] theorem Slot.refull_tvec (x : Slot) (m : BitVec 48) : (x.refull m).tvec = x.tvec := rfl
@[simp] theorem Slot.refull_epc (x : Slot) (m : BitVec 48) : (x.refull m).epc = x.epc := rfl
@[simp] theorem Slot.refull_fcause (x : Slot) (m : BitVec 48) : (x.refull m).fcause = x.fcause := rfl
@[simp] theorem Slot.refull_faddr (x : Slot) (m : BitVec 48) : (x.refull m).faddr = x.faddr := rfl
@[simp] theorem Slot.refull_finfo (x : Slot) (m : BitVec 48) : (x.refull m).finfo = x.finfo := rfl
@[simp] theorem Slot.refull_waitlim (x : Slot) (m : BitVec 48) : (x.refull m).waitlim = x.waitlim := rfl
@[simp] theorem Slot.refull_cnt (x : Slot) (m : BitVec 48) : (x.refull m).cnt = x.cnt := rfl
@[simp] theorem Slot.refull_wins (x : Slot) (m : BitVec 48) : (x.refull m).wins = x.wins := rfl
@[simp] theorem Slot.refull_dfr (x : Slot) (m : BitVec 48) : (x.refull m).dfr = x.dfr := rfl
@[simp] theorem Slot.refull_accs (x : Slot) (m : BitVec 48) : (x.refull m).accs = x.accs := rfl
@[simp] theorem Slot.refull_items (x : Slot) (m : BitVec 48) : (x.refull m).items = x.items := rfl
@[simp] theorem Slot.refull_asked (x : Slot) (m : BitVec 48) : (x.refull m).asked = x.asked := rfl
@[simp] theorem Slot.refull_latch (x : Slot) (m : BitVec 48) : (x.refull m).latch = x.latch := rfl
@[simp] theorem Slot.refull_stopped (x : Slot) (m : BitVec 48) : (x.refull m).stopped = x.stopped := rfl
@[simp] theorem Slot.refull_owned (x : Slot) (m : BitVec 48) : (x.refull m).owned = x.owned := rfl
@[simp] theorem Slot.refull_edesc0 (x : Slot) (m : BitVec 48) : (x.refull m).edesc0 = x.edesc0 := rfl
@[simp] theorem Slot.refull_edesc1 (x : Slot) (m : BitVec 48) : (x.refull m).edesc1 = x.edesc1 := rfl
@[simp] theorem Slot.refull_estat0 (x : Slot) (m : BitVec 48) : (x.refull m).estat0 = x.estat0 := rfl
@[simp] theorem Slot.refull_estat1 (x : Slot) (m : BitVec 48) : (x.refull m).estat1 = x.estat1 := rfl
@[simp] theorem Slot.refull_attach (x : Slot) (m : BitVec 48) : (x.refull m).attach = x.attach := rfl
@[simp] theorem Slot.refull_routes (x : Slot) (m : BitVec 48) : (x.refull m).routes = x.routes := rfl
@[simp] theorem Slot.refull_named (x : Slot) (m : BitVec 48) : (x.refull m).named = x.named := rfl
@[simp] theorem Slot.refull_replay (x : Slot) (m : BitVec 48) : (x.refull m).replay = x.replay := rfl
@[simp] theorem Slot.refull_pre (x : Slot) (m : BitVec 48) : (x.refull m).pre = x.pre := rfl
@[simp] theorem Slot.refull_drain (x : Slot) (m : BitVec 48) : (x.refull m).drain = x.drain := rfl
@[simp] theorem Slot.refull_tfault (x : Slot) (m : BitVec 48) : (x.refull m).tfault = x.tfault := rfl
@[simp] theorem Slot.refull_ending (x : Slot) (m : BitVec 48) : (x.refull m).ending = x.ending := rfl
@[simp] theorem Slot.refull_retryAt (x : Slot) (m : BitVec 48) : (x.refull m).retryAt = x.retryAt := rfl
@[simp] theorem Slot.refull_changes (x : Slot) (m : BitVec 48) : (x.refull m).changes = x.changes := rfl
@[simp] theorem Slot.refull_cls (x : Slot) (m : BitVec 48) : (x.refull m).cls = x.cls := rfl

@[simp] theorem Slot.retire_pc (x : Slot) (p : Nat) : (x.retire p).pc = p := rfl
@[simp] theorem Slot.retire_st (x : Slot) (p : Nat) : (x.retire p).st = .running := rfl
@[simp] theorem Slot.retire_reason (x : Slot) (p : Nat) : (x.retire p).reason = .none := rfl
@[simp] theorem Slot.retire_inPark (x : Slot) (p : Nat) : (x.retire p).inPark = false := rfl
@[simp] theorem Slot.retire_replay (x : Slot) (p : Nat) : (x.retire p).replay = none := rfl
@[simp] theorem Slot.retire_cnt (x : Slot) (p : Nat) :
    (x.retire p).cnt = x.cnt.set cntIssued (x.cnt.get cntIssued + 1#64) := rfl
@[simp] theorem Slot.retire_wins (x : Slot) (p : Nat) :
    (x.retire p).wins = x.wins.map (fun w => { w with count := w.count - 1 }) := rfl

end Sys2Proof.Machine
end

