-- ==== Sys2Proof/Laws/Issue.lean ====
section
/-! SUPPORT. Registers after a write; what issuing a word can do; what taking a trap does. -/

namespace Sys2Proof.Machine

open Sys2Proof.Safety

/-! ### Registers and presence bits -/

theorem vget_set_self {α : Type} {n : Nat} (v : Vector α n) (i : Fin n) (x : α) : (v.set i x).get i = x := by
  show (v.set i x)[i.val] = x
  simp

theorem vget_set_ne {α : Type} {n : Nat} (v : Vector α n) {i j : Fin n} (x : α) (h : j ≠ i) :
    (v.set i x).get j = v.get j := by
  have : i.val ≠ j.val := fun e => h (Fin.ext e.symm)
  show (v.set i x)[j.val] = v[j.val]
  simp [this]

@[simp] theorem Slot.rg_setG_self (x : Slot) (r : Reg) (v : Word) : (x.setG r v).rg r = v := vget_set_self _ _ _

theorem Slot.rg_setG_ne (x : Slot) {r q : Reg} (v : Word) (h : q ≠ r) : (x.setG r v).rg q = x.rg q :=
  vget_set_ne _ _ (fun e => h (BitVec.eq_of_toNat_eq (Fin.mk.inj e)))

@[simp] theorem Slot.rv_setG (x : Slot) (r : Reg) (v : Word) (q : VReg) : (x.setG r v).rv q = x.rv q := rfl

@[simp] theorem Slot.rv_setV_self (x : Slot) (r : VReg) (v : Vec) : (x.setV r v).rv r = v := vget_set_self _ _ _

theorem Slot.rv_setV_ne (x : Slot) {r q : VReg} (v : Vec) (h : q ≠ r) : (x.setV r v).rv q = x.rv q :=
  vget_set_ne _ _ (fun e => h (BitVec.eq_of_toNat_eq (Fin.mk.inj e)))

@[simp] theorem Slot.rg_setV (x : Slot) (r : VReg) (v : Vec) (q : Reg) : (x.setV r v).rg q = x.rg q := rfl
@[simp] theorem Slot.rg_retire (x : Slot) (p : Nat) (q : Reg) : (x.retire p).rg q = x.rg q := rfl
@[simp] theorem Slot.rv_retire (x : Slot) (p : Nat) (q : VReg) : (x.retire p).rv q = x.rv q := rfl

/-- The code of a register is below 48. -/
theorem gcode_lt (r : Reg) : gcode r < 48 := by have := r.isLt; unfold gcode; omega
theorem vcode_lt (r : VReg) : vcode r < 48 := by have := r.isLt; unfold vcode; omega

theorem gcode_inj {q r : Reg} (h : gcode q = gcode r) : q = r := BitVec.eq_of_toNat_eq h
theorem vcode_inj {q r : VReg} (h : vcode q = vcode r) : q = r := BitVec.eq_of_toNat_eq (by unfold vcode at h; omega)
theorem gcode_ne_vcode (q : Reg) (r : VReg) : gcode q ≠ vcode r := by
  have := q.isLt
  unfold gcode vcode
  omega

theorem inMask_or (a b : BitVec 48) (c : Nat) : inMask (a ||| b) c = (inMask a c || inMask b c) := by
  simp [inMask]

theorem inMask_regBit {c d : Nat} (h : d < 48) : inMask (regBit d) c = decide (c = d) := by
  simp only [inMask, regBit, BitVec.getLsbD_shiftLeft]
  by_cases hc : c = d
  · subst hc; simp [h]
  · simp only [hc, decide_false, Bool.and_eq_false_iff]
    by_cases hl : c < d
    · simp [hl]
    · right
      have : c - d ≠ 0 := by omega
      simp [BitVec.getLsbD_one, this]

theorem Slot.pres_setG_self (x : Slot) (r : Reg) (v : Word) : inMask (x.setG r v).pres (gcode r) = true := by
  show inMask (x.pres ||| regBit (gcode r)) (gcode r) = true
  rw [inMask_or, inMask_regBit (gcode_lt r)]
  simp

theorem Slot.pres_setG_ne (x : Slot) {r : Reg} (v : Word) {c : Nat} (h : c ≠ gcode r) :
    inMask (x.setG r v).pres c = inMask x.pres c := by
  show inMask (x.pres ||| regBit (gcode r)) c = _
  rw [inMask_or, inMask_regBit (gcode_lt r)]
  simp [h]

theorem Slot.pres_setV_self (x : Slot) (r : VReg) (v : Vec) : inMask (x.setV r v).pres (vcode r) = true := by
  show inMask (x.pres ||| regBit (vcode r)) (vcode r) = true
  rw [inMask_or, inMask_regBit (vcode_lt r)]
  simp

theorem Slot.pres_setV_ne (x : Slot) {r : VReg} (v : Vec) {c : Nat} (h : c ≠ vcode r) :
    inMask (x.setV r v).pres c = inMask x.pres c := by
  show inMask (x.pres ||| regBit (vcode r)) c = _
  rw [inMask_or, inMask_regBit (vcode_lt r)]
  simp [h]

/-- No other counter than ISSUED rises as a word retires. -/
theorem Slot.cnt_retire_ne (x : Slot) (p : Nat) {k : Fin 16} (h : k ≠ cntIssued) :
    (x.retire p).cnt.get k = x.cnt.get k := vget_set_ne _ _ h

theorem Slot.cnt_retire_issued (x : Slot) (p : Nat) : (x.retire p).cnt.get cntIssued = x.cnt.get cntIssued + 1#64 :=
  vget_set_self _ _ _

/-! ### The checks of R75 -/

/-- A word that issues passes the checks of R75. -/
theorem stallOf_issues {s : State} {i : Instr} (h : Issues s i) : stallOf s s.cur i = none := by
  have hw : (s.slot s.cur).wins.any (fun w => decide (w.count = 0)) = false := by
    rw [List.any_eq_false]
    intro w hw
    simpa using h.window w hw
  have hr : (regBlock (s.slot s.cur) (usesOf i)).isSome = false := by
    unfold regBlock
    have h1 : (usesOf i).reads.find? (fun r => inMask (s.slot s.cur).pend r || !inMask (s.slot s.cur).pres r) = none := by
      rw [List.find?_eq_none]
      intro r hr
      obtain ⟨a, b⟩ := h.reads r hr
      simp [a, b]
    have h2 : (usesOf i).writes.find? (fun r => inMask (s.slot s.cur).pend r) = none := by
      rw [List.find?_eq_none]
      intro r hr
      simp [h.writes r hr]
    simp [h1, h2]
  unfold stallOf
  simp only [hw, hr, h.access, h.wait]
  rfl

/-- A word that issues reads no register with an uncorrectable error. -/
theorem badRead_issues {s : State} {i : Instr} (h : Issues s i) : badRead (s.slot s.cur) (usesOf i) = none := by
  unfold badRead
  rw [List.find?_eq_none]
  intro r hr
  simp [h.sound r hr]

/-- A word that issues takes its entry's effect. -/
theorem issue_issues {s : State} {i : Instr} (h : Issues s i) (body : State → Out) :
    issue i s body = body (correctReads s s.cur (usesOf i)) := by
  simp only [issue, stallOf_issues h, badRead_issues h]

/-- What issuing a word can come to: a park, a DEVERR trap, or its entry's effect. -/
theorem issue_cases (i : Instr) (s : State) (body : State → Out) :
    (∃ r, stallOf s s.cur i = some r ∧ issue i s body = go (parkOn s i r))
    ∨ (∃ r, badRead (s.slot s.cur) (usesOf i) = some r ∧ issue i s body = go (trapHere s causeDEVERR 0#64 (infoDev (landCode r) 2)))
    ∨ issue i s body = body (correctReads s s.cur (usesOf i)) := by
  unfold issue
  split
  · exact Or.inl ⟨_, by assumption, rfl⟩
  · split
    · exact Or.inr (Or.inl ⟨_, by assumption, rfl⟩)
    · exact Or.inr (Or.inr rfl)

/-! ### Correcting the operands (R382) -/

/-- What correcting the operand registers can change: the marks of correctable errors, and the node's count. -/
theorem correctReads_cases (s : State) (sl : Nat) (u : Uses) :
    correctReads s sl u = s ∨ ∃ m c, correctReads s sl u =
      (s.setSlot sl { s.slot sl with rcorr := (s.slot sl).rcorr &&& ~~~m }).updNode (nodeOfSlot sl)
        (fun n => { n with corrected := n.corrected + c }) := by
  unfold correctReads
  simp only
  split
  · exact Or.inl rfl
  · exact Or.inr ⟨_, _, rfl⟩

@[simp] theorem correctReads_cur (s : State) (sl : Nat) (u : Uses) : (correctReads s sl u).cur = s.cur := by
  rcases correctReads_cases s sl u with h | ⟨m, _, h⟩ <;> simp [h]

/-- The slot keeps all but the marks. -/
theorem correctReads_slot (s : State) (sl : Nat) (u : Uses) :
    ∃ m, (correctReads s sl u).slot sl = { s.slot sl with rcorr := m } := by
  rcases correctReads_cases s sl u with h | ⟨m, _, h⟩
  · exact ⟨(s.slot sl).rcorr, by rw [h]⟩
  · exact ⟨(s.slot sl).rcorr &&& ~~~m, by rw [h]; simp⟩

/-- Correcting the operands leaves everything else alone. -/
theorem correctReads_else (s : State) (sl : Nat) (u : Uses) : SameElse s (correctReads s sl u) sl := by
  rcases correctReads_cases s sl u with h | ⟨m, _, h⟩
  · rw [h]
    exact ⟨fun _ _ => rfl, fun _ => rfl, fun _ => rfl, fun _ => rfl, fun _ => rfl, fun _ _ => rfl, rfl, rfl, rfl, rfl, rfl, rfl⟩
  · rw [h]
    refine ⟨?_, fun _ => rfl, fun _ => rfl, fun _ => rfl, fun _ => rfl, ?_, rfl, rfl, rfl, rfl, rfl, rfl⟩
    · intro k hk
      simp [State.slot_setSlot_ne _ _ hk]
    · intro n e
      by_cases hn : n = nodeOfSlot sl
      · subst hn
        simp [State.plate]
      · simp [State.plate, State.node_updNode_ne _ _ hn]

/-- Changing the current slot once its operands are read leaves everything else alone. -/
theorem sameElse_updSlot {s t : State} {k : Nat} (h : SameElse s t k) (f : Slot → Slot) : SameElse s (t.updSlot k f) k where
  slots := fun j hj => by rw [State.slot_updSlot_ne _ _ hj]; exact h.slots j hj
  bytes := h.bytes
  states := h.states
  cores := h.cores
  tiles := h.tiles
  plates := h.plates
  reqs := h.reqs
  ctxs := h.ctxs
  launches := h.launches
  queues := h.queues
  hostMem := h.hostMem
  pod := h.pod

/-! ### Words that write one register or none -/

/-- A word that issues and then writes G[d] alone. -/
theorem writesG_of {s : State} {i : Instr} {d : Reg} {v : Word} (h : Issues s i)
    (he : exec i s = issue i s (fun t => writeG t d v)) : WritesG s i d v := by
  rw [issue_issues h] at he
  refine ⟨_, he, ?_, ?_, ?_⟩
  · obtain ⟨m, hm⟩ := correctReads_slot s s.cur (usesOf i)
    refine ⟨⟨?_, ?_, ?_⟩, ?_, ⟨?_, ?_, ?_, ?_⟩, ?_⟩
    · intro r hr
      have hne : r ≠ d := fun e => hr (by simp [e])
      simp only [correctReads_cur, State.slot_updSlot_self, hm]
      rw [Slot.rg_setG_ne _ _ hne]
      rfl
    · intro r _
      simp only [correctReads_cur, State.slot_updSlot_self, hm]
      rfl
    · intro c hc
      have hne : c ≠ gcode d := fun e => hc (by simp [e])
      simp only [correctReads_cur, State.slot_updSlot_self, hm]
      rw [Slot.pres_setG_ne _ _ hne]
      rfl
    · simp only [correctReads_cur, State.slot_updSlot_self, hm]
      exact ⟨⟨rfl, rfl, rfl, rfl, rfl, rfl, rfl, rfl, rfl, rfl, rfl, rfl, rfl, rfl, rfl, rfl, rfl, rfl⟩, ⟨rfl, rfl, rfl, rfl, rfl⟩⟩
    · simp only [correctReads_cur, State.slot_updSlot_self, hm]
      rfl
    · simp only [correctReads_cur, State.slot_updSlot_self, hm]
      rfl
    · simp only [correctReads_cur, State.slot_updSlot_self, hm, Slot.setG_cnt]
      exact Slot.cnt_retire_issued _ _
    · intro k hk
      simp only [correctReads_cur, State.slot_updSlot_self, hm, Slot.setG_cnt]
      exact Slot.cnt_retire_ne _ _ hk
    · rw [correctReads_cur]
      exact sameElse_updSlot (correctReads_else s s.cur (usesOf i)) _
  · simp
  · simp only [correctReads_cur, State.slot_updSlot_self]
    exact Slot.pres_setG_self _ _ _

/-- A word that issues and then writes V[d] alone. -/
theorem writesV_of {s : State} {i : Instr} {d : VReg} {v : Vec} (h : Issues s i)
    (he : exec i s = issue i s (fun t => writeV t d v)) : WritesV s i d v := by
  rw [issue_issues h] at he
  refine ⟨_, he, ?_, ?_, ?_⟩
  · obtain ⟨m, hm⟩ := correctReads_slot s s.cur (usesOf i)
    refine ⟨⟨?_, ?_, ?_⟩, ?_, ⟨?_, ?_, ?_, ?_⟩, ?_⟩
    · intro r _
      simp only [correctReads_cur, State.slot_updSlot_self, hm]
      rfl
    · intro r hr
      have hne : r ≠ d := fun e => hr (by simp [e])
      simp only [correctReads_cur, State.slot_updSlot_self, hm]
      rw [Slot.rv_setV_ne _ _ hne]
      rfl
    · intro c hc
      have hne : c ≠ vcode d := fun e => hc (by simp [e])
      simp only [correctReads_cur, State.slot_updSlot_self, hm]
      rw [Slot.pres_setV_ne _ _ hne]
      rfl
    · simp only [correctReads_cur, State.slot_updSlot_self, hm]
      exact ⟨⟨rfl, rfl, rfl, rfl, rfl, rfl, rfl, rfl, rfl, rfl, rfl, rfl, rfl, rfl, rfl, rfl, rfl, rfl⟩, ⟨rfl, rfl, rfl, rfl, rfl⟩⟩
    · simp only [correctReads_cur, State.slot_updSlot_self, hm]
      rfl
    · simp only [correctReads_cur, State.slot_updSlot_self, hm]
      rfl
    · simp only [correctReads_cur, State.slot_updSlot_self, hm, Slot.setV_cnt]
      exact Slot.cnt_retire_issued _ _
    · intro k hk
      simp only [correctReads_cur, State.slot_updSlot_self, hm, Slot.setV_cnt]
      exact Slot.cnt_retire_ne _ _ hk
    · rw [correctReads_cur]
      exact sameElse_updSlot (correctReads_else s s.cur (usesOf i)) _
  · simp
  · simp only [correctReads_cur, State.slot_updSlot_self]
    exact Slot.pres_setV_self _ _ _

/-- A fixed-class word that issues writes G[d] alone, from the registers as they stood. -/
theorem regOp_writes {s : State} {i : Instr} {d : Reg} {f : Slot → Word} (h : Issues s i) (he : exec i s = regOp i d f s)
    (hf : ∀ m, f { s.slot s.cur with rcorr := m } = f (s.slot s.cur)) : WritesG s i d (f (s.slot s.cur)) := by
  refine writesG_of h ?_
  rw [he, regOp, issue_issues h, issue_issues h]
  obtain ⟨m, hm⟩ := correctReads_slot s s.cur (usesOf i)
  simp only [correctReads_cur, hm, hf]

/-! ### Words that only move on, and traps -/

/-- A word that issues and then goes to `pc` without writing a register. -/
theorem goesTo_of {s : State} {i : Instr} {pc : Nat} (h : Issues s i)
    (he : exec i s = issue i s (fun t => go (t.updSlot t.cur (fun x => x.retire pc)))) : GoesTo s i pc := by
  rw [issue_issues h] at he
  obtain ⟨m, hm⟩ := correctReads_slot s s.cur (usesOf i)
  refine ⟨_, he, ⟨⟨?_, ?_, ?_⟩, ?_, ⟨?_, ?_, ?_, ?_⟩, ?_⟩⟩
  · intro r _
    simp only [correctReads_cur, State.slot_updSlot_self, hm]
    rfl
  · intro r _
    simp only [correctReads_cur, State.slot_updSlot_self, hm]
    rfl
  · intro c _
    simp only [correctReads_cur, State.slot_updSlot_self, hm]
    rfl
  · simp only [correctReads_cur, State.slot_updSlot_self, hm]
    exact ⟨⟨rfl, rfl, rfl, rfl, rfl, rfl, rfl, rfl, rfl, rfl, rfl, rfl, rfl, rfl, rfl, rfl, rfl, rfl⟩, ⟨rfl, rfl, rfl, rfl, rfl⟩⟩
  · simp only [correctReads_cur, State.slot_updSlot_self, hm]
    rfl
  · simp only [correctReads_cur, State.slot_updSlot_self, hm]
    rfl
  · simp only [correctReads_cur, State.slot_updSlot_self, hm]
    exact Slot.cnt_retire_issued _ _
  · intro k hk
    simp only [correctReads_cur, State.slot_updSlot_self, hm]
    exact Slot.cnt_retire_ne _ _ hk
  · rw [correctReads_cur]
    exact sameElse_updSlot (correctReads_else s s.cur (usesOf i)) _

/-- A slot with a handler that is not in one takes a trap into the handler (R378). -/
theorem takeTrap_handled {s : State} {c : BitVec 8} {a f : Word} {e : Nat} (h : Handles s) :
    TrapsTo s (takeTrap s s.cur c a f e) c a f e := by
  have hc : ((s.slot s.cur).inh || !(s.slot s.cur).hasHandler) = false := by simp [h.out, h.handler]
  unfold takeTrap
  simp only [hc]
  have hz : (s.slot s.cur).fcause &&& (1#64 <<< 63) = 0#64 := by
    have h0 := h.out
    unfold Slot.inh at h0
    apply BitVec.eq_of_getLsbD_eq
    intro i hi
    rw [BitVec.getLsbD_and, BitVec.getLsbD_shiftLeft]
    by_cases h63 : i = 63
    · subst h63; rw [h0]; rfl
    · have hl : i < 63 := by omega
      simp [hl]
  refine ⟨?_, ?_, ?_, ?_, ?_, ?_, ?_, ⟨?_, ?_, ?_⟩, ?_, ?_, ?_, ?_⟩
  · simp [Slot.recordTrap]
  · simp only [Bool.false_eq_true, if_false, State.slot_setSlot_self, Slot.recordTrap, hz]
    rw [BitVec.zero_or, BitVec.or_comm]
    congr 1
    apply BitVec.eq_of_toNat_eq
    simp
  · simp [Slot.recordTrap]
  · simp [Slot.recordTrap]
  · simp [Slot.recordTrap]
  · simp [Slot.recordTrap]
  · simp [Slot.recordTrap]
  · intro r _
    simp [Slot.recordTrap, Slot.rg]
  · intro r _
    simp [Slot.recordTrap, Slot.rv]
  · intro r _
    simp [Slot.recordTrap]
  · simp only [Bool.false_eq_true, if_false, State.slot_setSlot_self]
    exact ⟨rfl, rfl, rfl, rfl, rfl, rfl, rfl, rfl, rfl, rfl, rfl, rfl, rfl, rfl, rfl, rfl, rfl, rfl⟩
  · simp [Slot.recordTrap]
  · simp [Slot.recordTrap]
  · simp only [Bool.false_eq_true, if_false]
    exact ⟨fun k hk => State.slot_setSlot_ne _ _ hk, fun _ => rfl, fun _ => rfl, fun _ => rfl, fun _ => rfl,
      fun _ _ => rfl, rfl, rfl, rfl, rfl, rfl, rfl⟩

theorem handles_correctReads {s : State} (u : Uses) (h : Handles s) : Handles (correctReads s s.cur u) := by
  obtain ⟨m, hm⟩ := correctReads_slot s s.cur u
  constructor
  · rw [correctReads_cur, hm]; exact h.out
  · rw [correctReads_cur, hm]; exact h.handler

theorem sameElse_trans {s t u : State} {k : Nat} (h1 : SameElse s t k) (h2 : SameElse t u k) : SameElse s u k :=
  ⟨fun j hj => (h2.slots j hj).trans (h1.slots j hj), fun a => (h2.bytes a).trans (h1.bytes a),
   fun a => (h2.states a).trans (h1.states a), fun a => (h2.cores a).trans (h1.cores a),
   fun a => (h2.tiles a).trans (h1.tiles a), fun n e => (h2.plates n e).trans (h1.plates n e), h2.reqs.trans h1.reqs,
   h2.ctxs.trans h1.ctxs, h2.launches.trans h1.launches, h2.queues.trans h1.queues, h2.hostMem.trans h1.hostMem,
   h2.pod.trans h1.pod⟩

/-- Correcting the operands first does not change what a trap leaves. -/
theorem trapsTo_correctReads {s t : State} {u : Uses} {c : BitVec 8} {a f : Word} {e : Nat}
    (h : TrapsTo (correctReads s s.cur u) t c a f e) : TrapsTo s t c a f e := by
  obtain ⟨m, hm⟩ := correctReads_slot s s.cur u
  have hs : (correctReads s s.cur u).slot s.cur = { s.slot s.cur with rcorr := m } := hm
  obtain ⟨h1, h2, h3, h4, h5, h6, h7, h8, h9, h10, h11, h12⟩ := h
  simp only [correctReads_cur, hs] at h1 h2 h3 h4 h5 h6 h7 h8 h9 h10 h11 h12
  exact ⟨h1, h2, h3, h4, h5, h6, h7, ⟨h8.g, h8.v, h8.pres⟩, ⟨h9.1, h9.2, h9.3, h9.4, h9.5, h9.6, h9.7, h9.8, h9.9, h9.10,
    h9.11, h9.12, h9.13, h9.14, h9.15, h9.16, h9.17, h9.18⟩, h10, h11,
    sameElse_trans (correctReads_else s s.cur u) h12⟩

/-- A word that issues and then traps at its own offset. -/
theorem trapsTo_of {s : State} {i : Instr} {c : BitVec 8} {a f : Word} (h : Issues s i) (hh : Handles s)
    (he : exec i s = issue i s (fun t => go (trapHere t c a f))) :
    ∃ t, exec i s = .next t ∧ TrapsTo s t c a f (s.slot s.cur).pc := by
  rw [issue_issues h] at he
  refine ⟨_, he, ?_⟩
  have hh' := handles_correctReads (usesOf i) hh
  have := takeTrap_handled (c := c) (a := a) (f := f) (e := ((correctReads s s.cur (usesOf i)).slot s.cur).pc) hh'
  rw [correctReads_cur] at this
  have hp : ((correctReads s s.cur (usesOf i)).slot s.cur).pc = (s.slot s.cur).pc := by
    obtain ⟨m, hm⟩ := correctReads_slot s s.cur (usesOf i)
    rw [hm]
  rw [hp] at this
  unfold trapHere
  rw [correctReads_cur, hp]
  exact trapsTo_correctReads this

end Sys2Proof.Machine
end

