-- ==== Sys2Proof/Laws/Access.lean ====
section
/-! SUPPORT. What issuing an access does (R71, R83, R159, R185). -/

namespace Sys2Proof.Machine

open Sys2Proof.Safety

theorem inMask_and_not (a m : BitVec 48) (c : Nat) : inMask (a &&& ~~~m) c = (inMask a c && !inMask m c) := by
  simp only [inMask, BitVec.getLsbD_and, BitVec.getLsbD_not]
  by_cases h : c < 48
  · simp [h]
  · simp [BitVec.getLsbD_of_ge a c (by omega)]

/-- The record of an access about to issue. -/
def accOfNew (s : State) (a : NewAcc) : Acc :=
  { id := s.nextId, relaxed := a.relaxed, plt := a.plt, dest := a.dest, oldPres := (s.slot s.cur).pres &&& a.dest.mask,
    pca := (s.slot s.cur).pc, issued := ((s.slot s.cur).count cntIssued).cnt.get cntIssued, fill := a.fill,
    left := a.pieces.length, data := [], fault := none }

/-- The batch of an item about to issue under a tag. -/
def batchAfter (s : State) (t : Nat) : Nat :=
  if (s.slot s.cur).batchNo t = 0 then s.nextId + 1 else (s.slot s.cur).batchNo t

/-- The items of a slot after an access issues. -/
def itemsAfter (s : State) (a : NewAcc) : List Item :=
  match a.tag, a.pieces with
  | some t, p :: ps => (s.slot s.cur).items ++ [match a.item with
        | some i => { i with tag := t, seq := (s.slot s.cur).nextSeq t, batch := batchAfter s t, left := a.pieces.length }
        | none => itemOf (nodeOfSlot s.cur) t ((s.slot s.cur).nextSeq t) (batchAfter s t) p.place (ps.map (fun q => q.place))]
  | _, _ => (s.slot s.cur).items

/-- The slot that an issued access leaves. -/
theorem issueAcc_slot (s : State) (a : NewAcc) :
    (issueAcc s a).slot s.cur = { ((s.slot s.cur).retire ((s.slot s.cur).pc + 4)).pending a.dest.mask with
      wins := ((s.slot s.cur).retire ((s.slot s.cur).pc + 4)).wins ++ (a.la.map (fun c => { id := s.nextId, count := c, dests := a.dest.mask : Win })).toList,
      accs := (s.slot s.cur).accs ++ [accOfNew s a], items := itemsAfter s a } := by
  obtain ⟨rel, plt, rl, dest, fill, la, tag, item, info, tgt, pieces⟩ := a
  refine (State.slot_setSlot_self s s.cur _).trans ?_
  rcases la with _ | c
  · rcases tag with _ | tg
    · simp only [itemsAfter, accOfNew, Option.map_none, Option.toList_none, List.append_nil]; rfl
    · rcases pieces with _ | ⟨p, ps⟩ <;>
      · simp only [itemsAfter, accOfNew, Option.map_none, Option.toList_none, List.append_nil]; rfl
  · rcases tag with _ | tg
    · rfl
    · rcases pieces with _ | ⟨p, ps⟩ <;> rfl

/-- What an issued access leaves in its slot. -/
theorem issueAcc_opens (s : State) (a : NewAcc) :
    Opens s (issueAcc s a) a.dest a.la a.relaxed a.plt (some a.fill) a.pieces.length := by
  have h := issueAcc_slot s a
  refine ⟨?_, ?_, ?_, ?_, ?_, ?_, ?_, ?_, ?_, ?_⟩
  · intro r; rw [h]; rfl
  · intro r; rw [h]; rfl
  · intro c; rw [h]; exact inMask_and_not _ _ _
  · intro c; rw [h]; exact inMask_or _ _ _
  · rw [h]; exact ⟨rfl, rfl, rfl, rfl, rfl, rfl, rfl, rfl, rfl, rfl, rfl, rfl, rfl, rfl, rfl, rfl, rfl, rfl⟩
  · rw [h]; exact ⟨rfl, rfl, rfl, rfl, rfl⟩
  · rw [h]; exact ⟨rfl, rfl, Slot.cnt_retire_issued _ ((s.slot s.cur).pc + 4), fun k hk => Slot.cnt_retire_ne _ ((s.slot s.cur).pc + 4) hk⟩
  · rw [h]; rfl
  · refine ⟨accOfNew s a, by rw [h], rfl, rfl, rfl, rfl, rfl, rfl, rfl, ?_⟩
    intro f hf
    exact Option.some.inj hf
  · refine ⟨?_, fun _ => rfl, fun _ => rfl, fun _ => rfl, fun _ => rfl, fun _ _ => rfl, rfl, rfl, rfl, rfl, rfl, rfl⟩
    intro k hk
    exact State.slot_setSlot_ne s _ hk

/-- The items after an access issues. -/
theorem issueAcc_items (s : State) (a : NewAcc) : ((issueAcc s a).slot s.cur).items = itemsAfter s a := by
  rw [issueAcc_slot]
/-- The request of one perform of an access about to issue. -/
def reqOfNew (s : State) (a : NewAcc) (e : Piece × Nat) : Req :=
  let t := match a.tgt with | some t => t | none => pieceTarget e.1
  { id := s.nextId + 1 + e.2, stamp := s.nextId + 1 + e.2, own := .slot s.cur (s.slot s.cur).th, ctx := (s.slot s.cur).ctx,
    src := pathSrc (coreOfSlot s.cur) t, op := e.1.op, ea := e.1.ea, loc := pieceLoc e.1, tgt := t, relaxed := a.relaxed,
    rl := a.rl, item := a.tag.map (fun t => (t, (s.slot s.cur).nextSeq t)), acc := s.nextId, part := e.2, info := a.info,
    limit := (s.slot s.cur).waitlim.toNat % 65536, misses := 0, stage := .outbound }

/-- The requests of an issued access. -/
theorem issueAcc_reqs (s : State) (a : NewAcc) :
    (issueAcc s a).reqs = s.reqs ++ a.pieces.zipIdx.map (reqOfNew s a) := by
  obtain ⟨rel, plt, rl, dest, fill, la, tag, item, info, tgt, pieces⟩ := a
  rcases tag with _ | tg <;> rfl

end Sys2Proof.Machine
end

