-- ==== Sys2Proof/Laws/Events.lean ====
section
/-! SUPPORT. What the operations that events share can do: work of a free hart (R287), a packet toward another module (R342,
R350), a command that a pre-emption stops (R280), the flits of a packet (R343). -/

namespace Sys2Proof.Machine

/-! ### A hart's turn (R285, R287) -/

@[simp] theorem useTurn_mem (s : State) (n h : Nat) : (useTurn s n h).mem = s.mem := rfl
@[simp] theorem useTurn_wst (s : State) (n h : Nat) : (useTurn s n h).wst = s.wst := rfl
@[simp] theorem useTurn_hostMem (s : State) (n h : Nat) : (useTurn s n h).hostMem = s.hostMem := rfl
@[simp] theorem useTurn_slots (s : State) (n h : Nat) : (useTurn s n h).slots = s.slots := rfl
@[simp] theorem useTurn_cores (s : State) (n h : Nat) : (useTurn s n h).cores = s.cores := rfl
@[simp] theorem useTurn_tiles (s : State) (n h : Nat) : (useTurn s n h).tiles = s.tiles := rfl
@[simp] theorem useTurn_reqs (s : State) (n h : Nat) : (useTurn s n h).reqs = s.reqs := rfl
@[simp] theorem useTurn_ctxs (s : State) (n h : Nat) : (useTurn s n h).ctxs = s.ctxs := rfl
@[simp] theorem useTurn_launches (s : State) (n h : Nat) : (useTurn s n h).launches = s.launches := rfl
@[simp] theorem useTurn_cycle (s : State) (n h : Nat) : (useTurn s n h).cycle = s.cycle := rfl
@[simp] theorem useTurn_pod (s : State) (n h : Nat) : (useTurn s n h).pod = s.pod := rfl

/-- Work for a node is done on the turn of a free hart, or waits. -/
theorem byHart_cases (s : State) (n : Nat) (k : State → Out) :
    byHart s n k = k (useTurn s n (s.cycle % 8)) ∨ byHart s n k = go s := by
  simp only [byHart]
  split
  · exact .inl rfl
  · exact .inr rfl

/-- It is done where the hart of the cycle is free and has not used its turn. -/
theorem byHart_free {s : State} {n : Nat} (k : State → Out) (h : (s.node n).hartAt ≤ s.cycle)
    (f : Tab.look (s.node n).harts (s.cycle % 8) = none) : byHart s n k = k (useTurn s n (s.cycle % 8)) := by
  simp [byHart, hartTurn, h, f]

/-! ### Packets (R342, R350) -/

/-- No packet goes to a lost member. -/
theorem sendPod_lost {s : State} {dst : Nat} (h : s.pod.lost.contains dst = true) (c : Option Nat) (vc : Nat) (k : Option Nat)
    (b : PodBody) (r : Option Nat) : sendPod s dst c vc k b r = s := by
  simp only [sendPod, h, if_true]

/-- A packet to any other member joins the queue at the ports, and takes the next SEQ toward it. -/
theorem sendPod_sends {s : State} {dst : Nat} (h : s.pod.lost.contains dst = false) (c : Option Nat) (vc : Nat) (k : Option Nat)
    (b : PodBody) (r : Option Nat) : ∃ o : Packet, (sendPod s dst c vc k b r).pod.out = s.pod.out ++ [o]
      ∧ o.body = b ∧ o.req = r ∧ o.hdr.dst = BitVec.ofNat 10 dst ∧ o.hdr.seq = Tab.get 0#32 s.pod.nextSeq dst
      ∧ o.hdr.vc = BitVec.ofNat 2 vc ∧ crcRight o.hdr = true := by
  simp only [sendPod, h]
  exact ⟨_, rfl, rfl, rfl, rfl, rfl, rfl, by simp [crcRight, withCrc, headerCrc, headerTop]⟩

@[simp] theorem sendPod_mem (s : State) (dst : Nat) (c : Option Nat) (vc : Nat) (k : Option Nat) (b : PodBody) (r : Option Nat) :
    (sendPod s dst c vc k b r).mem = s.mem := by unfold sendPod; split <;> rfl
@[simp] theorem sendPod_slots (s : State) (dst : Nat) (c : Option Nat) (vc : Nat) (k : Option Nat) (b : PodBody) (r : Option Nat) :
    (sendPod s dst c vc k b r).slots = s.slots := by unfold sendPod; split <;> rfl

/-! ### Flits (R343) -/

/-- The flits of a packet that stand somewhere in a port's flits are taken out there, and nothing else is. -/
theorem takeFlits_sound (f : List (Option Vec)) : ∀ {l r : List (Option Vec)}, takeFlits f l = some r →
    ∃ a b, l = a ++ f ++ b ∧ r = a ++ b := by
  intro l
  induction l with
  | nil =>
    intro r h
    simp only [takeFlits] at h
    split at h
    · rename_i e
      exact ⟨[], [], by simp [e], by simpa using h.symm⟩
    · cases h
  | cons x l ih =>
    intro r h
    simp only [takeFlits] at h
    split at h
    · rename_i p
      obtain ⟨b, hb⟩ := List.isPrefixOf_iff_prefix.mp p
      refine ⟨[], b, by simp [hb], ?_⟩
      rw [← hb, List.drop_left] at h
      simpa using h.symm
    · obtain ⟨q, hq, rfl⟩ := Option.map_eq_some_iff.mp h
      obtain ⟨a, b, h1, h2⟩ := ih hq
      exact ⟨x :: a, b, by simp [h1], by simp [h2]⟩

end Sys2Proof.Machine
end

