-- ==== Sys2Proof/Laws/Memory.lean ====
section
/-! SUPPORT. The shared memory operations keep the canonical forms (log entry 1). -/

namespace Sys2Proof.Machine

open Sys2Proof.Safety

variable {α : Type}

/-- The forms depend on memory, host memory, firmware SRAM and word states alone. -/
theorem memoryForm_of_same {s t : State} (h : MemoryForm s) (hm : t.mem = s.mem) (hh : t.hostMem = s.hostMem)
    (hi : t.image = s.image) (hw : t.wst = s.wst) : MemoryForm t := by
  unfold MemoryForm
  rw [hm, hh, hi, hw]
  exact h

theorem Tab.canonAbove_filter [DecidableEq α] (d : α) (p : Nat × α → Bool) : ∀ (t : Tab α) (lo : Option Nat),
    Tab.canonAbove d lo t = true → Tab.canonAbove d lo (t.filter p) = true
  | [], _, h => h
  | (k, v) :: t, lo, h => by
    simp only [Tab.canonAbove, Bool.and_eq_true, decide_eq_true_eq] at h
    have ih := Tab.canonAbove_filter d p t (some k) h.2
    by_cases hp : p (k, v) = true
    · simp only [List.filter_cons, hp, if_true, Tab.canonAbove, Bool.and_eq_true, decide_eq_true_eq]
      exact ⟨h.1, ih⟩
    · simp only [List.filter_cons, hp]
      refine Tab.canonAbove_mono d lo ?_ ih
      intro l hl
      subst hl
      have := of_decide_eq_true h.1.1
      omega

/-- Removing entries from a table in canonical form keeps the form. -/
theorem Tab.canon_filter [DecidableEq α] (d : α) (p : Nat × α → Bool) {t : Tab α} (h : Tab.canon d t = true) :
    Tab.canon d (t.filter p) = true := Tab.canonAbove_filter d p t none h

/-- A property that every step of a fold keeps holds after the fold. -/
theorem foldl_keeps {α β : Type} {P : α → Prop} {f : α → β → α} (hf : ∀ a b, P a → P (f a b)) :
    ∀ (l : List β) (a : α), P a → P (l.foldl f a)
  | [], _, h => h
  | b :: l, a, h => foldl_keeps hf l (f a b) (hf a b h)

/-! ### The operations of a memory unit -/

theorem memoryForm_store {s : State} (loc n v : Nat) (h : MemoryForm s) : MemoryForm (s.store loc n v) :=
  ⟨Memory.wf_writeNat n v s.mem loc h.1, h.2⟩

theorem memoryForm_setWordState {s : State} (loc : Nat) (v : BitVec 2) (h : MemoryForm s) :
    MemoryForm (s.setWordState loc v) := by
  unfold State.setWordState
  split
  · exact ⟨h.1, h.2.1, h.2.2.1, Tab.canon_write _ _ _ h.2.2.2⟩
  · exact h

theorem memoryForm_cleanWord {s : State} (loc : Nat) (h : MemoryForm s) : MemoryForm (s.cleanWord loc) := h

theorem memoryForm_ecc {s : State} (n loc : Nat) (h : MemoryForm s) : MemoryForm (s.ecc n loc) := by
  have h1 : MemoryForm (if isStore loc && s.bad.contains (loc / 8) then s.setWordState loc stPoison else s) := by
    split
    · exact memoryForm_setWordState loc stPoison h
    · exact h
  have key : ∀ u : State, MemoryForm u → MemoryForm (if u.corr.contains (loc / 8) then
      { u with corr := u.corr.filter (fun w => decide (w ≠ loc / 8)) }.updNode n (fun x => { x with corrected := x.corrected + 1 })
      else u) := by
    intro u hu
    split
    · exact memoryForm_of_same hu rfl rfl rfl rfl
    · exact hu
  exact key _ h1

theorem memoryForm_poisonWord {s : State} (loc n : Nat) (h : MemoryForm s) : MemoryForm (s.poisonWord loc n) := by
  have h1 := memoryForm_store loc n 0 h
  have h2 : MemoryForm (if n = 8 then (s.store loc n 0).cleanWord loc else s.store loc n 0) := by
    split
    · exact memoryForm_cleanWord loc h1
    · exact h1
  unfold State.poisonWord
  simp only
  split
  · exact memoryForm_setWordState loc stPoison h2
  · exact memoryForm_of_same h2 rfl rfl rfl rfl

theorem memoryForm_eccAll {s : State} (n : Nat) (op : MemOp) (loc : Nat) (h : MemoryForm s) : MemoryForm (eccAll s n op loc) := by
  unfold eccAll
  split
  · exact foldl_keeps (fun _ l ha => memoryForm_ecc n l ha) _ _ h
  · exact h

theorem memoryForm_fill {u : State} (loc : Nat) (p : Prop) [Decidable p] (h : MemoryForm u) :
    MemoryForm (if p then u.setWordState loc stFull else u) := by
  split
  · exact memoryForm_setWordState _ _ h
  · exact h

theorem memoryForm_mergeAt {s : State} (loc v : Nat) (h : MemoryForm s) : MemoryForm (mergeAt s loc v).st := by
  unfold mergeAt
  split
  · exact h
  · exact memoryForm_store _ _ _ h

theorem memoryForm_amoAt {s : State} (op : BitVec 6) (loc : Nat) (b b2 d : Word) (h : MemoryForm s) :
    MemoryForm (amoAt s op loc b b2 d).st := memoryForm_store _ _ _ h

/-- An atomic merges a record or acts on one word (R171). -/
theorem performSound_amo (s : State) (op : BitVec 6) (b b2 d : Word) (loc : Nat) :
    performSound s (.amo op b b2 d) loc
      = if op = 0x0D#6 then mergeAt s loc (b.toNat + b2.toNat * 2 ^ 64) else amoAt s op loc b b2 d := rfl

theorem memoryForm_countTo {s : State} (w : Nat) (m : Word) (h : MemoryForm s) : MemoryForm (countTo s w m) :=
  memoryForm_fill w _ (memoryForm_store w 8 m.toNat h)

theorem memoryForm_joinAt {s : State} (w : Nat) (h : MemoryForm s) : MemoryForm (joinAt s w) := memoryForm_countTo w _ h

theorem memoryForm_rewritten {s : State} (l : Nat) (h : MemoryForm s) : MemoryForm (rewritten s l) := by
  unfold rewritten
  split
  · exact memoryForm_setWordState _ _ (memoryForm_cleanWord l h)
  · exact memoryForm_cleanWord l h

theorem memoryForm_storeVec {s : State} (ls : List Nat) (loc : Nat) (v : Vec) (h : MemoryForm s) :
    MemoryForm (storeVec s ls loc v) :=
  foldl_keeps (P := MemoryForm) (fun _ l ha => memoryForm_rewritten l ha) ls _ (memoryForm_store loc 32 v.toNat h)

theorem memoryForm_storeScalar {s : State} (loc k : Nat) (fill : Bool) (v : Word) (h : MemoryForm s) :
    MemoryForm (storeScalar s loc k fill v) := by
  refine memoryForm_fill _ _ (u := if k = 8 then (s.store loc k v.toNat).cleanWord (loc / 8 * 8) else s.store loc k v.toNat) ?_
  split
  · exact memoryForm_cleanWord _ (memoryForm_store _ _ _ h)
  · exact memoryForm_store _ _ _ h

/-- A JOIN counts its word down (R98). -/
theorem performSound_join (s : State) (loc : Nat) : (performSound s .join loc).st = joinAt s (loc / 8 * 8) := by
  have e : performSound s .join loc = { st := joinAt s (loc / 8 * 8), val := 0#256, fault := none } := rfl
  rw [e]

theorem memoryForm_performSound {s : State} (op : MemOp) (loc : Nat) (h : MemoryForm s) :
    MemoryForm (performSound s op loc).st := by
  cases op with
  | load k sync =>
    show MemoryForm (if sync = 1#2 then s.setWordState (loc / 8 * 8) stFull else
      if sync = 2#2 then s.setWordState (loc / 8 * 8) stEmpty else s)
    split
    · exact memoryForm_setWordState _ _ h
    · split
      · exact memoryForm_setWordState _ _ h
      · exact h
  | store k sync v => exact memoryForm_storeScalar loc k _ v h
  | loadV => exact h
  | storeV v => exact memoryForm_storeVec _ loc v h
  | wstate => exact h
  | wset v => exact memoryForm_setWordState _ _ h
  | join => rw [performSound_join]; exact memoryForm_joinAt (loc / 8 * 8) h
  | amo op b b2 d =>
    rw [performSound_amo]
    by_cases e : op = 0x0D#6
    · rw [if_pos e]; exact memoryForm_mergeAt loc _ h
    · rw [if_neg e]; exact memoryForm_amoAt op loc b b2 d h
  | hput n sf v => exact memoryForm_storeScalar loc n sf v h
  | mark n => exact memoryForm_poisonWord loc n h
  | fillw v st => exact memoryForm_setWordState _ _ (memoryForm_cleanWord _ (memoryForm_store _ _ _ h))
  | landing | plt | spawn | peek => exact h

/-- An access performed at its unit keeps the forms (R157, R159, R169 to R176, R231). -/
theorem memoryForm_performOp {s : State} (n : Nat) (op : MemOp) (loc : Nat) (h : MemoryForm s) :
    MemoryForm (performOp s n op loc).st := by
  have h0 := memoryForm_eccAll n op loc h
  dsimp only [performOp]
  split
  · exact h0
  · exact memoryForm_performSound op loc h0

/-- A write of the epilogue engine keeps the forms (R278). -/
theorem memoryForm_epiWrite {s : State} (n loc k v : Nat) (h : MemoryForm s) : MemoryForm (epiWrite s n loc k v).1 := by
  have h1 : MemoryForm (if k < 8 then s.ecc n (loc / 8 * 8) else s) := by
    split
    · exact memoryForm_ecc n _ h
    · exact h
  unfold epiWrite
  simp only
  generalize (if k < 8 then s.ecc n (loc / 8 * 8) else s) = u at h1 ⊢
  split
  · exact h1
  · refine memoryForm_setWordState _ _ ?_
    split
    · exact memoryForm_cleanWord _ (memoryForm_store _ _ _ h1)
    · exact memoryForm_store _ _ _ h1

/-! ### The host, contexts and the image -/

theorem memoryForm_hostStore {s : State} (a n v : Nat) (h : MemoryForm s) : MemoryForm (hostStore s a n v) :=
  ⟨h.1, Memory.wf_writeNat n v s.hostMem a h.2.1, h.2.2⟩

/-- Setting up or ending a context keeps the forms (R154). -/
theorem memoryForm_clearAllot {s : State} (c : Ctx) (h : MemoryForm s) : MemoryForm (clearAllot s c) :=
  ⟨Tab.canon_filter _ _ h.1, h.2.1, h.2.2.1, Tab.canon_filter _ _ h.2.2.2⟩

/-- Copying the image keeps the forms (R397). -/
theorem memoryForm_copyImage {s : State} (a n : Nat) (h : MemoryForm s) : MemoryForm (copyImage s a n) :=
  ⟨h.1, h.2.1, foldl_keeps (P := fun m => Memory.wf m = true) (fun _ i hm => Memory.wf_setByte i _ hm) _ _ rfl, h.2.2.2⟩

/-- One word of a host access keeps the forms (R392). -/
theorem memoryForm_hostWordAccess {s : State} (a : Nat) (w : Option Word) (h : MemoryForm s) :
    MemoryForm (hostWordAccess s a w) := by
  cases w with
  | none => exact memoryForm_of_same h rfl rfl rfl rfl
  | some v => exact memoryForm_cleanWord a (memoryForm_store a 8 _ h)

end Sys2Proof.Machine
end

