-- ==== Sys2Proof/Tests/Slice0.lean ====
section
/-! SUPPORT. Tests: ill-formed terms, words written out field by field from the encoding tables of the manual, single steps
against the manual's rules, and a witness for the hypotheses of each statement. -/

namespace Sys2Proof.Tests

open Sys2Proof Sys2Proof.Machine Sys2Proof.Safety Sys2Proof.Claims

-- one kernel evaluation at a time, so that memory stays small
set_option Elab.async false

/-! ### Ill-formed terms (R58, R59, R63) -/

theorem test_ill_sync_code : WellFormed (.ldd 1 2 0 0 3 0) = false := by decide
theorem test_ill_relaxed_sync : WellFormed (.ldd 1 2 0 1 1 0) = false := by decide
theorem test_ill_relaxed_store_count : WellFormed (.std 1 2 3 1 0 0) = false := by decide
theorem test_ill_relaxed_vector_store : WellFormed (.stv 1 2 3 1 0) = false := by decide
theorem test_ill_vector_numbers :
    [Instr.ldv 16 0 0 0 0, .stv 16 0 0 0 0, .ldbp 16 0 0 0 0, .stbp 16 0 0 0 0, .takeV 16 0, .takeV 0 16, .emptyV 16, .ptestV 0 16,
     .vsplat 16 0, .vext 0 16 0, .vins 16 0 0].any WellFormed = false := by decide
theorem test_ill_descriptors :
    [Instr.eset 0 0 9, .eset 0 0 13, .eset 1 0 2, .eset 2 0 0, .eget 0 0 11, .eget 1 0 12].any WellFormed = false := by decide
theorem test_ill_engines : [Instr.epop 2 0, .ewait 2 0, .etest 15 0].any WellFormed = false := by decide
theorem test_ill_formats : [Instr.vcvt 0 0 9 0, .vqnt 0 0 0 1, .vqnt 0 0 0 9].any WellFormed = false := by decide
theorem test_ill_pairs : [Instr.tmload 0 1 0, .tmload 0 4 0].any WellFormed = false := by decide
theorem test_ill_special_registers : [Instr.srd 0 0x000, .srd 0 0x029, .swr 0 0x035, .swr 0 0x060].any WellFormed = false := by decide
theorem test_ill_slots :
    [Instr.parkResume 5242880, .drainTimeout 5242880, .portAccept 5242880, .targetFaultTrap 5242880, .fenceMarkerReturn 5242880 0,
     .summaryRequest 5242880 0 (.node 0), .summaryReply 5242880 0 (.node 0), .summaryResend 5242880 0 (.node 0), .stealRetry 5242880,
     .engineDispatch 5242880, .functionResult 5242880, .meanResult 5242880, .save 5242880, .saveComplete 5242880,
     .restore 5242880 0, .restoreCodeLoad 5242880 0, .preemptWithdraw 5242880, .wastedTurn 5242880].any WellFormed = false := by
  decide
theorem test_ill_cores :
    [Instr.landingTimeout 655360 0, .taskTake 655360, .stealProbe 655360, .stealRecordArrive 655360, .preemptMark 0 655360,
     .probeEmptyReply 655360, .thiefAnswer 655360].any WellFormed = false := by decide
theorem test_ill_tiles :
    [Instr.burinTake 163840, .mmaComplete 163840, .mmaGranuleStop 163840, .epiTake 163840, .epiComplete 163840,
     .tableSwitch 163840].any WellFormed = false := by decide
theorem test_ill_nodes :
    [Instr.nodePartComplete 10240 0, .doneMessage 10240 0, .hartTake 10240 0, .hartTake 0 8, .commandComplete 10240 0,
     .commandComplete 0 8, .evictComplete 10240 0, .evictComplete 0 64, .plateTableStep 10240, .codeAck 0 10240, .bucketPeriod 10240,
     .thermalThrottle 10240 0, .droopThrottle 10240, .droopThrottleEnd 10240, .thermalShutdown 10240, .installMessage 10560 0,
     .codeMulticast 0 10].any WellFormed = false := by decide
theorem test_ill_queues :
    [Instr.snoopEvent 4096 [], .launch 4096, .wait 4096, .waitRemap 4096, .waitTimeout 4096, .signal 4096, .plateop 4096,
     .nopPacket 4096, .packetReread 4096].any WellFormed = false := by decide

/-! ### Words from the encoding tables (R57 to R62) -/

/-- A word from its fields, the most significant first: width and value. -/
def fields (l : List (Nat × Nat)) : BitVec 32 := BitVec.ofNat 32 (l.foldl (fun w f => w * 2 ^ f.1 + f.2) 0)

/-- Each list of fields makes the word that decodes to, and encodes, the term beside it. -/
def decodes (l : List (List (Nat × Nat) × Instr)) : Bool :=
  l.all (fun e => decide (decode (wordBytes (fields e.1)) = .ok e.2) && decide (encode e.2 = some (fields e.1)))

theorem test_decode_integer_1 : decodes [
    ([(6, 0x1), (5, 17), (5, 6), (5, 27), (11, 0x1)], .add 17 6 27),
    ([(6, 0x1), (5, 17), (5, 6), (5, 27), (11, 0x2)], .sub 17 6 27),
    ([(6, 0x1), (5, 17), (5, 6), (5, 27), (11, 0x3)], .mul 17 6 27),
    ([(6, 0x1), (5, 17), (5, 6), (5, 27), (11, 0x4)], .mulh 17 6 27),
    ([(6, 0x1), (5, 17), (5, 6), (5, 27), (11, 0x5)], .mulhn 17 6 27),
    ([(6, 0x1), (5, 17), (5, 6), (5, 27), (11, 0x6)], .div 17 6 27),
    ([(6, 0x1), (5, 17), (5, 6), (5, 27), (11, 0x7)], .divn 17 6 27),
    ([(6, 0x1), (5, 17), (5, 6), (5, 27), (11, 0x8)], .rem 17 6 27),
    ([(6, 0x1), (5, 17), (5, 6), (5, 27), (11, 0x9)], .remn 17 6 27),
    ([(6, 0x1), (5, 17), (5, 6), (16, 0xA)], .neg 17 6),
    ([(6, 0x1), (5, 17), (5, 6), (5, 27), (11, 0x10)], .and 17 6 27),
    ([(6, 0x1), (5, 17), (5, 6), (5, 27), (11, 0x11)], .or 17 6 27),
    ([(6, 0x1), (5, 17), (5, 6), (5, 27), (11, 0x12)], .xor 17 6 27),
    ([(6, 0x1), (5, 17), (5, 6), (5, 27), (11, 0x13)], .andn 17 6 27),
    ([(6, 0x1), (5, 17), (5, 6), (5, 27), (11, 0x14)], .orn 17 6 27),
    ([(6, 0x1), (5, 17), (5, 6), (5, 27), (11, 0x18)], .shl 17 6 27),
    ([(6, 0x1), (5, 17), (5, 6), (5, 27), (11, 0x19)], .shr 17 6 27),
    ([(6, 0x1), (5, 17), (5, 6), (5, 27), (11, 0x1A)], .shra 17 6 27),
    ([(6, 0x1), (5, 17), (5, 6), (5, 27), (11, 0x1B)], .rotr 17 6 27),
    ([(6, 0x1), (5, 17), (5, 6), (5, 27), (11, 0x20)], .cmpeq 17 6 27),
    ([(6, 0x1), (5, 17), (5, 6), (5, 27), (11, 0x21)], .cmpne 17 6 27),
    ([(6, 0x1), (5, 17), (5, 6), (5, 27), (11, 0x22)], .cmplt 17 6 27),
    ([(6, 0x1), (5, 17), (5, 6), (5, 27), (11, 0x23)], .cmpge 17 6 27),
    ([(6, 0x1), (5, 17), (5, 6), (5, 27), (11, 0x24)], .cmpltn 17 6 27)] = true := by decide

theorem test_decode_integer_2 : decodes [
    ([(6, 0x1), (5, 17), (5, 6), (5, 27), (11, 0x25)], .cmpgen 17 6 27),
    ([(6, 0x1), (5, 17), (5, 6), (5, 27), (11, 0x28)], .min 17 6 27),
    ([(6, 0x1), (5, 17), (5, 6), (5, 27), (11, 0x29)], .max 17 6 27),
    ([(6, 0x1), (5, 17), (5, 6), (5, 27), (11, 0x2A)], .minn 17 6 27),
    ([(6, 0x1), (5, 17), (5, 6), (5, 27), (11, 0x2B)], .maxn 17 6 27),
    ([(6, 0x1), (5, 17), (5, 6), (5, 27), (11, 0x30)], .sel 17 6 27),
    ([(6, 0x1), (5, 17), (5, 6), (16, 0x38)], .clz 17 6),
    ([(6, 0x1), (5, 17), (5, 6), (16, 0x39)], .ctz 17 6),
    ([(6, 0x1), (5, 17), (5, 6), (16, 0x3A)], .popc 17 6),
    ([(6, 0x1), (5, 17), (5, 6), (16, 0x40)], .sextb 17 6),
    ([(6, 0x1), (5, 17), (5, 6), (16, 0x41)], .sexth 17 6),
    ([(6, 0x1), (5, 17), (5, 6), (16, 0x42)], .sextw 17 6),
    ([(6, 0x1), (5, 17), (5, 6), (16, 0x44)], .zextb 17 6),
    ([(6, 0x1), (5, 17), (5, 6), (16, 0x45)], .zexth 17 6),
    ([(6, 0x1), (5, 17), (5, 6), (16, 0x46)], .zextw 17 6)] = true := by decide

theorem test_decode_pointer : decodes [
    ([(6, 0xA), (5, 17), (5, 6), (5, 27), (11, 0x1)], .addp 17 6 27),
    ([(6, 0xA), (5, 17), (5, 6), (5, 27), (11, 0x2)], .subp 17 6 27),
    ([(6, 0xA), (5, 17), (5, 6), (5, 27), (11, 0x3)], .idxp 17 6 27),
    ([(6, 0xA), (5, 17), (5, 6), (5, 27), (11, 0x4)], .mkp 17 6 27),
    ([(6, 0xA), (5, 17), (5, 6), (16, 0x5)], .getf 17 6),
    ([(6, 0xA), (5, 17), (5, 6), (16, 0x6)], .adrp 17 6)] = true := by decide

theorem test_decode_float : decodes [
    ([(6, 0xC), (5, 17), (5, 6), (5, 27), (11, 0x1)], .fpadd 17 6 27),
    ([(6, 0xC), (5, 17), (5, 6), (5, 27), (11, 0x2)], .fpsub 17 6 27),
    ([(6, 0xC), (5, 17), (5, 6), (5, 27), (11, 0x3)], .fpmul 17 6 27),
    ([(6, 0xC), (5, 17), (5, 6), (5, 27), (11, 0x4)], .fpdiv 17 6 27),
    ([(6, 0xC), (5, 17), (5, 6), (5, 27), (11, 0x5)], .fpfma 17 6 27),
    ([(6, 0xC), (5, 17), (5, 6), (16, 0x6)], .fpsqrt 17 6),
    ([(6, 0xC), (5, 17), (5, 6), (5, 27), (11, 0x8)], .fpmin 17 6 27),
    ([(6, 0xC), (5, 17), (5, 6), (5, 27), (11, 0x9)], .fpmax 17 6 27),
    ([(6, 0xC), (5, 17), (5, 6), (16, 0xA)], .fpabs 17 6),
    ([(6, 0xC), (5, 17), (5, 6), (16, 0xB)], .fpneg 17 6),
    ([(6, 0xC), (5, 17), (5, 6), (5, 27), (11, 0x10)], .fpcmpeq 17 6 27),
    ([(6, 0xC), (5, 17), (5, 6), (5, 27), (11, 0x11)], .fpcmplt 17 6 27),
    ([(6, 0xC), (5, 17), (5, 6), (5, 27), (11, 0x12)], .fpcmple 17 6 27),
    ([(6, 0xC), (5, 17), (5, 6), (16, 0x18)], .fptoi 17 6),
    ([(6, 0xC), (5, 17), (5, 6), (16, 0x19)], .fptoiz 17 6),
    ([(6, 0xC), (5, 17), (5, 6), (16, 0x1A)], .fpton 17 6),
    ([(6, 0xC), (5, 17), (5, 6), (16, 0x1B)], .itofp 17 6),
    ([(6, 0xC), (5, 17), (5, 6), (16, 0x1C)], .ntofp 17 6),
    ([(6, 0xC), (5, 17), (5, 6), (16, 0x20)], .fptoh 17 6),
    ([(6, 0xC), (5, 17), (5, 6), (16, 0x21)], .htofp 17 6),
    ([(6, 0xC), (5, 17), (5, 6), (16, 0x22)], .fptob 17 6),
    ([(6, 0xC), (5, 17), (5, 6), (16, 0x23)], .btofp 17 6)] = true := by decide

theorem test_decode_register_jump : decodes [
    ([(6, 0x18), (5, 0x0), (5, 6), (16, 0x1)], .jr 6),
    ([(6, 0x18), (5, 17), (5, 6), (16, 0x2)], .jalr 17 6)] = true := by decide

theorem test_decode_atomic : decodes [
    ([(6, 0x2B), (5, 17), (5, 6), (5, 27), (4, 5), (7, 0x1)], .aadd 17 6 27 5),
    ([(6, 0x2B), (5, 17), (5, 6), (5, 27), (4, 5), (7, 0x2)], .aand 17 6 27 5),
    ([(6, 0x2B), (5, 17), (5, 6), (5, 27), (4, 5), (7, 0x3)], .aor 17 6 27 5),
    ([(6, 0x2B), (5, 17), (5, 6), (5, 27), (4, 5), (7, 0x4)], .axor 17 6 27 5),
    ([(6, 0x2B), (5, 17), (5, 6), (5, 27), (4, 5), (7, 0x5)], .amin 17 6 27 5),
    ([(6, 0x2B), (5, 17), (5, 6), (5, 27), (4, 5), (7, 0x6)], .amax 17 6 27 5),
    ([(6, 0x2B), (5, 17), (5, 6), (5, 27), (4, 5), (7, 0x7)], .aminn 17 6 27 5),
    ([(6, 0x2B), (5, 17), (5, 6), (5, 27), (4, 5), (7, 0x8)], .amaxn 17 6 27 5),
    ([(6, 0x2B), (5, 17), (5, 6), (5, 27), (4, 5), (7, 0x9)], .aswap 17 6 27 5),
    ([(6, 0x2B), (5, 17), (5, 6), (5, 27), (4, 5), (7, 0xA)], .acas 17 6 27 5),
    ([(6, 0x2B), (5, 17), (5, 6), (5, 27), (4, 5), (7, 0xB)], .afadd 17 6 27 5),
    ([(6, 0x2B), (5, 17), (5, 6), (5, 27), (4, 5), (7, 0xC)], .abump 17 6 27 5),
    ([(6, 0x2B), (5, 17), (5, 6), (5, 27), (4, 5), (7, 0xD)], .atmerge 17 6 27 5),
    ([(6, 0x2B), (5, 0x0), (5, 6), (5, 27), (11, 0x41)], .aaddRx 6 27),
    ([(6, 0x2B), (5, 0x0), (5, 6), (5, 27), (11, 0x42)], .aandRx 6 27),
    ([(6, 0x2B), (5, 0x0), (5, 6), (5, 27), (11, 0x43)], .aorRx 6 27),
    ([(6, 0x2B), (5, 0x0), (5, 6), (5, 27), (11, 0x44)], .axorRx 6 27),
    ([(6, 0x2B), (5, 0x0), (5, 6), (5, 27), (11, 0x45)], .aminRx 6 27),
    ([(6, 0x2B), (5, 0x0), (5, 6), (5, 27), (11, 0x46)], .amaxRx 6 27),
    ([(6, 0x2B), (5, 0x0), (5, 6), (5, 27), (11, 0x47)], .aminnRx 6 27),
    ([(6, 0x2B), (5, 0x0), (5, 6), (5, 27), (11, 0x48)], .amaxnRx 6 27),
    ([(6, 0x2B), (5, 0x0), (5, 6), (5, 27), (11, 0x4B)], .afaddRx 6 27),
    ([(6, 0x2B), (5, 0x0), (5, 6), (5, 27), (11, 0x4D)], .atmergeRx 6 27)] = true := by decide

theorem test_decode_ordering : decodes [
    ([(6, 0x2D), (26, 0x1)], .fenceCore),
    ([(6, 0x2D), (26, 0x2)], .fenceNode),
    ([(6, 0x2D), (26, 0x3)], .fenceDev),
    ([(6, 0x2D), (26, 0x4)], .fencePod),
    ([(6, 0x2D), (5, 17), (19, 0x2), (2, 2)], .bclose 17 2),
    ([(6, 0x2D), (5, 17), (19, 0x3), (2, 2)], .btest 17 2)] = true := by decide

theorem test_decode_tag : decodes [
    ([(6, 0x2E), (5, 17), (5, 6), (16, 0x1)], .waitany 17 6),
    ([(6, 0x2E), (5, 0x0), (5, 6), (16, 0x2)], .waitall 6),
    ([(6, 0x2E), (5, 17), (5, 6), (16, 0x3)], .ffready 17 6),
    ([(6, 0x2E), (5, 0x0), (5, 6), (16, 0x4)], .tagclr 6)] = true := by decide

theorem test_decode_thread : decodes [
    ([(6, 0x2F), (5, 17), (5, 6), (5, 27), (11, 0x1)], .fork 17 6 27),
    ([(6, 0x2F), (5, 17), (5, 6), (5, 27), (4, 5), (7, 0x2)], .spawnat 17 6 27 5),
    ([(6, 0x2F), (5, 0x0), (5, 6), (5, 0x0), (4, 5), (7, 0x3)], .join 6 5),
    ([(6, 0x2F), (5, 0x0), (5, 6), (16, 0x4)], .exit 6),
    ([(6, 0x2F), (26, 0x5)], .yield),
    ([(6, 0x2F), (5, 17), (21, 0x6)], .nextw 17)] = true := by decide

theorem test_decode_landing : decodes [
    ([(6, 0x30), (5, 0x0), (5, 6), (5, 27), (11, 0x1)], .sendr 6 27),
    ([(6, 0x30), (5, 0x0), (5, 6), (5, 27), (11, 0x2)], .sendrRl 6 27),
    ([(6, 0x30), (5, 0x0), (5, 6), (5, 27), (9, 0x4), (2, 2)], .sendrB 6 27 2),
    ([(6, 0x30), (5, 0x0), (5, 6), (5, 27), (9, 0x5), (2, 2)], .sendrRlB 6 27 2),
    ([(6, 0x30), (5, 17), (5, 6), (16, 0x8)], .takeG 17 6),
    ([(6, 0x30), (5, 9), (5, 6), (16, 0x9)], .takeV 9 6),
    ([(6, 0x30), (5, 0x0), (5, 6), (16, 0xA)], .emptyG 6),
    ([(6, 0x30), (5, 0x0), (5, 6), (16, 0xB)], .emptyV 6),
    ([(6, 0x30), (5, 17), (5, 6), (16, 0xC)], .ptestG 17 6),
    ([(6, 0x30), (5, 17), (5, 6), (16, 0xD)], .ptestV 17 6),
    ([(6, 0x30), (5, 17), (21, 0xE)], .self 17),
    ([(6, 0x30), (5, 17), (5, 6), (5, 27), (11, 0xF)], .hreg 17 6 27)] = true := by decide

theorem test_decode_plate : decodes [
    ([(6, 0x31), (5, 17), (5, 6), (5, 0x0), (4, 5), (7, 0x1)], .plook 17 6 5),
    ([(6, 0x31), (5, 17), (5, 6), (5, 27), (4, 5), (7, 0x2)], .pmake 17 6 27 5),
    ([(6, 0x31), (5, 17), (5, 6), (5, 0x0), (4, 5), (7, 0x3)], .patt 17 6 5),
    ([(6, 0x31), (5, 17), (5, 6), (5, 0x0), (4, 5), (7, 0x4)], .pattT 17 6 5),
    ([(6, 0x31), (5, 0x0), (5, 6), (5, 0x0), (4, 5), (7, 0x5)], .pdet 6 5),
    ([(6, 0x31), (5, 0x0), (5, 6), (5, 0x0), (4, 5), (7, 0x6)], .pseal 6 5),
    ([(6, 0x31), (5, 0x0), (5, 6), (5, 0x0), (4, 5), (7, 0x7)], .pevict 6 5),
    ([(6, 0x31), (5, 0x0), (5, 6), (5, 0x0), (4, 5), (7, 0x8)], .pfree 6 5)] = true := by decide

theorem test_decode_engine_command : decodes [
    ([(6, 0x32), (20, 0x1), (4, 5), (2, 0x0)], .mmaz 5),
    ([(6, 0x32), (4, 0x0), (5, 6), (5, 27), (6, 0x2), (4, 5), (2, 2)], .mma 6 27 5 2),
    ([(6, 0x32), (20, 0x3), (4, 5), (2, 0x0)], .rfree 5),
    ([(6, 0x32), (4, 0x1), (5, 6), (5, 27), (6, 0x1), (4, 5), (2, 0x0)], .epi 6 27 5),
    ([(6, 0x32), (4, 0x2), (5, 6), (5, 27), (6, 0x1), (4, 5), (2, 0x0)], .copy 6 27 5),
    ([(6, 0x32), (4, 0x2), (5, 6), (5, 27), (6, 0x2), (4, 5), (2, 0x0)], .gather 6 27 5),
    ([(6, 0x32), (4, 0x2), (5, 6), (5, 27), (6, 0x3), (4, 5), (2, 0x0)], .scatter 6 27 5),
    ([(6, 0x32), (4, 0x2), (5, 6), (5, 27), (6, 0x4), (4, 5), (2, 0x0)], .bins 6 27 5),
    ([(6, 0x32), (4, 0x2), (5, 6), (5, 27), (6, 0x5), (4, 5), (2, 0x0)], .mcast 6 27 5),
    ([(6, 0x32), (4, 0x2), (5, 6), (11, 0x6), (4, 5), (2, 0x0)], .freeb 6 5),
    ([(6, 0x32), (4, 0x2), (5, 6), (5, 27), (6, 0x7), (4, 5), (2, 0x0)], .fillw 6 27 5)] = true := by decide

theorem test_decode_engine_control : decodes [
    ([(6, 0x33), (4, 0), (5, 6), (5, 12), (12, 0x40)], .eset 0 6 12),
    ([(6, 0x33), (4, 1), (5, 17), (5, 1), (12, 0x80)], .eget 1 17 1),
    ([(6, 0x33), (4, 1), (5, 17), (17, 0xC0)], .epop 1 17),
    ([(6, 0x33), (4, 0), (5, 17), (17, 0x100)], .ewait 0 17),
    ([(6, 0x33), (4, 1), (5, 17), (17, 0x140)], .etest 1 17)] = true := by decide

theorem test_decode_vector_1 : decodes [
    ([(6, 0x34), (4, 9), (4, 6), (4, 13), (14, 0x1)], .vadd 9 6 13),
    ([(6, 0x34), (4, 9), (4, 6), (4, 13), (14, 0x2)], .vsub 9 6 13),
    ([(6, 0x34), (4, 9), (4, 6), (4, 13), (14, 0x3)], .vmul 9 6 13),
    ([(6, 0x34), (4, 9), (4, 6), (4, 13), (4, 3), (10, 0x4)], .vmad 9 6 13 3),
    ([(6, 0x34), (4, 9), (4, 6), (4, 13), (14, 0x5)], .vmin 9 6 13),
    ([(6, 0x34), (4, 9), (4, 6), (4, 13), (14, 0x6)], .vmax 9 6 13),
    ([(6, 0x34), (4, 9), (4, 6), (18, 0x7)], .vabs 9 6),
    ([(6, 0x34), (4, 9), (4, 6), (18, 0x8)], .vneg 9 6),
    ([(6, 0x34), (4, 9), (4, 6), (4, 13), (14, 0x9)], .vadds 9 6 13),
    ([(6, 0x34), (4, 9), (4, 6), (4, 13), (14, 0xA)], .vsubs 9 6 13),
    ([(6, 0x34), (4, 9), (4, 6), (4, 13), (14, 0xB)], .vmuls 9 6 13),
    ([(6, 0x34), (4, 9), (4, 6), (4, 13), (14, 0x10)], .vand 9 6 13),
    ([(6, 0x34), (4, 9), (4, 6), (4, 13), (14, 0x11)], .vor 9 6 13),
    ([(6, 0x34), (4, 9), (4, 6), (4, 13), (14, 0x12)], .vxor 9 6 13),
    ([(6, 0x34), (4, 9), (4, 6), (4, 13), (14, 0x13)], .vandn 9 6 13),
    ([(6, 0x34), (4, 9), (4, 6), (4, 13), (14, 0x18)], .vshl 9 6 13),
    ([(6, 0x34), (4, 9), (4, 6), (4, 13), (14, 0x19)], .vshr 9 6 13),
    ([(6, 0x34), (4, 9), (4, 6), (4, 13), (14, 0x1A)], .vshra 9 6 13),
    ([(6, 0x34), (4, 9), (4, 6), (4, 13), (14, 0x20)], .vcmpeq 9 6 13),
    ([(6, 0x34), (4, 9), (4, 6), (4, 13), (14, 0x21)], .vcmpne 9 6 13),
    ([(6, 0x34), (4, 9), (4, 6), (4, 13), (14, 0x22)], .vcmplt 9 6 13),
    ([(6, 0x34), (4, 9), (4, 6), (4, 13), (14, 0x23)], .vcmple 9 6 13),
    ([(6, 0x34), (4, 9), (4, 6), (4, 13), (4, 3), (10, 0x28)], .vsel 9 6 13 3),
    ([(6, 0x34), (4, 9), (4, 6), (4, 13), (4, 3), (10, 0x29)], .vperm 9 6 13 3)] = true := by decide

theorem test_decode_vector_2 : decodes [
    ([(6, 0x34), (4, 9), (4, 6), (4, 6), (4, 11), (10, 0x30)], .vcvt 9 6 6 11),
    ([(6, 0x34), (4, 9), (4, 6), (4, 13), (14, 0x31)], .vqscl 9 6 13),
    ([(6, 0x34), (4, 9), (4, 6), (4, 13), (4, 7), (10, 0x32)], .vqnt 9 6 13 7),
    ([(6, 0x34), (4, 9), (4, 6), (4, 0x0), (4, 5), (10, 0x38)], .vexp2 9 6 5),
    ([(6, 0x34), (4, 9), (4, 6), (4, 0x0), (4, 5), (10, 0x39)], .vlog2 9 6 5),
    ([(6, 0x34), (4, 9), (4, 6), (4, 0x0), (4, 5), (10, 0x3A)], .vrcp 9 6 5),
    ([(6, 0x34), (4, 9), (4, 6), (4, 0x0), (4, 5), (10, 0x3B)], .vrsq 9 6 5),
    ([(6, 0x34), (4, 9), (4, 6), (4, 13), (14, 0x40)], .vdot 9 6 13),
    ([(6, 0x34), (4, 9), (4, 6), (4, 13), (14, 0x41)], .vdots 9 6 13),
    ([(6, 0x34), (4, 9), (4, 6), (18, 0x48)], .vrsum 9 6),
    ([(6, 0x34), (4, 9), (4, 6), (18, 0x49)], .vrmin 9 6),
    ([(6, 0x34), (4, 9), (4, 6), (18, 0x4A)], .vrmax 9 6)] = true := by decide

theorem test_decode_vector_transfer : decodes [
    ([(6, 0x35), (5, 9), (5, 6), (16, 0x1)], .vsplat 9 6),
    ([(6, 0x35), (5, 17), (5, 6), (5, 27), (11, 0x2)], .vext 17 6 27),
    ([(6, 0x35), (5, 9), (5, 6), (5, 27), (11, 0x3)], .vins 9 6 27)] = true := by decide

theorem test_decode_mean : decodes [
    ([(6, 0x36), (4, 9), (22, 0x1)], .tminit 9),
    ([(6, 0x36), (4, 9), (4, 6), (4, 13), (4, 5), (10, 0x2)], .tmacc 9 6 13 5),
    ([(6, 0x36), (4, 9), (4, 6), (4, 13), (4, 5), (10, 0x3)], .tmmrg 9 6 13 5),
    ([(6, 0x36), (4, 9), (4, 6), (4, 0x0), (4, 5), (10, 0x4)], .tmfin 9 6 5),
    ([(6, 0x36), (4, 0x0), (4, 6), (4, 3), (4, 5), (10, 0x5)], .tmload 6 3 5)] = true := by decide

theorem test_decode_immediate : decodes [
    ([(6, 0x2), (5, 17), (5, 6), (16, 48869)], .addi 17 6 48869),
    ([(6, 0x3), (5, 17), (5, 6), (16, 48869)], .andi 17 6 48869),
    ([(6, 0x4), (5, 17), (5, 6), (16, 48869)], .ori 17 6 48869),
    ([(6, 0x5), (5, 17), (5, 6), (16, 48869)], .xori 17 6 48869),
    ([(6, 0x6), (5, 17), (5, 6), (10, 0x0), (6, 45)], .shli 17 6 45),
    ([(6, 0x6), (5, 17), (5, 6), (10, 0x100), (6, 45)], .shri 17 6 45),
    ([(6, 0x6), (5, 17), (5, 6), (10, 0x200), (6, 45)], .shrai 17 6 45),
    ([(6, 0x6), (5, 17), (5, 6), (10, 0x300), (6, 45)], .rotri 17 6 45),
    ([(6, 0x7), (5, 17), (5, 6), (3, 0x0), (13, 5797)], .cmpeqi 17 6 5797),
    ([(6, 0x7), (5, 17), (5, 6), (3, 0x1), (13, 5797)], .cmpnei 17 6 5797),
    ([(6, 0x7), (5, 17), (5, 6), (3, 0x2), (13, 5797)], .cmplti 17 6 5797),
    ([(6, 0x7), (5, 17), (5, 6), (3, 0x3), (13, 5797)], .cmpgei 17 6 5797),
    ([(6, 0x7), (5, 17), (5, 6), (3, 0x4), (13, 5797)], .cmpltni 17 6 5797),
    ([(6, 0x7), (5, 17), (5, 6), (3, 0x5), (13, 5797)], .cmpgeni 17 6 5797),
    ([(6, 0x8), (5, 17), (5, 0x0), (16, 48869)], .ldi 17 48869),
    ([(6, 0x9), (5, 17), (5, 6), (16, 48869)], .ldih 17 6 48869),
    ([(6, 0xB), (5, 17), (5, 6), (16, 48869)], .addpi 17 6 48869),
    ([(6, 0x2C), (5, 17), (5, 6), (4, 5), (5, 0x0), (7, 77)], .wstate 17 6 5 77),
    ([(6, 0x2C), (5, 17), (5, 6), (4, 5), (5, 0x1), (7, 77)], .wset 17 6 5 77)] = true := by decide

theorem test_decode_branch : decodes [
    ([(6, 0x10), (5, 6), (5, 27), (16, 48869)], .beq 6 27 48869),
    ([(6, 0x11), (5, 6), (5, 27), (16, 48869)], .bne 6 27 48869),
    ([(6, 0x12), (5, 6), (5, 27), (16, 48869)], .blt 6 27 48869),
    ([(6, 0x13), (5, 6), (5, 27), (16, 48869)], .bge 6 27 48869),
    ([(6, 0x14), (5, 6), (5, 27), (16, 48869)], .bltn 6 27 48869),
    ([(6, 0x15), (5, 6), (5, 27), (16, 48869)], .bgen 6 27 48869),
    ([(6, 0x16), (26, 36984440)], .j 36984440),
    ([(6, 0x17), (26, 36984440)], .jal 36984440)] = true := by decide

theorem test_decode_load_store : decodes [
    ([(6, 0x1C), (5, 17), (5, 6), (4, 5), (1, 0), (2, 2), (9, 421)], .ldb 17 6 5 0 2 421),
    ([(6, 0x1D), (5, 17), (5, 6), (4, 5), (1, 0), (2, 2), (9, 421)], .ldh 17 6 5 0 2 421),
    ([(6, 0x1E), (5, 17), (5, 6), (4, 5), (1, 0), (2, 2), (9, 421)], .ldw 17 6 5 0 2 421),
    ([(6, 0x1F), (5, 17), (5, 6), (4, 5), (1, 0), (2, 2), (9, 421)], .ldd 17 6 5 0 2 421),
    ([(6, 0x20), (5, 17), (5, 6), (4, 5), (1, 0), (2, 2), (9, 421)], .ldnb 17 6 5 0 2 421),
    ([(6, 0x21), (5, 17), (5, 6), (4, 5), (1, 0), (2, 2), (9, 421)], .ldnh 17 6 5 0 2 421),
    ([(6, 0x22), (5, 17), (5, 6), (4, 5), (1, 0), (2, 2), (9, 421)], .ldnw 17 6 5 0 2 421),
    ([(6, 0x23), (5, 17), (5, 6), (4, 5), (1, 0), (2, 2), (9, 421)], .stb 17 6 5 0 2 421),
    ([(6, 0x24), (5, 17), (5, 6), (4, 5), (1, 0), (2, 2), (9, 421)], .sth 17 6 5 0 2 421),
    ([(6, 0x25), (5, 17), (5, 6), (4, 5), (1, 0), (2, 2), (9, 421)], .stw 17 6 5 0 2 421),
    ([(6, 0x26), (5, 17), (5, 6), (4, 5), (1, 0), (2, 1), (9, 421)], .std 17 6 5 0 1 421),
    ([(6, 0x27), (5, 9), (5, 6), (4, 5), (1, 0), (2, 0x0), (9, 421)], .ldv 9 6 5 0 421),
    ([(6, 0x28), (5, 9), (5, 6), (4, 5), (1, 0), (2, 0x0), (9, 421)], .stv 9 6 5 0 421),
    ([(6, 0x29), (5, 9), (5, 6), (4, 5), (1, 0), (2, 0x0), (9, 421)], .ldbp 9 6 5 0 421),
    ([(6, 0x2A), (5, 9), (5, 6), (4, 5), (1, 0), (2, 0x0), (9, 421)], .stbp 9 6 5 0 421)] = true := by decide

theorem test_decode_system : decodes [
    ([(6, 0x37), (26, 0x0)], .nop),
    ([(6, 0x37), (5, 0x0), (5, 6), (4, 0x1), (12, 2748)], .trap 6 2748),
    ([(6, 0x37), (26, 0x2000)], .rte),
    ([(6, 0x37), (5, 17), (9, 0x3), (12, 49)], .srd 17 49),
    ([(6, 0x37), (5, 0x0), (5, 6), (4, 0x4), (12, 49)], .swr 6 49),
    ([(6, 0x37), (14, 0x5), (12, 2748)], .bkpt 2748)] = true := by decide
/-- The reasons of ILL in the order of R63: majors 0x00 and 0x3F; an INT code; NEG with b = 1; TAKE of v17; LDD with sync code 3,
and relaxed with a sync mode; SRD of register 0x029; RFREE with SG 1. -/
theorem test_ill_reasons :
    [[(32, 0)], [(6, 0x3F), (26, 0)], [(6, 0x01), (5, 1), (5, 2), (5, 3), (11, 0x7FF)], [(6, 0x01), (5, 1), (5, 2), (5, 1), (11, 0x00A)],
     [(6, 0x30), (5, 17), (5, 6), (5, 0), (11, 0x9)], [(6, 0x1F), (5, 1), (5, 2), (4, 0), (1, 0), (2, 3), (9, 0)],
     [(6, 0x1F), (5, 1), (5, 2), (4, 0), (1, 1), (2, 1), (9, 0)], [(6, 0x37), (5, 1), (9, 0x3), (12, 0x029)], [(6, 0x32), (20, 0x3), (4, 5), (2, 0x1)]].map
      (fun l => decode (wordBytes (fields l)))
    = [.ill 1, .ill 1, .ill 2, .ill 3, .ill 4, .ill 5, .ill 5, .ill 6, .ill 5] := by decide

/-- The bits of a table row reach the decoder (R57): ADD g1, g2, g1. Fewer than four bytes are no word. -/
theorem test_table_word : decodeTableWord 32 0x04220801 = some (.add 1 2 1) := by decide
theorem test_short_word : decode [0x01#8, 0x08#8, 0x22#8] = .short := by decide

/-! ### One step against the manual -/

/-- Slot 0 of core 0 runs word 0 of a kernel of 16 words, in context 0, with the registers that `f` gives it. -/
def running (f : Slot → Slot) : State :=
  { State.reset with cur := 0, slots := [(0, f { Slot.reset with st := .running, n := 16 })] }

/-- A word's next state meets a test. -/
def after (i : Instr) (s : State) (p : State → Bool) : Bool := match exec i s with | .next t => p t | _ => false

theorem test_add_wraps :
    after (.add 3 1 2) (running (fun x => (x.setG 1 0xFFFFFFFFFFFFFFFF#64).setG 2 2#64)) (fun t =>
      decide ((t.slot 0).rg 3 = 1#64) && decide ((t.slot 0).pc = 4)) = true := by decide

/-! ### Witnesses: for each clause of each statement, states and operands that meet its hypotheses

A clause with bounds is met at a bound. `issues` and `handles` decide Issues and Handles. -/

/-- Issues, as a test. -/
def issues (s : State) (i : Instr) : Bool :=
  let x := s.slot s.cur
  let u := usesOf i
  x.wins.all (fun w => decide (w.count ≠ 0)) && u.reads.all (fun r => inMask x.pres r && !inMask x.pend r)
    && u.writes.all (fun r => !inMask x.pend r) && !accessBlock x u.access && decide (waitBlock s s.cur u.wait = none)
    && u.reads.all (fun r => !inMask x.rerr r)

theorem issues_sound {s : State} {i : Instr} (h : issues s i = true) : Issues s i := by
  simp only [issues, Bool.and_eq_true, List.all_eq_true, decide_eq_true_eq, Bool.not_eq_true'] at h
  obtain ⟨⟨⟨⟨⟨h1, h2⟩, h3⟩, h4⟩, h5⟩, h6⟩ := h
  exact ⟨h1, h2, h3, h4, h5, h6⟩

/-- Handles, as a test. -/
def handles (s : State) : Bool := !(s.slot s.cur).inh && (s.slot s.cur).hasHandler

theorem handles_sound {s : State} (h : handles s = true) : Handles s := by
  simp only [handles, Bool.and_eq_true, Bool.not_eq_true'] at h
  exact ⟨h.1, h.2⟩

/-- The slot with a handler at the second word. -/
def handled (x : Slot) : Slot := { x with tvec := 4#64 }
/-- Two registers of the slot. -/
def two (a b : Word) (x : Slot) : Slot := (x.setG 1 a).setG 2 b
/-- The slot under the element format of EFMT. -/
def under (e : Word) (x : Slot) : Slot := { x with efmt := e }

/-- Context 0: node 0, a window of 128 KiB with every permission at HBM 64 KiB, VDN 5 for position 7, VDN 6 for this module at
position 3, VDN 7 for position 9. -/
def ctx0 : Ctx where
  pctx := 1
  plateG := 1
  hbmShare := 16
  fabShare := 16
  hbmBase := 0
  hbmLen := 16
  saveBase := 0x80000
  saveRecs := 4
  spills := 4
  allot := 1#10240
  windows := [BitVec.ofNat 128 (1 * 2 ^ 104 + 2 * 2 ^ 80 + 0x8F)]
  podTab := [(5, 0x8000000000000007#64), (6, 0x8000000000000003#64), (7, 0x8000000000000009#64)]
  lastSeq := 0#32
  usedRecs := []
  usedSpills := []

/-- The slot in context 0 of a pod in which position 7 performs every atomic, position 9 none, and position 11 is lost. -/
def inPod (f : Slot → Slot) : State :=
  let j : Join := { epoch := 1#8, cap := 0x3FFF#64 }
  let joins := [(3, j), (7, j), (9, { epoch := 1#8, cap := 1#64 }), (11, j)]
  { running f with ctxs := [(0, ctx0)], pod := { Pod.reset with pos := some 3, lost := [11], joins := joins } }

/-- What the checks of R181 answer in context 0. -/
def admits (s : State) (n : Need) (ea : Nat) (p : Place) : Bool := match checkAddr s 0 n ea with | .ok q => decide (q = p) | _ => false
def refuses (s : State) (n : Need) (ea r : Nat) : Bool := match checkAddr s 0 n ea with | .error q => decide (q = r) | _ => false

/-- The last word of the local store of core 0, a pointer to it, and one to the window's last word. -/
def lastWord : Nat := 0x20000007FF8
def storePtr : Word := wd (0x3FF * 2 ^ 42 + lastWord)
def hbmPtr : Word := wd (0x3FF * 2 ^ 42 + 0x1FFF8)
/-- Pointers to word 8 of window 0 of positions 7, 9 and 11. -/
def farPtr (vdn : Nat) : Word := wd (vdn * 2 ^ 42 + 8)

theorem witness_IntegerArithmeticResults :
    let s := running (two 0x8000000000000000#64 0xFFFFFFFFFFFFFFFF#64)
    let z := running (two 5#64 0#64)
    additive (s.slot s.cur) (.add 3 1 2) = some (3#5, 0x7FFFFFFFFFFFFFFF#64) ∧ issues s (.add 3 1 2) = true
    ∧ division (s.slot s.cur) (.div 3 1 2) = some (3#5, 0x8000000000000000#64) ∧ issues s (.div 3 1 2) = true
    ∧ division (z.slot z.cur) (.div 3 1 2) = some (3#5, 0xFFFFFFFFFFFFFFFF#64) ∧ issues z (.div 3 1 2) = true
    ∧ shift (s.slot s.cur) (.shra 3 1 2) = some (3#5, 0xFFFFFFFFFFFFFFFF#64) ∧ issues s (.shra 3 1 2) = true := by decide +kernel

theorem witness_CompareAndBitResults :
    let s := running (two 0x8000000000000000#64 0#64)
    relation (s.slot s.cur) (.cmplt 3 1 2) = some (3#5, 1#64) ∧ issues s (.cmplt 3 1 2) = true
    ∧ relation (s.slot s.cur) (.sel 2 1 2) = some (2#5, 0#64) ∧ issues s (.sel 2 1 2) = true
    ∧ bitForm (s.slot s.cur) (.ctz 3 2) = some (3#5, 64#64) ∧ issues s (.ctz 3 2) = true := by decide +kernel

theorem witness_ImmediateAndPointerResults :
    let s := running (two 0xFFFFFFFFFFFFFFFF#64 1#64)
    immediate (s.slot s.cur) (.addi 3 1 0x8000) = some (3#5, 0xFFFFFFFFFFFF7FFF#64) ∧ issues s (.addi 3 1 0x8000) = true
    ∧ pointer (s.slot s.cur) (.addp 3 1 2) = some (3#5, 0xFFF0000000000000#64) ∧ issues s (.addp 3 1 2) = true := by decide +kernel

theorem witness_IndexedPointer :
    let s := running (fun x => handled (two 0x0400000000000000#64 1#64 x))
    let r := running (fun x => handled (two 0x0D00000000000000#64 1#64 x))
    issues s (.idxp 3 1 2) = true ∧ unitOf 4 0 = some 8 ∧ issues r (.idxp 3 1 2) = true ∧ unitOf 0x0D 0 = none
    ∧ handles r = true := by decide +kernel

theorem witness_ScalarFloatResults :
    let s := running (two 0x7F800001#64 0xFF800000#64)
    floatDest (.fpadd 3 1 2) = some 3#5 ∧ issues s (.fpadd 3 1 2) = true ∧ patNan ((s.slot s.cur).rg 1) = true
    ∧ patInf ((s.slot s.cur).rg 2) = true := by decide +kernel

/-- Taken to the last word of the kernel, one past it, one before its start; not taken. -/
theorem witness_BranchesAndJumps :
    let s := running (fun x => handled (two 1#64 2#64 x))
    branchOf (s.slot s.cur) (.bne 1 2 14) = some (true, 14) ∧ issues s (.bne 1 2 14) = true ∧ (0 : Int) + 4 + 4 * 14 < 4 * 16
    ∧ branchOf (s.slot s.cur) (.blt 1 2 15) = some (true, 15) ∧ issues s (.blt 1 2 15) = true ∧ (4 * 16 : Int) ≤ 0 + 4 + 4 * 15
    ∧ branchOf (s.slot s.cur) (.j 0x3FFFFFE) = some (true, -2) ∧ issues s (.j 0x3FFFFFE) = true ∧ (0 : Int) + 4 + 4 * (-2) < 0
    ∧ branchOf (s.slot s.cur) (.beq 1 2 15) = some (false, 15) ∧ issues s (.beq 1 2 15) = true ∧ handles s = true := by decide +kernel

theorem witness_LinkingAndRegisterJumps :
    let s := running (fun x => handled (two 60#64 64#64 x))
    let m := running (fun x => handled (two 62#64 64#64 x))
    issues s (.jal 14) = true ∧ issues s (.jal 15) = true ∧ issues s (.jr 1) = true ∧ issues s (.jalr 1 1) = true
    ∧ issues s (.jr 2) = true ∧ issues s (.jalr 1 2) = true ∧ issues m (.jr 1) = true ∧ issues m (.jalr 1 1) = true
    ∧ handles s = true ∧ handles m = true := by decide +kernel

/-- A load at the last word of a local store, a relaxed store as an item, an atomic in another module, JOIN. -/
theorem witness_AccessWordsPost :
    let s := inPod (two storePtr hbmPtr)
    let f := inPod (two (farPtr 5) 1#64)
    (access (s.slot 0) (.ldd 3 1 2 0 1 0)).map (fun w => (w.ea, w.size, w.need.sync)) = some (0x3FF * 2 ^ 42 + lastWord, 8, true)
    ∧ issues s (.ldd 3 1 2 0 1 0) = true
    ∧ admits s { Need.load with sync := true } (0x3FF * 2 ^ 42 + lastWord) (.mem lastWord) = true
    ∧ issues s (.std 3 2 0 1 0 0) = true ∧ (s.slot 0).tagItems 0 = []
    ∧ admits s Need.store hbmPtr.toNat (.mem 0x2FFF8) = true
    ∧ issues f (.aadd 3 1 2 0) = true
    ∧ admits f Need.atomic (farPtr 5).toNat (.remote 7) = true ∧ 7 ∉ f.pod.lost
    ∧ issues s (.join 1 0) = true
    ∧ admits s { Need.both with sync := true } (0x3FF * 2 ^ 42 + lastWord) (.mem lastWord) = true := by
  decide +kernel

/-- No window covers the address; a misaligned word; a module that performs no atomic; a module that is lost. -/
theorem witness_AccessWordsTrap :
    let s := inPod (fun x => handled (two (wd (0x3FF * 2 ^ 42 + 0x20000)) (storePtr + 1#64) x))
    let f := inPod (fun x => handled (two (farPtr 7) 1#64 x))
    let l : State := { f with pod := { f.pod with lost := [9] } }
    handles s = true ∧ handles f = true ∧ issues s (.ldd 3 1 2 0 0 0) = true
    ∧ refuses s Need.load (0x3FF * 2 ^ 42 + 0x20000) 6 = true
    ∧ issues s (.ldnb 3 2 2 0 0 0) = true ∧ issues s (.ldh 3 2 2 0 0 0) = true ∧ (0x3FF * 2 ^ 42 + lastWord + 1) % 2 ≠ 0
    ∧ admits s Need.load (0x3FF * 2 ^ 42 + lastWord + 1) (.mem (lastWord + 1)) = true
    ∧ issues f (.aadd 3 1 2 0) = true ∧ Tab.look f.pod.joins 9 = some { epoch := 1#8, cap := 1#64 }
    ∧ admits f Need.atomic (farPtr 7).toNat (.remote 9) = true
    ∧ issues l (.ldd 3 1 2 0 0 0) = true ∧ handles l = true ∧ 9 ∈ l.pod.lost
    ∧ admits l Need.load (farPtr 7).toNat (.remote 9) = true := by decide +kernel

/-- An item of a tag, settled with a code or outstanding. -/
def item (tag seq : Nat) (code : BitVec 8) (known : Bool) : Item where
  tag := tag
  seq := seq
  peer := some (.node 0)
  left := if known then 0 else 1
  code := code
  known := known
  marker := 0
  hint := false
  viaHome := none
  cores := []
  nodes := []
  loc := true

/-- A fault record. -/
def fault0 : FaultInfo := { cause := 0x03#8, faddr := 8#64, finfo := 6#64 }

/-- A plain load with 8 bytes to g3, outstanding under number 9. -/
def acc0 : Acc where
  id := 9
  relaxed := false
  plt := false
  dest := .g 3
  oldPres := 0#48
  pca := 0
  issued := 1#64
  fill := .zx 8
  left := 1
  data := []
  fault := none

/-- Its request. -/
def req0 : Req where
  id := 9
  stamp := 9
  own := .slot 0 { birth := 0, gen := 0#12 }
  ctx := 0
  src := 0
  op := .load 8 0#2
  ea := storePtr
  loc := lastWord
  tgt := .store 0 8#4
  relaxed := false
  rl := false
  item := none
  acc := 9
  part := 0
  info := 0#64
  limit := 256
  misses := 0
  stage := .outbound

/-- A word that would be the 65th item of a tag with a failure; closes with a failure whose trap is enabled; closes with the
deferred-fault record occupied. -/
theorem witness_BatchTagTraps :
    let full := inPod (fun x => { handled (two storePtr hbmPtr x) with
      items := (List.range 64).map (fun k => item 0 k (if k = 63 then 0x8E#8 else 0#8) true) })
    let failed := inPod (fun x => { handled x with btrap := 8#64, items := [item 3 0 0#8 true, item 3 1 0x8E#8 true] })
    let deferred := inPod (fun x => { handled x with dfr := some fault0, items := [item 3 0 0#8 true] })
    (access (full.slot 0) (.std 3 1 0 1 0 0)).map (fun w => w.item) = some true ∧ issues full (.std 3 1 0 1 0 0) = true
    ∧ issues full (.stbp 9 1 0 1 0) = true ∧ efmt full < 9 ∧ [Instr.sendr 1 2, .sendrRl 1 2, .sendrB 1 2 0, .sendrRlB 1 2 0].all (issues full) = true
    ∧ handles full = true ∧ ((full.slot 0).tagItems (tagNow (full.slot 0))).length = 64 ∧ (full.slot 0).failMap 0 ≠ 0#64
    ∧ issues failed (.bclose 5 3) = true ∧ issues failed (.btest 5 3) = true ∧ handles failed = true
    ∧ (∀ j ∈ (failed.slot 0).tagItems 3, j.known = true) ∧ (failed.slot 0).failMap 3 = 2#64
    ∧ (failed.slot 0).lowFail 3 = some (item 3 1 0x8E#8 true) ∧ (failed.slot 0).btrap.getLsbD 3 = true
    ∧ (failed.slot 0).dfr = none ∧ issues deferred (.bclose 5 3) = true ∧ issues deferred (.btest 5 3) = true
    ∧ handles deferred = true ∧ (∀ j ∈ (deferred.slot 0).tagItems 3, j.known = true)
    ∧ (deferred.slot 0).dfr = some fault0 := by decide +kernel

/-- Each outcome of the checks of R181 in context 0: an unnamed VDN; classes 1 and 3, space 1; a die above 9; MMIO; a node outside
the allotment; a store word; B-SRAM with a sync mode and without; no window; a window that forbids; a window that grants; another
module's words; a code bank by a hart, and its last 512 KiB; B-SRAM with one bus retired, at its last word and above, and with both. -/
theorem witness_AddressChecks :
    let s := inPod id
    let here := 0x3FF * 2 ^ 42
    let ro : State := { s with ctxs := [(0, { ctx0 with windows := [BitVec.ofNat 128 (1 * 2 ^ 104 + 2 * 2 ^ 80 + 0x89)] })] }
    let retired := fun (n : Nat) => ({ s with tiles := [(0, { Tile.reset with rbus := n })] } : State)
    s.context 0 = some ctx0 ∧ refuses s Need.load (8 * 2 ^ 42) 8 = true ∧ refuses s Need.load (here + 2 ^ 40) 1 = true
    ∧ refuses s Need.load (here + 3 * 2 ^ 40) 2 = true ∧ refuses s Need.load (here + 2 * 2 ^ 40 + 2 ^ 38) 1 = true
    ∧ refuses s Need.load (here + 2 * 2 ^ 40 + 10 * 2 ^ 31) 3 = true
    ∧ refuses s Need.load (here + 2 * 2 ^ 40 + 3 * 2 ^ 38 + 9 * 2 ^ 31) 4 = true
    ∧ refuses s Need.load (here + 2 * 2 ^ 40 + 2 ^ 21) 5 = true ∧ admits s Need.load (here + lastWord) (.mem lastWord) = true
    ∧ refuses s Need.atomic (here + 2 * 2 ^ 40 + 2 * 2 ^ 38) 10 = true
    ∧ admits s Need.load (here + 2 * 2 ^ 40 + 2 * 2 ^ 38) (.mem (2 * 2 ^ 40 + 2 * 2 ^ 38)) = true
    ∧ refuses s Need.load (here + 0x20000) 6 = true ∧ refuses ro Need.store here 7 = true
    ∧ admits s Need.load (here + 0x1FFFF) (.mem 0x2FFFF) = true
    ∧ admits s Need.load (6 * 2 ^ 42 + 0x1FFFF) (.mem 0x2FFFF) = true
    ∧ admits s Need.load (5 * 2 ^ 42) (.remote 7) = true ∧ refuses s Need.load (5 * 2 ^ 42 + 2 ^ 40) 1 = true
    ∧ refuses s { Need.load with sync := true } (5 * 2 ^ 42) 10 = true ∧ refuses s Need.atomic (5 * 2 ^ 42 + 0x28000000000) 10 = true
    ∧ admits s { Need.load with hart := true } (here + 0x2C000000000) (.mem 0x2C000000000) = true
    ∧ refuses s { Need.load with hart := true } (here + 0x2C000080000) 4 = true
    ∧ admits (retired 1) Need.load (here + 0x2800000FFF8) (.mem 0x2800000FFF8) = true ∧ refuses (retired 1) Need.load (here + 0x28000010000) 11 = true
    ∧ refuses (retired 2) Need.load (here + 0x28000000000) 11 = true := by decide +kernel

/-- Format byte 0xFE (8 planes stored, 8 read), L = 5 (32 elements), at the start of the local store of core 0. -/
def planes : Word := wd (0xFE * 2 ^ 56 + 5 * 2 ^ 52 + 0x3FF * 2 ^ 42 + 0x20000000000)

theorem witness_BlockLoads :
    let s := inPod (two planes 0#64)
    let b := blockAt (s.slot 0) 1 0
    issues s (.ldbp 9 1 3 0 0) = true ∧ b.e < 9 ∧ 0x80 ≤ b.f ∧ (unitOf b.f b.l).isSome = true ∧ b.base % 8 = 0
    ∧ ¬ nth 0 [8, 6, 4, 8, 16, 32] b.e < b.depth
    ∧ b.words.all (fun w => admits s Need.load w (.mem (w % 2 ^ 42))) = true := by decide +kernel

theorem witness_BlockStores :
    let s := inPod (two planes 0#64)
    let b := blockAt (s.slot 0) 1 0
    issues s (.stbp 9 1 3 0 0) = true ∧ issues s (.stbp 9 1 0 1 0) = true ∧ (s.slot 0).tagItems 0 = []
    ∧ b.e < 9 ∧ 0x80 ≤ b.f ∧ (unitOf b.f b.l).isSome = true ∧ b.base % 8 = 0
    ∧ b.pieces.all (fun w => admits s Need.store w (.mem (w % 2 ^ 42))) = true := by decide +kernel

/-- A reserved EFMT; a rejected format; a scalar format; INT6 lanes narrower than the depth; no window; a misaligned block. -/
theorem witness_BlockTraps :
    let s := fun (e p : Word) => inPod (fun x => handled (under e (two p 0#64 x)))
    let b := fun (e p : Word) => blockAt ((s e p).slot 0) 1 0
    let hole := wd (0xFE * 2 ^ 56 + 5 * 2 ^ 52 + 0x3FF * 2 ^ 42 + 0x20000)
    [(9#64, planes), (0#64, 0x0D00000000000000#64), (0#64, 0x0400000000000000#64), (1#64, planes), (0#64, hole), (0#64, planes + 4#64)].all
      (fun q => handles (s q.1 q.2) && issues (s q.1 q.2) (.ldbp 9 1 3 0 0) && issues (s q.1 q.2) (.stbp 9 1 3 0 0)) = true
    ∧ (b 9 planes).e = 9 ∧ unitOf (b 0 0x0D00000000000000#64).f (b 0 0x0D00000000000000#64).l = none
    ∧ unitOf (b 0 0x0400000000000000#64).f (b 0 0x0400000000000000#64).l = some 8 ∧ (b 0 0x0400000000000000#64).f < 0x80
    ∧ nth 0 [8, 6, 4, 8, 16, 32] (b 1 planes).e < (b 1 planes).depth
    ∧ refuses (s 0 hole) Need.load (0x3FF * 2 ^ 42 + 0x20000) 6 = true ∧ (b 0 hole).words.head? = some (0x3FF * 2 ^ 42 + 0x20000)
    ∧ (b 0 (planes + 4#64)).base % 8 = 4
    ∧ (b 0 (planes + 4#64)).words.all (fun w => admits (s 0 planes) Need.load w (.mem (w % 2 ^ 42))) = true := by decide +kernel

theorem witness_FencesCompleteAndReport :
    let s := inPod id
    let d := inPod (fun x => { handled x with dfr := some fault0 })
    let f := inPod (fun x => { handled x with btrap := 8#64, items := [item 3 0 0x8E#8 true] })
    [Instr.fenceCore, .fenceNode, .fenceDev, .fencePod].all (fun i => issues s i && issues d i) = true
    ∧ (s.slot 0).dfr = none ∧ (∀ j < 4, (s.slot 0).failMap j = 0#64) ∧ handles d = true ∧ (d.slot 0).dfr = some fault0
    ∧ issues f .fencePod = true ∧ handles f = true ∧ (f.slot 0).failMap 3 = 1#64 ∧ (f.slot 0).btrap.getLsbD 3 = true
    ∧ (f.slot 0).lowFail 3 = some (item 3 0 0x8E#8 true) ∧ (∀ n < 3, (f.slot 0).failMap n = 0#64) := by decide +kernel

theorem witness_BatchClosesAndTests :
    let s := inPod (fun x => { x with items := [item 3 0 0x8E#8 true] })
    let o := inPod (fun x => { x with items := [item 3 0 0x8E#8 true, item 3 1 0#8 false] })
    issues s (.bclose 31 3) = true ∧ issues s (.btest 31 3) = true ∧ (∀ j ∈ (s.slot 0).tagItems 3, j.known = true)
    ∧ (s.slot 0).btrap.getLsbD 3 = false ∧ (s.slot 0).dfr = none
    ∧ issues o (.btest 31 3) = true ∧ (∃ j ∈ (o.slot 0).tagItems 3, j.known = false) := by decide +kernel

theorem witness_CopyTagWords :
    let s : State := { running (two 0x8000000000000000#64 0#64) with
      cores := [(0, { Core.reset with tags := 0x8000000000000001#64 })] }
    issues s (.waitany 3 1) = true ∧ issues s (.waitall 1) = true ∧ issues s (.ffready 3 2) = true ∧ issues s (.tagclr 1) = true := by
  decide +kernel

/-- Landing addresses: register code 32; VDN 8, which names nothing; VDN 7, whose position 9 is lost; g31 of slot 7 of core 63
here, also with core 5 in the route cache for it; g0 at position 7. -/
theorem witness_LandingWords :
    let home := wd (0x3FF * 2 ^ 54 + 63 * 2 ^ 34 + 7 * 2 ^ 31 + 31)
    let s := fun (w : Word) => inPod (two w 1#64)
    let lost : State := { s (wd (7 * 2 ^ 54)) with pod := { (s 0).pod with lost := [9] } }
    let cached := inPod (fun x => { two home 1#64 x with routes := [(home.extractLsb' 19 45, 5)] })
    let forms := [Instr.sendr 1 2, .sendrRl 1 2, .sendrB 1 2 3, .sendrRlB 1 2 3]
    forms.all (fun i => issues (s 32#64) i && issues (s (wd (8 * 2 ^ 54))) i && issues lost i && issues (s home) i
        && issues (s (wd (5 * 2 ^ 54))) i && issues cached i) = true
    ∧ misformed 32#64 ∧ ¬ misformed home ∧ ¬ misformed (wd (5 * 2 ^ 54)) ∧ (Tab.get 0#64 ctx0.podTab 8).getLsbD 63 = false
    ∧ (Tab.get 0#64 ctx0.podTab 7).toNat % 2 ^ 10 = 9 ∧ (Tab.get 0#64 ctx0.podTab 5).toNat % 2 ^ 10 = 7
    ∧ ((cached.slot 0).routes.find? (fun e => decide (e.1 = home.extractLsb' 19 45))).map (fun e => e.2) = some 5
    ∧ (cached.slot 0).items = [] ∧ ((s home).slot 0).routes = [] := by
  unfold misformed
  decide +kernel

theorem witness_LandingWords_registers :
    let s := running (two 1#64 2#64)
    let h : Held := { id := 4, th := { birth := 0, gen := 0#12 }, addr := 2#64, code := 2#7, val := 77#64, since := 0 }
    let w : State := { s with cores := [(0, { Core.reset with lbuf := [h] })] }
    [Instr.takeG 3 1, .takeG 1 1, .takeV 9 6, .emptyG 1, .emptyV 15, .ptestG 3 31, .ptestV 3 15, .self 3, .hreg 3 1 2].all (issues s) = true
    ∧ (s.core 0).lbuf = [] ∧ issues w (.emptyG 2) = true ∧ issues w (.takeG 3 2) = true
    ∧ (w.core 0).lbuf.find? (fun e => decide (e.th = (w.slot 0).th) && e.forReg (gcode 2)) = some h ∧ h.code.toNat = gcode 2 := by
  decide +kernel

/-- A record at the last word; into the 32nd place; into a full deque; a misaligned PC; one at the end. -/
theorem witness_ForksAndSpawns :
    let r : Task := { pc := 0, w0 := 0#64, w1 := 0#64, w2 := 0#64, w3 := 0#64, launch := 0, parent := 0#64, transit := false, stolen := false }
    let s := fun (n : Nat) (a : Word) => { running (fun x => handled (two a 2#64 x)) with
      cores := [(0, { Core.reset with deque := List.replicate n r })] }
    let here := fun (pc : Nat) => wd (0x3FF * 2 ^ 54 + 9 * 2 ^ 50 + 63 * 2 ^ 34 + pc)
    issues (s 31 60#64) (.fork 3 1 2) = true ∧ issues (s 32 60#64) (.fork 3 1 2) = true ∧ issues (s 0 62#64) (.fork 3 1 2) = true
    ∧ issues (s 0 64#64) (.fork 3 1 2) = true ∧ handles (s 0 62#64) = true ∧ handles (s 0 64#64) = true
    ∧ ((s 31 0#64).core 0).deque.length < 32 ∧ 32 ≤ ((s 32 0#64).core 0).deque.length
    ∧ [here 60, here 62, here 64, wd (0x3FF * 2 ^ 54 + 10 * 2 ^ 50), wd (8 * 2 ^ 54)].all
        (fun a => issues (s 0 a) (.spawnat 3 1 2 5) && handles (s 0 a)) = true
    ∧ (here 60).toNat / 2 ^ 50 % 2 ^ 4 = 9 := by decide +kernel

theorem witness_WorkItemsAndYield :
    let s : State := { running id with cores := [(0, { Core.reset with owner := some 0, sched := [5#32, 6#32], cursor := 1 })] }
    let e : State := { running id with cores := [(0, { Core.reset with owner := some 0, sched := [5#32, 6#32], cursor := 2 })] }
    issues s (.nextw 3) = true ∧ (s.core 0).owner = some (s.slot 0).launch ∧ (s.core 0).sched[(s.core 0).cursor]? = some 6#32
    ∧ issues e (.nextw 3) = true ∧ (e.core 0).sched.length ≤ (e.core 0).cursor ∧ issues (running id) .yield = true := by decide +kernel

/-- Launch 1 with a part on node 0, complete or not. -/
def pkt0 : LaunchPkt where
  barrier := false
  nopre := false
  seedw := false
  cls := 0
  quota := 1
  domain := 0
  mode := 1
  n := 16
  code := 0
  work := 1
  shift := 0
  fill := 0
  tvec := 1
  plate := 0#64
  first := 0
  count := 1
  args := []
  sig := 0#64
  val := 0#64
def part0 (complete : Bool) : Part :=
  { node := 0, word := 0#64, acked := true, complete := complete, sent := false, shares := [], pins := [] }
def launch0 (st : LaunchSt) (parts : List Part) : Launch :=
  { pkt := pkt0, ctx := 0, queue := 2, cls := 0, taken := 0, st := st, parts := parts, dies := [] }

theorem witness_ThreadsExit :
    let s := fun (b : Bool) => { running (fun x => { two 0#64 1#64 x with launch := 1 }) with launches := [(1, launch0 .placed [part0 b])] }
    [false, true].all (fun b => issues (s b) (.exit 1) && decide ((s b).part? 1 0 = some (part0 b))) = true
    ∧ ((s true).slot 0).dfr = none ∧ (∀ j < 4, ((s true).slot 0).failMap j = 0#64)
    ∧ nodeOfSlot ((s true).slot 0).th.birth = nodeOfSlot (s true).cur := by decide +kernel

/-- Plate spec of one unit in B-SRAM of unit 15; a reference to entry 63 of node 0. -/
def spec0 : Word := wd (15 * 2 ^ 40 + 1 * 2 ^ 36 + 1)
def ref0 : Word := wd (5 * 2 ^ 32 + 3 * 2 ^ 8 + 63)

theorem witness_PlateWordsPost :
    let s := inPod (fun x => { two ref0 0#64 x with attach := [ref0, 1#64, 2#64] }.setG 4 spec0)
    [Instr.plook 3 1 5, .pmake 3 1 4 5, .patt 3 1 5, .pattT 31 1 5, .pdet 1 5, .pseal 1 5, .pevict 1 5, .pfree 1 5].all (issues s) = true
    ∧ (s.slot 0).attach.length < 4 ∧ sameRef ref0 ((s.slot 0).rg 1) ∧ badSpec spec0 = false ∧ backingFault s 0 spec0 0#64 = none
    ∧ (s.slot 0).dfr = none ∧ cleanRef ((s.slot 0).rg 1) ∧ refAt ref0 = 0 ∧ ref0.toNat / 2 ^ 54 % 2 ^ 4 ≤ 9 ∧ ctx0.allots 0 = true := by
  unfold sameRef cleanRef
  decide +kernel

/-- Reserved bits; a node outside the allotment; no attach record; four of them; a bad spec; a backing that no window covers; a
dead tile, three ring tiles, none; the checks of EPI; a misaligned descriptor, one outside, a control word with bit 10. -/
theorem witness_CommandWordsTrap :
    let s := fun (a b : Word) (f : Slot → Slot) => inPod (fun x => f (handled (two a b x)))
    let plt := [Instr.pdet 1 5, .pseal 1 5, .pevict 1 5, .pfree 1 5]
    let four := s ref0 0#64 (fun x => { x with attach := [1#64, 2#64, 3#64, 4#64] })
    let back := wd (0x3FF * 2 ^ 42 + 0x20000)
    let dead : State := { s 0#64 0#64 (fun x => { x with owned := [7] }) with tiles := [(0, { Tile.reset with rbus := 2 })] }
    let own := fun (a b : Word) => s a b (fun x => { x with owned := [7] })
    let copies := [Instr.copy 1 2 5, .gather 1 2 5, .scatter 1 2 5, .bins 1 2 5, .mcast 1 2 5, .fillw 1 2 5]
    (s 0 0 id).power = true
    ∧ plt.all (fun i => issues (s (ref0 ||| 0x40#64) 0 id) i && issues (s (wd (1 * 2 ^ 44)) 0 id) i) = true
    ∧ ¬ cleanRef (ref0 ||| 0x40#64) ∧ cleanRef (wd (1 * 2 ^ 44)) ∧ ctx0.allots 1 = false
    ∧ issues (s ref0 0 id) (.pdet 1 5) = true ∧ ((s ref0 0 id).slot 0).attach = []
    ∧ issues four (.patt 3 1 5) = true ∧ issues four (.pattT 3 1 5) = true ∧ handles four = true
    ∧ issues (s 0#64 0#64 id) (.pmake 3 1 2 5) = true ∧ badSpec 0#64 = true
    ∧ issues (s 0#64 spec0 (fun x => x.setG 3 back)) (.pmake 3 1 2 5) = true
    ∧ backingFault (s 0 0 id) 0 spec0 back = some (0x03#8, 0x3FF * 2 ^ 42 + 0x20000, 6)
    ∧ [Instr.mmaz 5, .mma 1 2 5 1, .rfree 5].all (issues dead) = true ∧ handles dead = true
    ∧ issues (s 0 0 (fun x => { x with owned := [7, 8] })) (.mmaz 5) = true
    ∧ [Instr.mma 1 2 5 1, .rfree 5, .epi 1 2 5].all (issues (s 0 0 id)) = true ∧ handles (s 0 0 id) = true
    ∧ issues (own 0 0) (.epi 1 2 5) = true ∧ unitOf 0 0 = some 1
    ∧ issues (own 0x0800000000000000#64 0x300#64) (.epi 1 2 5) = true ∧ unitOf 8 0 = some 2
    ∧ issues (own 0xFE60000000000000#64 0#64) (.epi 1 2 5) = true ∧ (unitOf 0xFE 6).isSome = true
    ∧ copies.all (fun i => issues (s 4 0 id) i && issues (s back 0 id) i && issues (s (storePtr &&& ~~~0x1FF#64) 0x400#64 id) i) = true
    ∧ descriptorFault (s back 0 id) back 32 = some (0x3FF * 2 ^ 42 + 0x20000, 6)
    ∧ descriptorFault (s 0 0 id) (storePtr &&& ~~~0x1FF#64) 256 = none := by
  unfold cleanRef
  decide +kernel

/-- Each check of MMA's operands and layout, and of EPI's destination and table: a rejected and a scalar format as A and as B; unlike L;
extents of 0; misaligned operands; A and B outside every window; A in HBM; B in a store. A rejected destination; destinations and row
strides that are misaligned; a table that is misaligned and one outside every window; a destination in HBM. -/
theorem witness_CommandWordsTrap_operands :
    let a := planes
    let b := wd (0xFE * 2 ^ 56 + 5 * 2 ^ 52 + 0x3FF * 2 ^ 42 + 0x28000000000)
    let at_ := fun (n : Nat) => wd (0xFE * 2 ^ 56 + 5 * 2 ^ 52 + 0x3FF * 2 ^ 42 + n)
    let ones := #v[1#64, 1#64, 1#64, 1#64, 0#64, 0#64, 0#64, 0#64, 0#64, 0#64, 0#64, 0#64, 0#64]
    let s := fun (p q : Word) => inPod (fun x => handled { two p q x with owned := [7], edesc0 := ones })
    let e := fun (p t r : Word) => inPod (fun x => handled { two p 0#64 x with owned := [7], edesc1 := #v[t, r] })
    let t := s a b
    let bad := wd (0x0D * 2 ^ 56)
    [(bad, b), (a, bad), (0#64, b), (a, 0#64), (a, b + wd (2 ^ 52)), (a + 4, b), (a, b + 4), (at_ 0x20000, b), (a, at_ 0x20000), (at_ 0x1FC00, b),
      (a, a)].all (fun q => issues (s q.1 q.2) (.mma 1 2 5 1) && handles (s q.1 q.2)) = true
    ∧ (t.tile 0).rbus ≠ 2 ∧ (t.slot 0).owned ≠ [] ∧ unitOf 0x0D 0 = none ∧ unitOf 0 0 = some 1 ∧ planesFormat a ∧ planesFormat (b + wd (2 ^ 52))
    ∧ goodLayout ((t.slot 0).edesc0.toList.take 8) = true ∧ goodLayout (List.replicate 8 0#64) = false
    ∧ (a + 4).toNat % 8 ≠ 0 ∧ (b + 4).toNat % 8 ≠ 0
    ∧ (let c := aCorners (at_ 0x20000) (ones.toList.take 8); spanCheck t 0 Need.load c.1 c.2 (spanFuel c.1 c.2) = some (0x3FF * 2 ^ 42 + 0x20000, 6))
    ∧ bSpan t 0 (at_ 0x20000) (colStride t 0) 256 = some (0x3FF * 2 ^ 42 + 0x20000, 6)
    ∧ (let c := aCorners (at_ 0x1FC00) (ones.toList.take 8); spanCheck t 0 Need.load c.1 c.2 (spanFuel c.1 c.2) = none ∧ storeNode t 0 c.1 = none)
    ∧ bSpan t 0 a (colStride t 0) 256 = none ∧ goodB t 0 0 a (colStride t 0) 256 = false
    ∧ [(bad, 0#64, 0#64), (a + 4, 0#64, 0#64), (0x0800000000000000#64, 0#64, 1#64), (a, 4#64, 0#64), (a, wd (0x3FF * 2 ^ 42 + 0x20000), 0#64),
        (at_ 0x1FC00, 0#64, 0#64)].all (fun q => issues (e q.1 q.2.1 q.2.2) (.epi 1 2 5) && handles (e q.1 q.2.1 q.2.2)) = true
    ∧ epiTableFault t 0 (wd (0x3FF * 2 ^ 42 + 0x20000)) = some (0x3FF * 2 ^ 42 + 0x20000, 6) ∧ epiTableFault t 0 0#64 = none
    ∧ epiDestFault t 0 (at_ 0x1FC00) 0#64 = some (0x3FF * 2 ^ 42 + 0x1FC00, 8, 10) := by
  unfold planesFormat
  decide +kernel

/-- MMA on A at the start of core 0's store and B in the tile's first column; EPI of plane 0xFE to the store; a COPY descriptor that
ends with the store. -/
theorem witness_EngineCommandsQueue :
    let a := planes
    let b := wd (0xFE * 2 ^ 56 + 5 * 2 ^ 52 + 0x3FF * 2 ^ 42 + 0x28000000000)
    let desc := #v[1#64, 1#64, 1#64, 1#64, 0#64, 0#64, 0#64, 0#64, 0#64, 0#64, 0#64, 0#64, 0#64]
    let s := inPod (fun x => { two a b x with owned := [7], edesc0 := desc })
    let d := (s.slot 0).edesc0.toList
    let c := aCorners a (d.take 8)
    let len := kBlocks (d.take 8) * blockStride (ptrL b) (fmtS (ptrFmt b))
    let h := inPod (two (wd (0x3FF * 2 ^ 42 + lastWord - 248)) 63#64)
    [Instr.mmaz 5, .rfree 5, .mma 1 2 5 1, .epi 1 31 5, .freeb 1 5].all (issues s) = true ∧ (s.tile 0).rbus ≠ 2
    ∧ planesFormat a ∧ planesFormat b ∧ goodLayout (d.take 8) = true ∧ spanCheck s 0 Need.load c.1 c.2 (spanFuel c.1 c.2) = none
    ∧ bSpan s 0 b (colStride s 0) len = none ∧ storeNode s 0 c.1 = some 0 ∧ storeNode s 0 c.2 = some 0
    ∧ goodB s 0 0 b (colStride s 0) len = true
    ∧ epiTableFault s 0 0#64 = none ∧ epiDestFault s 0 a 0#64 = none ∧ (s.slot 0).rg 31 = 0#64
    ∧ [Instr.copy 1 2 5, .gather 1 2 5, .scatter 1 2 5, .bins 1 2 5, .mcast 1 2 5, .fillw 1 2 5].all (issues h) = true
    ∧ descriptorFault h ((h.slot 0).rg 1) 256 = none ∧ (63 : Nat) / 2 ^ 10 = 0 ∧ (63 : Nat) / 2 ^ 6 % 4 = 0 := by
  unfold planesFormat
  decide +kernel

theorem witness_DescriptorAndStatusWords :
    descriptor 0 8 ∧ descriptor 0 12 ∧ descriptor 1 1
    ∧ [Instr.eset 0 1 8, .eset 1 1 1, .eget 0 1 12, .epop 1 1, .ewait 0 1, .etest 1 1].all (issues (running (two 1#64 0#64))) = true := by
  unfold descriptor
  decide +kernel

/-- Every lane-wise form issues under the first, the INT6 and the last code. -/
theorem witness_VectorLaneResults :
    [0#64, 1#64, 8#64].all (fun e => let s := running (under e)
      [Instr.vadd 9 6 7, .vsub 9 6 7, .vmul 9 6 7, .vmad 9 6 7 3, .vmin 9 6 7, .vmax 9 6 7, .vabs 9 6, .vneg 9 6, .vadds 9 6 7,
       .vsubs 9 6 7, .vmuls 9 6 7, .vshl 9 6 7, .vshr 9 6 7, .vshra 9 6 7, .vcmpeq 9 6 7, .vcmpne 9 6 7, .vcmplt 9 6 7, .vcmple 9 6 7,
       .vsel 9 6 7 3].all (fun i => issues s i && (vectorLanes (s.slot 0) (efmt s) i).isSome && decide (efmt s < 9))) = true := by
  decide +kernel

theorem witness_VectorBitResults :
    let s := running (under 1#64)
    [Instr.vand 9 6 7, .vor 9 6 7, .vxor 9 6 7, .vandn 9 6 7, .vperm 9 6 7 3].all
      (fun i => issues s i && (vectorBits (s.slot 0) i).isSome && decide (efmt s < 9)) = true := by decide +kernel

theorem witness_VectorConversionAndQuantisation :
    let s := running (fun x => (under 8#64 x).setV 6 (BitVec.ofNat 256 0x7FC00000))
    let i := running (fun x => (under 8#64 x).setV 6 (BitVec.ofNat 256 0x7F800000))
    let f := running (fun x => (under 8#64 x).setV 6 (BitVec.ofNat 256 0x00000001))
    let vals := fun (s : State) => (List.range 8).map (fun k => laneValue 8 (lane 8 ((s.slot 0).rv 6) k))
    [Instr.vcvt 9 6 8 15, .vcvt 9 6 1 0, .vqscl 9 6 7, .vqnt 9 6 7 2, .vqnt 9 6 7 8].all (issues s) = true
    ∧ (∃ v ∈ vals s, v.isNan = true) ∧ (∀ v ∈ vals i, v.isNan = false) ∧ (∃ v ∈ vals i, v.isInf false = true)
    ∧ (vals (running (under 8#64))).all (fun v => match v with | .fin _ m _ => decide (m = 0) | _ => false) = true
    ∧ issues i (.vqscl 9 6 7) = true ∧ issues (running (under 8#64)) (.vqscl 9 6 7) = true ∧ issues f (.vqscl 9 6 7) = true
    ∧ (vals f).all (fun v => match v with | .fin _ _ _ => true | _ => false) = true
    ∧ (vals f).any (fun v => match v with | .fin _ m _ => decide (m ≠ 0) | _ => false) = true := by decide +kernel

theorem witness_DotProductsAndReductions :
    [0#64, 5#64, 6#64, 8#64].all (fun e => let s := running (under e)
      [Instr.vdot 9 6 7, .vdots 9 6 7, .vrsum 9 6, .vrmin 9 6, .vrmax 9 6].all (issues s)) = true := by decide +kernel

theorem witness_VectorTransfers :
    [0#64, 1#64, 8#64].all (fun e => let s := running (fun x => under e (two 0xFF#64 0x80#64 x))
      [Instr.vsplat 15 1, .vext 3 15 1, .vext 3 15 2, .vins 15 1 1, .vins 15 1 2].all (issues s)) = true := by decide +kernel

/-- FP32, INT6 and INT8 lanes; 1.5 and 1 between 1 and 2; 3 between powers of two; 4, a power of four. -/
theorem witness_FunctionConversions :
    [0#64, 1#64, 8#64].all (fun e => [Instr.vexp2 9 6 5, .vlog2 9 6 5, .vrcp 9 6 5, .vrsq 9 6 5].all (fun i =>
      issues (running (under e)) i && (functionForm i).isSome)) = true
    ∧ (∀ p ∈ [0x3FC00000, 0x3F800000], p % 2 ^ 31 < 0x7F800000 ∧ (Fp.ofInt 1).cmp (f32 p) ≠ .gt ∧ (f32 p).cmp (Fp.ofInt (1 + 1)) = .lt)
    ∧ (f32 0x3F800000).cmp (Fp.ofInt 1) = .eq ∧ (f32 0x3FC00000).cmp (Fp.ofInt 1) = .gt
    ∧ (∀ p ∈ [0x40400000, 0x40000000], 0 < p ∧ p < 0x7F800000 ∧ (Fp.fin false 1 1).cmp (f32 p) ≠ .gt ∧ (f32 p).cmp (.fin false 1 (1 + 1)) = .lt)
    ∧ (f32 0x40000000).cmp (.fin false 1 1) = .eq ∧ (f32 0x40800000).cmp (.fin false 1 (2 * 1)) = .eq := by
  decide +kernel

theorem witness_ReservedElementFormat :
    let s := running (fun x => handled (under 9#64 x))
    [Instr.vadd 9 6 7, .vperm 9 6 7 3, .vcvt 9 6 8 0, .vexp2 9 6 5, .vext 3 6 1, .tminit 9, .tmload 6 2 5].all
      (fun i => issues s i && usesEfmt i) = true ∧ handles s = true ∧ efmt s = 9 := by decide +kernel

/-- σ of SHAPE: the largest finite 20 bits, the first infinite; pair 1 built in, pair 2 absent; records of one and of two pairs. -/
theorem witness_MeanRecordsMergeFoldAndFinish :
    let s := fun (g p : Nat) => running (fun x => { handled x with shape := wd (g * 2 ^ 12), tmsel := wd p })
    let rec_ := fun (g p : Nat) => BitVec.ofNat 256 (g * 2 ^ 108 + p * 2 ^ 104 + 2 ^ 98)
    let m := fun (a b : Vec) => running (fun x => handled (((x.setV 6 a).setV 7 b).setV 9 a))
    ¬ wildSigma 0x7F7FF ∧ wildSigma 0x7F800 ∧ tablePresent (s 0 1) 1 ∧ ¬ tablePresent (s 0 2) 2
    ∧ [s 0x7F7FF 1, s 0x7F800 1, s 0 2].all (fun t => issues t (.tminit 9) && handles t) = true
    ∧ issues (m (rec_ 1 1) (rec_ 1 1)) (.tmmrg 9 6 7 5) = true ∧ issues (m (rec_ 1 1) (rec_ 1 2)) (.tmmrg 9 6 7 5) = true
    ∧ handles (m (rec_ 1 1) (rec_ 1 2)) = true ∧ pairOf (rec_ 1 1) ≠ pairOf (rec_ 1 2)
    ∧ [rec_ 1 1, rec_ 0x7F800 1, rec_ 1 2].all (fun r => issues (m r 0) (.tmacc 9 6 7 5) && issues (m r 0) (.tmfin 9 6 5) && handles (m r 0)) = true
    ∧ sigmaOf (rec_ 0x7F800 1) = 0x7F800 ∧ flagEmpty (rec_ 1 1) = true
    ∧ (let t := running (fun x => handled ((((under 8#64 x).setV 6 0xBF800000BF800000BF800000#256).setV 7 0x10000000100000000#256).setV 9 (rec_ 0 0)));
        termFates t 8 (rec_ 0 0) ((t.slot 0).rv 6) ((t.slot 0).rv 7) = [.trap 1, .trap 1] ∧ issues t (.tmacc 9 6 7 5) = true ∧ handles t = true
        ∧ ((List.range (laneCount 8)).filter (fun j => decide (lane 8 ((t.slot 0).rv 7) j ≠ 0)))[([] : List Fate).length]? = some 1) := by
  unfold wildSigma tablePresent
  decide +kernel

theorem witness_TableLoads :
    let s := fun (b : Nat) => inPod (fun x => (handled x).setV 6 (BitVec.ofNat 256 b))
    let words := fun (b : Nat) => (List.range 32).map (fun i => (b + 32 * i) % 2 ^ 52)
    let top := 0x3FF * 2 ^ 42 + 0x1FC00
    [top, top + 32, top - 1].all (fun b => issues (s b) (.tmload 6 2 5) && issues (s b) (.tmload 6 3 5) && handles (s b)) = true
    ∧ top % 32 = 0 ∧ (words top).all (fun w => admits (s 0) Need.load w (.mem (0x10000 + w % 2 ^ 42))) = true
    ∧ refuses (s 0) Need.load (0x3FF * 2 ^ 42 + 0x20000) 6 = true ∧ (words (top + 32)).getLast? = some (0x3FF * 2 ^ 42 + 0x20000)
    ∧ (top - 1) % 32 ≠ 0 ∧ (words (top - 1)).all (fun w => admits (s 0) Need.load w (.mem (0x10000 + w % 2 ^ 42))) = true := by
  decide +kernel

theorem witness_SystemWords :
    let s := fun (e : Word) => running (fun x => { handled x with epc := e, fcause := 0x8000000000000013#64 })
    let d := running (fun x => { handled x with epc := 60#64, dfr := some fault0 })
    [Instr.nop, .trap 1 0xFFF, .bkpt 0xFFF].all (issues (running handled)) = true ∧ handles (running handled) = true
    ∧ [60#64, 62#64, 64#64].all (fun e => issues (s e) .rte) = true ∧ issues d .rte = true ∧ (d.slot 0).dfr = some fault0
    ∧ (60 : Nat) < 4 * ((s 60).slot 0).n ∧ 4 * ((s 64).slot 0).n ≤ 64 := by decide +kernel

theorem witness_SpecialRegisters :
    let s := inPod (two 0xFFFFFFFFFFFFFFFF#64 0#64)
    [Instr.srd 3 0x001, .srd 3 0x002, .srd 3 0x003, .srd 3 0x004, .srd 3 0x005, .srd 3 0x010, .srd 3 0x019, .srd 3 0x028, .srd 3 0x038,
     .srd 3 0x050, .srd 3 0x05F, .swr 1 0x010, .swr 1 0x028, .swr 1 0x038, .swr 1 0x001, .swr 1 0x05F].all (issues s) = true
    ∧ (s.tile 0).rbus < 4 ∧ s.context (s.slot 0).ctx = some ctx0 ∧ ctx0.plateG < 16
    ∧ (∀ k < 4, ((s.slot 0).tagItems k).length ≤ 64) ∧ (s.slot 0).routes.length ≤ 16 ∧ (s.slot 0).logged ≤ 32
    ∧ (s.core 0).lbuf.length ≤ 32 := by decide +kernel

/-- One state for each check of R75, and one for R382. -/
theorem witness_WordsPark :
    let w : Win := { id := 9, count := 0, dests := 8#48 }
    let waits : Req := { req0 with stage := .waiting 0 }
    let s := fun (f : Slot → Slot) (l : List Req) => { running (fun x => f (handled (two 1#64 2#64 x))) with reqs := l }
    let look := s (fun x => { x with wins := [w] }) []
    let word := s (fun x => { x with wins := [w] }) [waits]
    let far := s (fun x => { x with wins := [w] }) [{ req0 with stage := .sent 0, tgt := .remote 7, listed := true }]
    let reg := s (fun x => { x with pend := 8#48 }) []
    let early := s (fun x => { x with pend := 8#48, wins := [{ w with count := 1 }] }) []
    let acc := s (fun x => { x with accs := [{ acc0 with plt := true }] }) []
    let accw := s (fun x => { x with accs := [{ acc0 with plt := true }] }) [waits]
    let tag := s id []
    let bad := s (fun x => { x with rerr := 2#48 }) []
    (look.slot 0).wins.any (fun w => decide (w.count = 0)) = true ∧ look.reqs = []
    ∧ (word.slot 0).wins = [w] ∧ waits ∈ word.reqs ∧ waits.acc = w.id
    ∧ (far.slot 0).wins = [w] ∧ (far.reqs.map (fun q => (q.acc, q.stage, q.listed))) = [(9, .sent 0, true)]
    ∧ 3 ∈ (usesOf (.add 3 1 2)).writes ∧ inMask (reg.slot 0).pend 3 = true
    ∧ (usesOf (.add 3 1 2)).writes = [3] ∧ (early.slot 0).wins = [{ w with count := 1 }] ∧ inMask (early.slot 0).pend 3 = true
    ∧ inMask (8#48) 3 = true ∧ (early.slot 0).replay = none ∧ (∀ r ∈ [1, 2], inMask (early.slot 0).pend r = false ∧ inMask (early.slot 0).pres r = true)
    ∧ accessBlock (acc.slot 0) (usesOf (.plook 3 1 0)).access = true ∧ acc.reqs = [] ∧ (acc.slot 0).wins = []
    ∧ accessBlock (accw.slot 0) (usesOf (.plook 3 1 0)).access = true ∧ acc0.id = waits.acc
    ∧ waitBlock tag 0 (usesOf (.waitany 3 1)).wait = some .tag ∧ accessBlock (tag.slot 0) (usesOf (.waitany 3 1)).access = false
    ∧ (usesOf (.add 3 1 2)).reads = [1, 2] ∧ inMask (bad.slot 0).rerr 1 = true ∧ handles bad = true
    ∧ waitBlock bad 0 (usesOf (.add 3 1 2)).wait = none := by decide +kernel

theorem witness_UnhandledTraps :
    let s := fun (b : Bool) => { running (fun x => { x with launch := 1 }) with launches := [(1, launch0 .placed [part0 b])] }
    let a : State := { running (fun x => { x with accs := [acc0] }) with reqs := [req0] }
    [false, true].all (fun b => issues (s b) (.trap 1 5) && !handles (s b) && decide ((s b).part? 1 0 = some (part0 b))) = true
    ∧ ((s true).slot 0).accs = [] ∧ issues a (.trap 1 5) = true ∧ handles a = false ∧ acc0 ∈ (a.slot 0).accs ∧ req0 ∈ a.reqs
    ∧ req0.acc = acc0.id ∧ req0.stage.isReplied = false := by decide +kernel

/-- A turn of slot 0 on ADD g3, g1, g2; an event; an empty schedule. -/
theorem witness_StepRunsTheDecodedWord :
    let t : State := { running (two 1#64 2#64) with agenda := [.turn 0], mem := Memory.writeNat [] (codeBase 0 0) 4 0x04611001 }
    let e : State := { running id with agenda := [.event .placementRetry] }
    let a := codeBase (tileOfSlot 0) (t.slot 0).bank + (t.slot 0).pc
    t.power = true ∧ t.pipe = [] ∧ (t.slot 0).turnAt ≠ t.cycle + 1 ∧ (t.slot 0).st = .running ∧ (t.node 0).level ≤ t.cycle / 8 % 8
    ∧ decode [Memory.byte t.mem a, Memory.byte t.mem (a + 1), Memory.byte t.mem (a + 2), Memory.byte t.mem (a + 3)] = .ok (.add 3 1 2)
    ∧ (match exec (.add 3 1 2) (({ t with agenda := [], cur := 0 } : State).updSlot 0 (fun y => { y with turnAt := t.cycle + 1 })) with
        | .next u => decide ((u.slot 0).rg 3 = 3#64) | _ => false) = true
    ∧ runsInTurn .placementRetry = false ∧ (match exec .placementRetry { e with agenda := [] } with | .next _ => true | _ => false) = true
    ∧ State.reset.agenda = [] := by decide +kernel

theorem witness_WordsRoundTrip :
    Instr.isWord (.swr 31 0x038) = true ∧ WellFormed (.swr 31 0x038) = true ∧ decode (wordBytes 0x04611001#32) = .ok (.add 3 1 2) := by
  decide

/-- Words in each state at the end of core 0's store; parts of a word; pairs and fours of words that are FULL but for one; a word
that is no local-store word; records of one pair and of two. -/
theorem witness_WordStateRules :
    let s := fun (v : BitVec 2) => State.reset.setWordState lastWord v
    let one : Vec := BitVec.ofNat 256 (2 ^ 104)
    [0#2, 1#2, 2#2, 3#2].all (fun v => decide ((s v).wordState lastWord = v)) = true ∧ isStore lastWord = true ∧ lastWord % 8 = 0
    ∧ State.reset.bad = [] ∧ State.reset.corr = [] ∧ isStore 0x1FFFFFFFFF8 = false ∧ 0x1FFFFFFFFF8 % 8 = 0
    ∧ (∀ k ∈ [1, 2, 4, 8], (8 - k) + k ≤ 8 ∧ (8 - k) % k = 0)
    ∧ isStore (lastWord - 8) = true ∧ (lastWord - 8) % 16 = 0 ∧ isStore (lastWord - 24) = true ∧ (lastWord - 24) % 32 = 0
    ∧ (∀ k < 2, State.reset.wordState (lastWord - 8 + 8 * k) = 1#2) ∧ (∀ k < 4, State.reset.wordState (lastWord - 24 + 8 * k) = 1#2)
    ∧ [0#2, 2#2, 3#2].all (fun v => decide ((s v).wordState (lastWord - 8 + 8 * 1) = v ∧ (s v).wordState (lastWord - 24 + 8 * 3) = v)) = true
    ∧ pairOf 0 = pairOf 0 ∧ sigmaOf 0 = sigmaOf one ∧ pairOf 0 ≠ pairOf one := by decide +kernel

theorem witness_StepsKeepTheMemoryForm :
    MemoryForm State.reset ∧ (match step State.reset with | .next _ => true | _ => false) = true := by
  unfold MemoryForm
  decide +kernel

/-- Thread 0 of slot 0, and of slot 8 (core 1). -/
def th0 : Thread := { birth := 0, gen := 0#12 }
def th8 : Thread := { birth := 8, gen := 0#12 }
/-- The machine with these requests. -/
def withReqs (s : State) (l : List Req) : State := { s with reqs := l }
/-- A result of the function pipeline or mean stage for v15 of slot 0. -/
def pipe0 (id : Nat) (mean : Bool) : Pipe := { id := id, due := 7, sl := 0, th := th0, mean := mean, dest := 15, val := 1#256 }

/-- A replay register full, pending; the last cycle before and of drain; results of both pipes. -/
theorem witness_SlotEvents :
    let w := running (fun x => { x with replay := some 47 })
    let p := running (fun x => { x with replay := some 3, pend := 8#48 })
    let f := running (fun x => handled { x with tfault := some fault0 })
    let late := fun (g : Slot → Slot) => running (fun x => g (handled { x with tfault := some fault0 }))
    let stuck := [late (fun x => { x with st := .parked, reason := .reg }), late (fun x => { x with drain := true })]
    let k : State := { running (fun x => handled { two 1#64 2#64 x with st := .parked, reason := .reg }) with
      mem := Memory.writeNat [] (codeBase 0 0) 4 0x04611001 }
    let d : State := { running (fun x => { x with pre := some 0, items := [item 3 0 0 false] }) with cycle := 4096 }
    let e : State := { running (fun x => { x with wins := [{ id := 5, count := 3, dests := 0x800000000000#48 }] }) with
      cycle := 7, pipe := [pipe0 4 true, pipe0 5 false] }
    (w.slot 0).ending = none ∧ inMask (w.slot 0).pres 47 = true ∧ inMask (w.slot 0).pend 47 = false ∧ fullSpeed w 0
    ∧ (p.slot 0).replay = some 3 ∧ inMask (p.slot 0).pend 3 = true ∧ (State.reset.slot 5242879).st = .free
    ∧ (f.slot 0).tfault = some fault0 ∧ handles f = true ∧ f.cur = 0 ∧ (f.slot 0).st ≠ .parked ∧ (f.slot 0).drain = false
    ∧ (∀ t ∈ stuck, ((t.slot 0).st = .parked ∨ (t.slot 0).drain = true) ∧ (t.slot 0).tfault = some fault0 ∧ handles t = true ∧ t.cur = 0)
    ∧ (k.slot 0).st = .parked ∧ (k.slot 0).reason ≠ .idle ∧ fetch k 0 = .ok (.add 3 1 2) ∧ issues k (.add 3 1 2) = true
    ∧ (d.slot 0).pre = some 0 ∧ 0 + 4096 ≤ d.cycle ∧ (d.slot 0).drain = false ∧ ((d.slot 0).tagItems 3).length = 1
    ∧ FirstIn (fun q => q.sl = 0 ∧ q.mean = false ∧ q.due ≤ e.cycle) e.pipe [pipe0 4 true] (pipe0 5 false) []
    ∧ FirstIn (fun q => q.sl = 0 ∧ q.mean = true ∧ q.due ≤ e.cycle) e.pipe [] (pipe0 4 true) [pipe0 5 false]
    ∧ (e.slot 0).th = th0 := by
  unfold fullSpeed FirstIn
  decide +kernel

/-- A request in the port to a store, to HBM with just the tokens it costs and with none, and to another module; in its route
set; in a bank queue with its word FULL and EMPTY; refused by a full list; replied, with and without a fault. -/
theorem witness_RequestEvents :
    let at_ := fun (tgt : Target) (st : Stage) => { req0 with tgt := tgt, stage := st }
    let b : State := { running id with nodes := [(0, { Node.reset with buckets := [(0, { hbm := 1, fab := 1, hbmAct := false, fabAct := false })] })] }
    let far : Req := { at_ (.remote 7) .outbound with loc := 8, op := .storeV 0 }
    let m : State := { inPod id with nodes := b.nodes, reqs := [far] }
    let q : Req := { at_ (.store 0 8#4) .queued with op := .load 8 1#2 }
    let full := withReqs (running id) [q]
    let empty := full.setWordState lastWord 0#2
    let done := fun (f : Option FaultInfo) (x : Slot) => withReqs (running (fun _ => x)) [at_ (.store 0 8#4) (.replied 1#256 f)]
    let x := fun (r : Bool) => ((running id).slot 0) |> fun y => { y with accs := [{ acc0 with relaxed := r }] }
    req0.own = .slot 0 th0 ∧ req0.stage = .outbound ∧ req0.rl = false ∧ req0.tgt = .store 0 8#4
    ∧ (b.bucket 0 0).hbm = max 1 ((req0.op.size + 63) / 64) ∧ ((running id).bucket 0 0).hbm < 1
    ∧ far.tgt = .remote 7 ∧ far ∈ m.reqs ∧ 7 ∉ m.pod.lost ∧ max 1 ((far.op.size + 63) / 64) ≤ (m.bucket 0 far.ctx).fab
    ∧ (withReqs (running id) [at_ (.store 0 8#4) .route]).req? 9 = some (at_ (.store 0 8#4) .route) ∧ req0.op.isLanding = false
    ∧ full.req? 9 = some q ∧ full.bad = [] ∧ full.corr = [] ∧ full.cores = []
    ∧ (∀ w ∈ wordsOf q.op q.loc, q.op.blockedBy (full.wordState w) = false)
    ∧ empty.req? 9 = some q ∧ (∃ w ∈ wordsOf q.op q.loc, q.op.blockedBy (empty.wordState w) = true)
    ∧ (empty.core 0).waitl.length < 64 ∧ (at_ (.store 0 8#4) (.retry 0)).stage = .retry 0
    ∧ (∀ r : Bool, (x r).accs.find? (fun a => decide (a.id = 9)) = some { acc0 with relaxed := r } ∧ (x r).dfr = none
        ∧ (done none (x r)).req? 9 = some (at_ (.store 0 8#4) (.replied 1#256 none))
        ∧ (done (some fault0) (x r)).req? 9 = some (at_ (.store 0 8#4) (.replied 1#256 (some fault0))))
    ∧ acc0.left = 1 ∧ acc0.fault = none ∧ acc0.data = [] ∧ acc0.dest = .g 3 ∧ acc0.fill = .zx 8 := by
  decide +kernel

/-- A store to another module behind an unsettled one to its bytes; a request of another module at the port, and a port whose
bucket covers it; a word that becomes FULL before a load, which the walk performs, and before an ATMERGE of which the other word is
EMPTY, which misses, at its limit and before it; a walk at a load. -/
theorem witness_RequestEvents_ways :
    let b : State := { running id with nodes := [(0, { Node.reset with buckets := [(0, { hbm := 1, fab := 1, hbmAct := false, fabAct := false })] })] }
    let r : Req := { req0 with tgt := .remote 7, loc := 8, op := .storeV 0 }
    let q : Req := { r with id := 7, acc := 7, relaxed := true, stage := .sent 0 }
    let p : Req := { req0 with own := .remote 7 1 2 0, stage := .port }
    let w := lastWord
    let sf : Req := { req0 with op := .store 8 1#2 5#64, stage := .queued }
    let load : Req := { req0 with id := 10, acc := 10, op := .load 8 1#2, stage := .waiting 0 }
    let merge := fun (m n : Nat) => { load with op := .amo 0x0D#6 0 0 0, loc := w - 8, misses := m, limit := n }
    let at_ := fun (l : Req) => ({ ((withReqs (running id) [sf, l]).setWordState w 0#2).setWordState (w - 8) 0#2 with
      cores := [(0, { Core.reset with waitl := [10] })] } : State)
    let after := fun (s : State) => (performOp s sf.node sf.op sf.loc).st
    let walk : State := { withReqs (running id) [load] with
      cores := [(0, { Core.reset with waitl := [10], walks := [{ word := w, rest := [10], again := false }] })] }
    q.ofSlot 0 = true ∧ q.id < r.id ∧ q.acc ≠ r.acc ∧ q.stage.isReplied = false ∧ q.op.isLanding = false ∧ r.op.isLanding = false
    ∧ overlaps q.op q.loc r.op r.loc = true ∧ r.stage = .outbound ∧ r.own = .slot 0 th0
    ∧ (withReqs b [p]).req? 9 = some p ∧ p.src % nodeCount = 0 ∧ max 1 ((p.op.size + 63) / 64) ≤ (b.bucket 0 0).hbm
    ∧ ((running id).bucket 0 0).hbm < max 1 ((p.op.size + 63) / 64)
    ∧ (∀ l ∈ [load, merge 254 256, merge 255 256], let s := at_ l
        s.req? 9 = some sf ∧ wordsOf sf.op sf.loc = [w] ∧ sf.op.blockedBy (s.wordState w) = false ∧ s.bad = [] ∧ s.corr = []
          ∧ (s.core 0).waitl = [10] ∧ (s.core 0).walks = [] ∧ performable s 0 l = false ∧ sf.item = none ∧ isStore w = true
          ∧ (after s).wordState w ≠ s.wordState w ∧ s.req? 10 = some l ∧ touches l w = true)
    ∧ (let s := at_ load; performable ((after s).stageReq 9 (.replied 0#256 none)) 0 load = true)
    ∧ (∀ l ∈ [merge 254 256, merge 255 256], performable ((after (at_ l)).stageReq 9 (.replied 0#256 none)) 0 l = false)
    ∧ 254 + 1 < 256 ∧ 256 ≤ 255 + 1
    ∧ walk.req? 10 = some load ∧ load.tgt.storeCore = some 0 ∧ performable walk 0 load = true ∧ touches load w = true
    ∧ walk.bad = [] ∧ walk.corr = [] := by decide +kernel

/-- The last reply of each kind of access, one before the last, a chunk of zeros, and the replies of TMLOAD. -/
theorem witness_RequestEvents_replies :
    let acc := fun (dest : Dest) (fill : Fill) (n : Nat) => { acc0 with dest := dest, fill := fill, left := n }
    let s := fun (a : Acc) (part : Nat) (f : Option FaultInfo) =>
      withReqs (running (fun x => { x with accs := [a] })) [{ req0 with part := part, stage := .replied 0#256 f }]
    let planes : Block := { f := 0xFF, l := 5, base := 8, e := 0, c := 0 }
    (∀ a ∈ [acc (.v 15) .vec 1, acc (.gg 31) .plate 1, acc (.g 31) .plate 1, acc .none .plate 1, acc (.g 31) .status 1, acc (.g 3) (.zx 8) 2,
        acc (.v 15) (.planes 0xFF#8 5 0 0 8) 1, acc .none (.table 0 3 0) 1, acc .none (.table 0 3 0) 0], ∀ part ∈ [0, 31, 32], ∀ f ∈ [none, some fault0],
      (s a part f).req? 9 = some { req0 with part := part, stage := .replied 0#256 f }
        ∧ ((s a part f).slot 0).accs.find? (fun b => decide (b.id = 9)) = some a ∧ a.fault = none ∧ ((s a part f).slot 0).ending = none)
    ∧ req0.item = none ∧ planes.legal ∧ (∀ k ∈ List.range 9, (Tab.get 0#256 ((0, 0#256) :: acc0.data) k).toNat = 0)
    ∧ (∀ w, eightBytes (fun _ => 0#8) w = 0) := by
  unfold Block.legal
  exact ⟨by decide +kernel, rfl, by decide, by decide, fun _ => by simp [eightBytes, sumNat, List.range, List.range.loop]⟩

/-- A marker of an item; a summary of this module's node, of a lost module, of a live one; a summary that has been answered. -/
theorem witness_SettlementEvents :
    let a := fun (p : Peer) (st : Asked) => ({ tag := 3, peer := p, upto := 1, st := st } : Ask)
    let s := fun (l : List Ask) => inPod (fun x => { x with items := [{ item 3 0 0#8 true with marker := 1 }], asked := l })
    ((s []).slot 0).items.all (fun i => decide (i.left = 0 ∧ i.hint = false ∧ i.marker = 1)) = true ∧ (s []).reqs = []
    ∧ (∀ p ∈ [Peer.node 0, Peer.module 11, Peer.module 7],
        FirstIn (fun b : Ask => b.tag = (3#2).toNat ∧ b.peer = p ∧ b.st = .sent) ((s [a p .answered, a p .sent]).slot 0).asked
          [a p .answered] (a p .sent) []
        ∧ FirstIn (fun b : Ask => b.tag = (3#2).toNat ∧ b.peer = p ∧ b.st = .answered) ((s [a p .sent, a p .answered]).slot 0).asked
          [a p .sent] (a p .answered) [])
    ∧ 11 ∈ (s []).pod.lost ∧ 7 ∉ (s []).pod.lost := by
  unfold FirstIn
  decide +kernel

/-- A landing for the last lane code of slot 0's thread, sent by slot 8 as item 63 of tag 3. -/
def land0 : Req :=
  { req0 with own := .slot 8 th8, op := .landing 5#64 none false, ea := 127#64, tgt := .landing 0, item := some (3, 63), stage := .route }

/-- The target empty, full with a buffer of 31 and of 32 values, gone; a value held for 1,750,000 cycles; a log of 31 and of 32
entries; a hint and an invalidation. -/
theorem witness_LandingEvents :
    let s := fun (f : Slot → Slot) (l : List Held) =>
      { withReqs (running f) [land0] with cycle := 1, cores := [(0, { Core.reset with lbuf := l })] }
    let h : Held := { id := 4, th := th0, addr := 127#64, code := 127#7, val := 1#64, since := 0 }
    let empty := fun (x : Slot) => { x with pres := 0#48 }
    let gone := fun (x : Slot) => { x with st := .free }
    let w : Away := { th := th0, st := .saved, recNo := 0, spills := [], ctx := 0, launch := 0, slot := 0, from_ := 0, code := none }
    let logged := fun (k : Nat) => ({ withReqs (inPod gone) [{ land0 with stage := .log }] with
      cores := [(0, { Core.reset with away := [w] })], mem := Memory.writeNat [] (0x80000 + 0x578) 8 k } : State)
    let hint := fun (c : Option Nat) => ({ id := 9, own := .slot 0 th0, posted := false, handle := 1#45, core := c, item := some (3, 0) } : Hint)
    (s id []).cycle % 8 ≠ 0 ∧ (∀ k ∈ [31, 32], ((logged k).node 0).hartAt ≤ (logged k).cycle
        ∧ Tab.look ((logged k).node 0).harts ((logged k).cycle % 8) = none ∧ (logged k).reqs.length = 1)
    ∧ land0.op = .landing 5#64 none false ∧ (s id []).req? 9 = some land0 ∧ ((s id []).node 0).landHead = none ∧ 9 ≤ land0.stamp
    ∧ addrThread land0.ea = th0 ∧ land0.ea.toNat % 2 ^ 7 = 127 ∧ landSlot 127 = 47
    ∧ ((s empty []).slot 0).holds th0 = true ∧ inMask ((s empty []).slot 0).pres 47 = false ∧ inMask ((s empty []).slot 0).pend 47 = false
    ∧ ((s id (List.replicate 31 h)).slot 0).holds th0 = true ∧ inMask ((s id []).slot 0).pres 47 = true
    ∧ ((s id (List.replicate 31 h)).core 0).lbuf.length + ((s id (List.replicate 31 h)).core 0).reserve < 32
    ∧ ¬ ((s id (List.replicate 32 h)).core 0).lbuf.length + ((s id (List.replicate 32 h)).core 0).reserve < 32
    ∧ ((s gone []).slot 0).holds th0 = false ∧ ((s gone []).core 0).away = []
    ∧ ({ s id [{ h with id := 9 }] with cycle := 1750000 }.core 0).lbuf.find? (fun e => decide (e.id = 9)) = some { h with id := 9 }
    ∧ (∀ k ∈ [31, 32], (logged k).req? 9 = some { land0 with stage := .log }
        ∧ ((logged k).core (homeCore land0.ea)).away.find? (fun a => decide (a.th = addrThread land0.ea)) = some w
        ∧ Memory.readNat (logged k).mem (recordAddr (logged k) 0 0 + 0x578) 8 % 64 = k ∧ (logged k).bad = [])
    ∧ ({ State.reset with hints := [hint (some 5)] } : State).hints.find? (fun k => decide (k.id = 9)) = some (hint (some 5))
    ∧ (hint (some 5)).core.isSome = true ∧ (hint none).core = none ∧ (hint none).own = .slot 0 th0 ∧ (State.reset.slot 0).th = th0 := by
  decide +kernel

/-- An IDLE slot of launch 1 with a record below one in transit, and a FREE slot with none IDLE; a slot that probes; a probed core
with and without a record; a full and a not full thief; a round over and not over; an answer of both kinds; a spawned record at
a core with and without a slot of its launch, its deque full and not full. -/
theorem witness_TaskEvents :
    let idle := fun (x : Slot) => { x with st := .parked, reason := .idle, launch := 1 }
    let r : Task := { pc := 60, w0 := 1#64, w1 := 2#64, w2 := 3#64, w3 := 4#64, launch := 1, parent := 5#64, transit := false, stolen := true }
    let moving := { r with transit := true }
    let l := launch0 .placed [part0 false]
    let m := fun (f : Slot → Slot) (c0 c1 : Core) => ({ running f with cores := [(0, c0), (1, c1)], launches := [(1, l)] } : State)
    let c := Core.reset
    let d := { c with deque := [r, r, moving] }
    let s := m idle d c
    let f : State := { State.reset with
      cores := [(0, d)], launches := [(1, l)], tiles := [(0, { Tile.reset with hold0 := some { launch := 1, loaded := true } })] }
    let pk : LaunchPkt := { pkt0 with domain := 1 }
    let probing : State := { m idle c c with launches := [(1, { l with pkt := pk })] }
    let deque := fun (n : Nat) => { c with deque := List.replicate n r }
    let sp : Req := { req0 with op := .spawn r, tgt := .deque 1, stage := .queued, own := .slot 8 th8 }
    let asked := fun (c1 : Core) => m idle { c with probe := some (.asked 0 1 ([1] :: [[2]])) } c1
    let took := fun (n : Nat) => m idle { deque n with probe := some (.record 0 1 [] 1 r) } c
    IdleOf (s.slot 0) 1 ∧ (s.core 0).deque = [r] ++ r :: [moving] ∧ s.launch? 1 = some l
    ∧ (f.slot 0).st = .free ∧ f.slots = [] ∧ (f.tile 0).hold0 = some { launch := 1, loaded := true } ∧ (f.tile 0).hold1 = none
    ∧ IdleOf (probing.slot 0) 1 ∧ (probing.slot 0).retryAt ≤ probing.cycle ∧ (probing.core 0).probe = none ∧ (probing.core 0).deque = []
    ∧ ((asked d).core 0).probe = some (.asked 0 1 ([1] :: [[2]]))
    ∧ FirstIn (fun q : Task => q.transit = false ∧ q.launch = 1) ({ d with deque := [moving, r] }).deque [moving] r []
    ∧ (∀ q ∈ ({ d with deque := [moving] }).deque, q.transit = true ∨ q.launch ≠ 1)
    ∧ (∀ n ∈ [31, 32], ((took n).core 0).probe = some (.record 0 1 [] 1 r) ∧ ((took n).core 0).deque.length = n)
    ∧ (∀ rest ∈ [[], [[2]]], ((m idle { c with probe := some (.empty 0 1 rest) } c).core 0).probe = some (.empty 0 1 rest))
    ∧ (∀ ok : Bool, ((m idle { c with answers := [(1, r, ok)] } { d with deque := [r, moving] }).core 0).answers = (1, r, ok) :: [])
    ∧ FirstIn (fun q => q = { r with transit := true }) [r, moving] [r] moving []
    ∧ (∀ n ∈ [31, 32], ((m idle (deque n) c).core 0).deque.length = n ∧ ((m idle (deque n) c).slot 0).launch = r.launch
        ∧ ((m idle (deque n) c).slot 0).st ≠ .free)
    ∧ (withReqs State.reset [sp]).req? 9 = some sp ∧ sp.item = none ∧ State.reset.slots = [] := by
  unfold FirstIn IdleOf
  decide +kernel

/-- A part complete with no share left; the last slot IDLE; a node below the root, and the root. -/
theorem witness_LaunchEndEvents :
    let idle := fun (x : Slot) => { x with st := .parked, reason := .idle, launch := 1 }
    let h : Share := { core := 63, slots := 8, ord := 0, items := [], owns := true, seeded := true }
    let p : Part := { part0 false with shares := [h] }
    let s : State := { running idle with launches := [(1, launch0 .placed [p])] }
    let up : Part := { part0 true with node := 7, word := 0x02FFFFFF00FFFFFF#64 }
    let low : Part := { part0 true with word := 0x0100000100010001#64 }
    let l := { launch0 .placed [up, low] with pkt := { pkt0 with sig := 0x7FFFFFFFFFFFFFF0#64, val := 5#64 } }
    let t : State := { State.reset with launches := [(1, l)] }
    let r : State := { State.reset with launches := [(1, { l with parts := [up, { low with sent := true }] })] }
    s.part? 1 0 = some p ∧ p.complete = false ∧ p.pins = [] ∧ h.seeded = true ∧ IdleOf (s.slot 0) 1 ∧ s.cores = []
    ∧ allCmds s = [] ∧ s.contribs = []
    ∧ t.launch? 1 = some l ∧ l.st = .placed ∧ FirstIn (fun q : Part => q.node = 0) l.parts [up] low [] ∧ low.complete = true
    ∧ low.sent = false ∧ (l.parts.drop ((1 - 1) / 4)).head? = some up ∧ up.node ≠ 0 ∧ l.parts.length = 2
    ∧ r.launch? 1 = some { l with parts := [up, { low with sent := true }] }
    ∧ FirstIn (fun q : Part => q.node = 7) [up, { low with sent := true }] [] up [{ low with sent := true }]
    ∧ up.sent = false ∧ l.pkt.sig ≠ 0#64 ∧ l.pkt.sig.toNat < 2 ^ 63 ∧ l.pkt.sig.toNat % 16 = 0 := by
  unfold FirstIn IdleOf
  decide +kernel

/-- A command of slot 0; planes of one stored bit in blocks of 32. -/
def cmd0 (kind : CmdKind) : Cmd where
  id := 3
  kind := kind
  sl := 0
  th := th0
  ctx := 0
  launch := 0
  pca := 0
  a := wd (0x80 * 2 ^ 56 + 5 * 2 ^ 52 + 0x3FF * 2 ^ 42 + 0x20000000000)
  b := wd (0x80 * 2 ^ 56 + 5 * 2 ^ 52 + 0x3FF * 2 ^ 42 + 0x20000001000)
  desc := [1#64, 1#64, 1#64, 1#64, 0#64, 0#64, 0#64, 0#64]
  sg := 3#2
  rt := 5
  mode := true
  nextJ := 0
  nextR := 0

/-- A ring tile with accumulators of the largest number. -/
def ring0 (mode : Bool) : Ring := { rt := 5, mode := mode, poison := false, acc := Vector.replicate 256 0x7FFFFFFF#32, th := th0 }

/-- NextUp, as a test. -/
def upNext (s : State) (tile rot m : Nat) (q : Core → List Cmd) (c : Cmd) (rest : List Cmd) : Bool :=
  decide (m < 4) && decide (∀ k < m, q (s.core (4 * tile + (rot + k) % 4)) = [])
    && decide (q (s.core (4 * tile + (rot + m) % 4)) = c :: rest) && decide (∀ d ∈ rest, d.id ≠ c.id)

theorem upNext_sound {s : State} {tile rot m : Nat} {q : Core → List Cmd} {c : Cmd} {rest : List Cmd}
    (h : upNext s tile rot m q c rest = true) : NextUp s tile rot m q c rest := by
  simp only [upNext, Bool.and_eq_true, decide_eq_true_eq] at h
  exact ⟨h.1.1.1, h.1.1.2, h.1.2, h.2⟩

/-- A latched command, a stopped one, and a pre-empted slot's, before a queue of three; the fourth core's command next, a FREE
place 1, a tile that no slot owns; an EPI to take, its first write and its second, onto a POISON word, and its end. -/
theorem witness_EngineEvents :
    let c := cmd0
    let q := fun (f : Core → Core) => ({ running id with cores := [(3, f Core.reset)] } : State)
    let busy := fun (f : Slot → Slot) => ({ running f with
      cores := [(0, { Core.reset with q0 := List.replicate 3 { c .mma with id := 1 } })] } : State)
    let latched := busy (fun x => { x with latch := some (c .mma), accs := [{ acc0 with id := 4 }], th := th0 })
    let again := busy (fun x => { x with stopped := [c .mma] })
    let back := busy (fun x => { x with latch := some (c .mma), pre := some 0, stopped := [{ c .mmaz with id := 0 }], th := th0 })
    let taken := fun (k : CmdKind) (own : Bool) (p : Fin 8) => ({ running (fun x => { x with owned := if own then [5] else [] }) with
      cores := [(3, { Core.reset with q0 := [c k] })],
      tiles := [(0, { Tile.reset with ring := Tile.reset.ring.set p (some { ring0 true with rt := 9 }) })] } : State)
    let ec := { c .epi with desc := [0#64, 0#64] }
    let e := fun (n : Nat) => ({ cmd := ec, tw := [], writes := n, psn := false, bad := false, busy := false } : EpiJob)
    let epi := fun (n : Nat) => ({ running id with
      cycle := 1, tiles := [(0, { Tile.reset with epi := some (e n), ring := Tile.reset.ring.set 7 (some (ring0 true)) })] } : State)
    (∀ s ∈ [latched, back], (s.slot 0).latch = some (c .mma)) ∧ (queueFor (latched.core 0) .mma).length < 4
    ∧ (latched.slot 0).pre = none ∧ (latched.slot 0).stopped = [] ∧ latched.reqs = [] ∧ (c .mma).id ≤ 4
    ∧ (again.slot 0).stopped = [c .mma] ∧ (again.slot 0).latch = none ∧ (again.slot 0).pre = none ∧ (again.slot 0).accs = []
    ∧ (back.slot 0).pre.isSome = true ∧ (c .mma).sl = 0 ∧ (c .mma).th = (back.slot 0).th
    ∧ (∀ d ∈ (back.core 0).q0 ++ (back.core 0).q1, d.kind.engine ≠ 2)
    ∧ upNext (q (fun k => { k with q0 := [c .mma] })) 0 0 3 Core.q0 (c .mma) [] = true ∧ Tile.reset.burin = none
    ∧ Tile.reset.burinAt ≠ (running id).cycle + 1
    ∧ ((taken .mmaz true 0).tile 0).ring.get 1 = none ∧ ((taken .mmaz true 0).tile 0).ring.get 0 ≠ none
    ∧ (∃ e ∈ (taken .mmaz true 0).slots, 5 ∈ e.2.owned) ∧ upNext (taken .mmaz true 0) 0 0 3 Core.q0 (c .mmaz) [] = true
    ∧ (∀ e ∈ (taken .rfree false 0).slots, 5 ∉ e.2.owned) ∧ upNext (taken .rfree false 0) 0 0 3 Core.q0 (c .rfree) [] = true
    ∧ (∀ d ∈ allCmds ((taken .rfree false 0).updCore 3 (fun k => { k with q0 := [] })), d.kind.engine ≠ 2 → d.rt ≠ 5)
    ∧ upNext (q (fun k => { k with q1 := [c .epi] })) 0 0 3 Core.q1 (c .epi) [] = true
    ∧ (∀ d ∈ allCmds (q (fun k => { k with q1 := [c .epi] })), d.kind ≠ .mma)
    ∧ (∀ n ∈ [0, 1, 24], ((epi n).tile 0).epi = some (e n)) ∧ ((epi 0).tile 0).ring.get 7 = some (ring0 true) ∧ (ring0 true).rt = ec.rt
    ∧ (∀ j : Fin 8, j ≠ 7 → ((epi 0).tile 0).ring.get j = none) ∧ epiCount (ec.a.toNat / 2 ^ 56) = 24 ∧ ec.desc[0]?.getD 0#64 = 0#64
    ∧ (∀ n ∈ [0, 1], isStore ((epilogueWrite ec n).1 % 2 ^ 42) = true) ∧ (epilogueWrite ec 0).2 = 8 ∧ (epilogueWrite ec 1).2 < 8
    ∧ poisoned (((epi 1).setWordState ((epilogueWrite ec 1).1 % 2 ^ 42) 2#2).wordState ((epilogueWrite ec 1).1 % 2 ^ 42)) = true
    ∧ (epi 0).cores = [] ∧ (epi 0).bad = [] ∧ (epi 0).corr = [] ∧ ((epi 24).slot 1).st = .free := by
  decide +kernel

/-- A latched command of engine 2 of a pre-empted slot, before an MMA that has been stopped. -/
theorem witness_EngineEvents_beside :
    let s := running (fun x => { x with latch := some (cmd0 .copy), pre := some 0, stopped := [cmd0 .mma], th := th0 })
    (s.slot 0).latch = some (cmd0 .copy) ∧ (s.slot 0).stopped = [cmd0 .mma] ∧ (s.core 0).q2 = [] ∧ (s.slot 0).accs = []
    ∧ (s.slot 0).th = (cmd0 .mma).th ∧ (s.slot 0).pre = some 0 := by decide +kernel

/-- The last word of a block in both modes; an MMA that waits for a word and one that does not; an MMA at its end, and at a boundary
with its slot marked. -/
theorem witness_EngineEvents_steps :
    let c := cmd0 .mma
    let ones := fun (n : Nat) => List.replicate n 0xFF#64
    let job := fun (bw aw : Nat) => ({ cmd := c, since := 0, j := 0, r := 0, bw := ones bw, aw := ones aw } : BurinJob)
    let run := fun (x : BurinJob) (mode : Bool) => ({ running (fun x => { x with th := th0 }) with
      tiles := [(0, { Tile.reset with burin := some x, ring := Tile.reset.ring.set 7 (some (ring0 mode)) })] } : State)
    let fin : BurinJob := { job 0 0 with j := 1 }
    let stop : BurinJob := { job 0 0 with cmd := { c with desc := [1#64, 2#64, 1#64, 1#64, 0#64, 0#64, 0#64, 0#64] }, j := 1 }
    let marked : State := { run stop true with slots := [(0, { (running id).slot 0 with pre := some 0 })] }
    (∀ m : Bool, let s := run (job 16 1) m
      (s.tile 0).burin = some (job 16 1) ∧ (s.slot 0).pre = none ∧ fullSpeed s 0 ∧ 0 < kBlocks c.desc
      ∧ (job 16 1).bw.length = 8 * wordsRead 0x80 5 ∧ (job 16 1).aw.length + 1 = wordsRead 0x80 5 ∧ c.a.toNat / 2 ^ 56 = 0x80
      ∧ c.a.toNat / 2 ^ 52 % 16 = 5 ∧ c.b.toNat / 2 ^ 52 % 16 = 5 ∧ c.b.toNat / 2 ^ 56 = 0x80
      ∧ s.wordState (burinNext s 0 (job 16 1)) = 1#2 ∧ (s.tile 0).ring.get 7 = some (ring0 m) ∧ (ring0 m).rt = c.rt)
    ∧ (run (job 16 1) true).agenda = [] ∧ (run (job 16 1) true).pipe = [] ∧ (run (job 16 1) true).power = true
    ∧ ((run (job 16 1) true).tiles.map (fun e => e.1)).Nodup ∧ ((run (job 16 1) true).slot 0).th = c.th
    ∧ throttled (run (job 16 1) true) 0 = false ∧ (job 15 1).bw.length ≠ 8 * wordsRead 0x80 5
    ∧ ((run fin true).tile 0).burin = some fin ∧ fin.since ≤ (run fin true).cycle ∧ kBlocks fin.cmd.desc ≤ fin.j
    ∧ (marked.tile 0).burin = some stop ∧ (marked.slot 0).pre.isSome = true ∧ atGranule stop ∧ stop.j < kBlocks stop.cmd.desc
    ∧ (marked.slot 0).th = stop.cmd.th ∧ stop.cmd.kind = .mma := by
  unfold fullSpeed atGranule
  decide +kernel

/-- A job of hart 7 at its tag write. -/
def job0 (kind : CmdKind) (err : Nat) : HartJob where
  work := .cmd (cmd0 kind)
  phase := .tag
  dw := []
  unit := 0
  todo := []
  buf := []
  err := err
  more := false
  fcause := 0
  where_ := 0
  drops := 0
  handle := 0#64
  due := false
  busy := false
  stop := false

/-- Node 0 on the turn of hart 7, with its job. -/
def harted (j : HartJob) : State := { inPod id with cycle := 7, nodes := [(0, { Node.reset with harts := [(7, j)] })] }
/-- The store of core 0, and the job of a command at a phase, with its descriptor words and what it has read. -/
def storeBegin : Nat := 0x3FF * 2 ^ 42 + 0x20000000000
def jobAt (kind : CmdKind) (ph : HartPhase) (dw : List Word) (buf : List (Word × Bool)) (todo : List Micro) : HartJob :=
  { job0 kind 0 with phase := ph, dw := dw, buf := buf, todo := todo }
/-- Issuable at byte `a` of core 0's store, as a test. -/
def issuable (j : HartJob) (m : Micro) (a : Nat) : Bool :=
  admits (harted j) (accessOf j m).2.2.1 ((accessOf j m).1 % 2 ^ 52) (.mem (0x20000000000 + a))
    && decide ((accessOf j m).1 % 2 ^ 52 % (accessOf j m).2.1 = 0)

/-- An EVICTING entry, the last of the table; the last core of the rotation; jobs that read a descriptor, begin a unit, act on an
index, a key and a bin's answer, go on to the next unit, and end. -/
theorem witness_HartEvents :
    let pl : Plate := { Plate.reset with st := .evicting, dirty := true }
    let ev : State := { State.reset with cycle := 7, nodes := [(0, { Node.reset with plates := [(63, pl)] })] }
    let q : State := { State.reset with cycle := 7, cores := [(63, { Core.reset with q2 := [cmd0 .copy] })] }
    let s := wd storeBegin
    let g := [s, s, s, 2#64, 1#64, 8#64, 0x800000008#64]
    let k := [s, s, 2#64, 8#64, 1#64, 4#64, s, s, s, 4#64, s, s, 0#64, 0#64, 0#64, 0#64]
    let fill := jobAt .fillw .unit [s, 1#64, 5#64] [] []
    let far := jobAt .scatter .index g [(9#64, false)] []
    Tab.look (ev.node 0).harts 7 = none ∧ ev.cycle % 8 = 7 ∧ (ev.node 0).hartAt ≤ ev.cycle ∧ (ev.plate 0 63).st = .evicting
    ∧ (ev.plate 0 63).dirty = true ∧ (∀ k < 63, (ev.plate 0 k).st ≠ .evicting) ∧ (ev.node 0).harts = []
    ∧ (∀ k < 64, (q.plate 0 k).st ≠ .evicting) ∧ q.reqs = [] ∧ (∀ k < 63, (q.core k).q2 = []) ∧ (q.core 63).q2 = cmd0 .copy :: []
    ∧ q.cores.all (fun e => e.2.away.isEmpty) = true ∧ codeWaiting q 0 = false ∧ restoreCodeWaiting q 0 = false
    ∧ q.mbox.ending = none
    ∧ (let j := jobAt .copy .desc [] [] [.read 8 storeBegin false];
        Tab.look ((harted j).node 0).harts 7 = some j ∧ j.busy = false ∧ ((harted j).node 0).hartAt ≤ (harted j).cycle
          ∧ (harted j).mbox.ending = none ∧ issuable j (.read 8 storeBegin false) 0 = true)
    ∧ fill.unit < unitCount fill ∧ (unitAccesses fill).all (fun m => issuable fill m 0) = true ∧ (unitAccesses fill).length = 1
    ∧ (∀ kind ∈ [CmdKind.gather, .scatter], let j := jobAt kind .index g [(0#64, false)] [];
        (rowStep j 0#64 false).2 = (0, false) ∧ (rowStep j 0#64 false).1.length = 2
          ∧ ((rowStep j 0#64 false).1.take 1).all (fun m => issuable j m 0) = true)
    ∧ (∀ ph ∈ [HartPhase.key, .bump 0, .ovf 0], let j := jobAt .bins ph k [(0#64, false)] [];
        (itemStep j 0#64 false).2 = (0, false, false) ∧ (itemStep j 0#64 false).1.length ≠ 0
          ∧ ((itemStep j 0#64 false).1.take 1).all (fun m => issuable j m 0) = true)
    ∧ rowStep far 9#64 false = ([], 3, false) ∧ far.unit + 1 < unitCount far ∧ far.stop = false
    ∧ (unitAccesses { far with unit := far.unit + 1 }).all (fun m => issuable far m 8) = true
    ∧ (unitAccesses { far with unit := far.unit + 1 }).length = 1
    ∧ (let j := jobAt .copy .status [] [] []; (firstCompletion (cmd0 .copy)) = storeBegin + 248
        ∧ issuable j (.put (firstCompletion (cmd0 .copy)) 0#64 false) 248 = true) := by
  decide +kernel

/-- A hart's read at the head of its bank queue; its replies in every phase: a word, an EMPTY index, a POISON word, a fault. -/
theorem witness_HartEvents_replies :
    let r := fun (st : Stage) => ({ req0 with own := .hart 0 7, op := .peek 8, stage := st } : Req)
    let m := Micro.read 8 storeBegin
    let s := fun (j : HartJob) (st : Stage) => ({ harted { j with busy := true } with reqs := [r st] } : State)
    let poison := BitVec.ofNat 256 (2 * 2 ^ 64)
    let bad : FaultInfo := { cause := causePOISON, faddr := 8#64, finfo := 0#64 }
    (s (job0 .copy 0) .queued).req? 9 = some (r .queued) ∧ (r .queued).op.blockedBy 0#2 = false ∧ (s (job0 .copy 0) .queued).bad = []
    ∧ (s (job0 .copy 0) .queued).cores = []
    ∧ (∀ j ∈ [jobAt .copy .desc [] [] [m false], jobAt .gather .index [] [] [m true], jobAt .copy .unit [] [] [m false],
          jobAt .copy .rows [] [] [.put storeBegin 0#64 false], jobAt .bins .key [] [] [.bump storeBegin 4],
          jobAt .copy .wrote [] [] [.put storeBegin 0#64 false]],
        ∀ v ∈ [(0#256, none), (poison, none), (0#256, some fault0), (0#256, some bad)],
          (s j (.replied v.1 v.2)).req? 9 = some (r (.replied v.1 v.2))
            ∧ Tab.look ((s j (.replied v.1 v.2)).node 0).harts 7 = some { j with busy := true } ∧ j.todo.length = 1)
    ∧ (0#256).toNat / 2 ^ 64 % 4 = 0 ∧ poison.toNat / 2 ^ 64 % 4 = 2 ∧ fault0.cause ≠ causePOISON ∧ bad.cause = causePOISON := by
  decide +kernel

/-- A command done; a FREEB without an entry, a last and a not last one; room for a 16th entry and none; an answer on the way and of
the whole tree; an image of which the checks accept the words, and one of zeros. -/
theorem witness_HartEvents_trees :
    let d := fun (k : CmdKind) => ({ State.reset with cycle := 1, nodes := [(0, { Node.reset with harts := [(7, job0 k 8)] })] } : State)
    let e := fun (seen : Nat) (parent : Option Nat) =>
      ({ handle := 1#64, ctx := 0, parent := parent, expect := 2, seen := seen, root := 0, h := 7, due := [6] } : Comb)
    let n := fun (l : List Comb) (m : List Ctl) => ({ State.reset with
      routers := [(5, l)], nodes := [(0, { Node.reset with harts := [(7, job0 .mcast 0)] })], ctls := m } : State)
    let tb := fun (data : List (Nat × Vec)) => ({ running (fun x => { x with
      accs := [{ acc0 with fill := .table 0 3 5, left := 0, data := data, id := 4 }] }) with
      tiles := [(0, { Tile.reset with tload := some 4 })] } : State)
    -- the identity from 0 to 64, both halves
    let y := fun (n : Nat) => (Fp.fin false n 0).encode fp32
    let cell := fun (w : Nat) => if w % 128 = 1 then y 64 else if 4 ≤ w % 128 ∧ w % 128 ≤ 68 then y (w % 128 - 4) else 0
    let good := (List.range 32).map (fun i =>
      (i, BitVec.ofNat 256 ((List.range 8).foldl (fun v k => v + cell (8 * i + k) * 2 ^ (32 * k)) 0)))
    (∀ k ∈ [CmdKind.copy, .freeb], ((d k).node 0).harts = [] ++ (7, job0 k 8) :: [] ∧ (job0 k 8).work = .cmd (cmd0 k))
    ∧ ((d .copy).slot 1).st = .free
    ∧ (n [] [.freeb 9 5 0 1#64 0 1]).ctls.find? (fun c => decide (c.no = 9)) = some (.freeb 9 5 0 1#64 0 1) ∧ (n [] []).router 5 = []
    ∧ (∀ p ∈ [none, some 0], FirstIn (fun k : Comb => k.handle = 1#64 ∧ k.ctx = 0) ((n [e 1 p] []).router 5) [] (e 1 p) []
        ∧ (e 1 p).expect ≤ (e 1 p).seen + 1)
    ∧ (e 0 none).seen + 1 < (e 0 none).expect
    ∧ (n [] [.install 9 5 (e 0 none) [0]]).ctls.find? (fun c => decide (c.no = 9)) = some (.install 9 5 (e 0 none) [0])
    ∧ ((n (List.replicate 15 (e 0 none)) []).router 5).length < 16 ∧ 16 ≤ ((n (List.replicate 16 (e 0 none)) []).router 5).length
    ∧ (n [e 0 none] [.answer 9 5 6 1#64 0]).ctls.find? (fun c => decide (c.no = 9)) = some (.answer 9 5 6 1#64 0)
    ∧ FirstIn (fun k : Comb => k.handle = 1#64 ∧ k.ctx = 0 ∧ 6 ∈ k.due) ((n [e 0 none] []).router 5) [] (e 0 none) []
    ∧ (n [] [.ready 9 5 0 7 0]).ctls.find? (fun c => decide (c.no = 9)) = some (.ready 9 5 0 7 0)
    ∧ Tab.look ((n [] []).node 0).harts 7 = some (job0 .mcast 0)
    ∧ (∀ l ∈ [[], good], loadedTable (tb l) 0 = some (0, { acc0 with fill := .table 0 3 5, left := 0, data := l, id := 4 })
        ∧ (tb l).reqs = [] ∧ ∀ c < 4, ((tb l).slot (c * 8)).turnAt ≠ (tb l).cycle + 1)
    ∧ imageCheck ((List.range 128).map (fun i => wd ((Tab.get 0#256 [] (i / 4)).toNat / 2 ^ (64 * (i % 4)) % 2 ^ 64))) ≠ 0
    ∧ imageCheck ((List.range 128).map (fun i => wd ((Tab.get 0#256 good (i / 4)).toNat / 2 ^ (64 * (i % 4)) % 2 ^ 64))) = 0 := by
  unfold FirstIn
  decide +kernel

/-- A plate of context 0 under the name 7, and the reference to it as entry 63. -/
def plate0 (st : PlateSt) (pins : BitVec 16) (bv : Bool) : Plate :=
  { Plate.reset with st := st, name := 7#64, pins := pins, bv := bv, len := 1, launch := 1 }

/-- The machine with a plate table and a word for it. -/
def tabled (l : List (Nat × Plate)) (k : Nat) (op : BitVec 7) (a b : Word) : State :=
  { inPod (fun x => { x with launch := k }) with
    nodes := [(0, { Node.reset with plates := l })],
    reqs := [{ req0 with op := .plt op a b 0#64, tgt := .plates 0, stage := .queued }] }

theorem witness_PlateEvents_table (l : List (Nat × Plate)) (k : Nat) (op : BitVec 7) (a b : Word) :
    AtTable (tabled l k op a b) 0 { req0 with op := .plt op a b 0#64, tgt := .plates 0, stage := .queued } 0 th0 :=
  ⟨List.mem_singleton_self _, rfl, rfl, fun _ h _ _ => .inl (List.mem_singleton.mp h), rfl, rfl⟩

/-- NamedAt in node 0 for context 0, as a test. -/
def namedAt (s : State) (name : Word) (e : Nat) : Bool :=
  let is := fun (k : Nat) => decide ((s.plate 0 k).st ≠ .free) && decide ((s.plate 0 k).name = name) && decide ((s.plate 0 k).ctx = 0)
  decide (e < 64) && is e && decide (∀ k < e, is k = false)

theorem namedAt_sound {s : State} {name : Word} {e : Nat} (h : namedAt s name e = true) : NamedAt s 0 0 name e := by
  simp only [namedAt, Bool.and_eq_true, decide_eq_true_eq] at h
  exact ⟨h.1.1, ⟨h.1.2.1.1, h.1.2.1.2, h.1.2.2⟩, fun k l n => by simpa [n.1, n.2.1, n.2.2] using h.2 k l⟩

/-- For each operation, the states of the table that its clauses name: the name there and not, pinned and not, the own launch
and another, a table full and with its last entry FREE; an EVICTED plate of the same kind and length and of others, with space, with
none, and with one to evict; an eviction of each kind done. -/
theorem witness_PlateEvents :
    let one := fun (st : PlateSt) (pins : BitVec 16) (bv : Bool) (k : Nat) (op : BitVec 7) (a : Word) =>
      tabled [(63, plate0 st pins bv)] k op a 0#64
    let full := (List.range 64).map (fun e => (e, plate0 .sealed 0#16 false))
    let spec := fun (n : Nat) => wd (2 ^ 47 + n)
    let again := one .evicted 0#16 true 1 2#7 7#64
    -- two granules fit nowhere where a unit gives plates one
    let tight := fun (bv : Bool) => tabled ((List.range 63).map (fun e => (e, plate0 .sealed 0#16 bv))) 1 2#7 8#64 (spec 2)
    let fits := fun (s : State) (n : Nat) => firstFit s 0 0 (spec n)
    (∀ st ∈ [PlateSt.filling, .sealed, .open_, .evicting, .evicted], namedAt (one st 0#16 true 1 1#7 7#64) 7#64 63 = true)
    ∧ NotNamed (one .sealed 0#16 true 1 1#7 8#64) 0 0 8#64
    ∧ NotNamed (tabled full 1 2#7 8#64 0#64) 0 0 8#64 ∧ (∀ j < 64, ((tabled full 1 2#7 8#64 0#64).plate 0 j).st ≠ .free)
    ∧ (let s := tabled (full.take 63) 1 2#7 8#64 (spec 1);
        NotNamed s 0 0 8#64 ∧ (s.plate 0 63).st = .free ∧ (∀ i < 63, (s.plate 0 i).st ≠ .free) ∧ (fits s 1).isSome = true)
    ∧ (again.plate 0 63).kind ≠ (wd (2 ^ 36)).getLsbD 36 ∧ (again.plate 0 63).len ≠ (spec 2).toNat % 2 ^ 4
    ∧ namedAt again 7#64 63 = true ∧ (again.plate 0 63).st = .evicted ∧ (again.plate 0 63).kind = (spec 1).getLsbD 36
    ∧ (again.plate 0 63).len = (spec 1).toNat % 2 ^ 4 ∧ (fits again 1).isSome = true
    ∧ (∀ bv : Bool, NotNamed (tight bv) 0 0 8#64 ∧ ((tight bv).plate 0 63).st = .free ∧ (∀ i < 63, ((tight bv).plate 0 i).st ≠ .free)
        ∧ fits (tight bv) 2 = none)
    ∧ (∀ e < 64, ((tight false).plate 0 e).bv = false) := by
  unfold NotNamed
  decide +kernel

theorem witness_PlateEvents_references :
    let one := fun (st : PlateSt) (pins : BitVec 16) (bv : Bool) (k : Nat) (op : BitVec 7) (a : Word) =>
      tabled [(63, plate0 st pins bv)] k op a 0#64
    0 < ((one .open_ 1#16 true 1 5#7 63#64).plate 0 63).pins.toNat ∧ (63#64).toNat / 2 ^ 44 % 2 ^ 14 = 0
    ∧ freshRef ((one .sealed 1#16 true 1 5#7 63#64).plate 0 63) 0 63#64
    ∧ ¬ freshRef ((one .sealed 1#16 true 1 5#7 63#64).plate 0 63) 0 0x10000003F#64
    ∧ ¬ freshRef ((one .free 0#16 true 1 5#7 63#64).plate 0 63) 0 63#64
    ∧ (plate0 .filling 0#16 true).launch = ((one .filling 0#16 true 1 6#7 63#64).slot 0).launch
    ∧ (plate0 .filling 0#16 true).launch ≠ ((one .filling 0#16 true 2 6#7 63#64).slot 0).launch
    ∧ (let s : State := { State.reset with nodes := [(0, { Node.reset with plates := [(63, plate0 .evicting 0#16 true)] })] };
        (s.plate 0 63).st = .evicting ∧ (s.plate 0 63).dirty = false ∧ s.reqs = [])
    ∧ (let s : State := { State.reset with nodes := [(0, { Node.reset with
            plates := [(63, { plate0 .evicting 0#16 true with dirty := true })],
            harts := [(7, { job0 .copy 0 with work := .evict 63 (cmd0 .copy) })] })] };
        (s.plate 0 63).dirty = true ∧ (s.node 0).harts = [] ++ (7, { job0 .copy 0 with work := .evict 63 (cmd0 .copy) }) :: []) := by
  unfold freshRef
  decide +kernel

/-- Of 63 plates that were never attached the first is evicted. -/
theorem witness_PlateEvents_victim :
    Victim (tabled ((List.range 63).map (fun e => (e, plate0 .sealed 0#16 true))) 1 2#7 8#64 (wd (2 ^ 47 + 2))) 0 (wd (2 ^ 47 + 2)) 0 := by
  have c : ∀ k < 64, ((tabled ((List.range 63).map (fun e => (e, plate0 .sealed 0#16 true))) 1 2#7 8#64 (wd (2 ^ 47 + 2))).plate 0 k).last
      = 0#32 := by decide +kernel
  exact ⟨by unfold Candidate; decide +kernel, fun k h => .inr ⟨by rw [c 0 (by decide), c k h.1], Nat.zero_le k⟩⟩

/-- An away entry of slot 0's thread. -/
def away0 (st : AwaySt) : Away :=
  { th := th0, st := st, recNo := 1, spills := [], ctx := 0, launch := 1, slot := 0, from_ := 0, code := none }

/-- Slot 0 of launch 1, of class 3, in core 0; launch 2 waits for all eight slots of the core. -/
def share0 : Share := { core := 0, slots := 8, ord := 0, items := [], owns := true, seeded := false }
def newLaunch : Launch := launch0 .placed [{ part0 false with shares := [share0] }]
def oldLaunch (p : LaunchPkt) : Launch := { launch0 .placed [part0 false] with cls := 3, pkt := p }
def in1 (f : Slot → Slot) : State :=
  { inPod (fun x => f { x with launch := 1, cls := 3 }) with launches := [(1, oldLaunch pkt0), (2, newLaunch)] }

/-- A slot to mark; a mark of 1,750,000 cycles; safe points of a plain slot and of one in a WORD park. -/
theorem witness_SaveEvents :
    let m0 := in1 (fun x => { x with items := [item 3 0 0 false], th := th0 })
    let m : State := { m0 with cores := [(0, { Core.reset with q0 := [{ cmd0 .mma with id := 4 }], q1 := [cmd0 .epi] })] }
    let w : State := { in1 (fun x => { x with pre := some 0 }) with cycle := 1750000 }
    let used : Ctx := { ctx0 with usedRecs := [0] }
    let p : State := { in1 (fun x => { x with pre := some 0 }) with ctxs := [(0, used)] }
    let r : Req := { req0 with stage := .waiting 0 }
    let a : Acc := { acc0 with issued := 0#64 }
    let pw : State := { in1 (fun x => { x with pre := some 0, st := .parked, reason := .word, accs := [a] }) with
      ctxs := [(0, used)], reqs := [r], cores := [(0, { Core.reset with waitl := [9] })] }
    m.launch? 2 = some newLaunch ∧ m.part? 2 0 = some { part0 false with shares := [share0] } ∧ share0.seeded = false
    ∧ ((List.range 8).filter (fun i => decide ((m.slot i).st = .free))).length = 7 ∧ m.slots.all (fun e => e.2.pre.isNone) = true
    ∧ (m.slot 0).st = .running ∧ m.launch? 1 = some (oldLaunch pkt0) ∧ newLaunch.cls < (m.slot 0).cls ∧ pkt0.nopre = false
    ∧ (m.slot 0).latch = none ∧ (m.slot 0).stopped = [] ∧ (m.slot 0).ending = none ∧ (m.slot 0).cls ≤ 3
    ∧ (∀ d ∈ (m.core 0).q0 ++ (m.core 0).q1, d.sl = 0 → d.th = (m.slot 0).th ∧ d.kind.engine ≠ 2)
    ∧ (m.core 0).away.length < 32 ∧ m.context 0 = some ctx0 ∧ ctx0.usedRecs.length < ctx0.saveRecs
    ∧ (∀ j ∈ [1, 2, 3, 4, 5, 6, 7], (m.slot j).cls ≤ newLaunch.cls) ∧ ((m.slot 0).tagItems 3).length = 1
    ∧ (w.slot 0).pre = some 0 ∧ 0 + 1750000 ≤ w.cycle ∧ (w.slot 0).st ≠ .saving
    ∧ p.context 0 = some used ∧ safePoint p 0 = true ∧ freeNumbers used.usedSpills used.spills (heldTiles p 0).length = some []
    ∧ 1 ∉ used.usedRecs ∧ 1 < used.saveRecs ∧ 0 ∈ used.usedRecs ∧ waitingAcc p 0 = none
    ∧ safePoint pw 0 = true ∧ waitingAcc pw 0 = some a ∧ pw.reqs.filter (fun q => decide (q.acc = a.id)) = [r]
    ∧ (pw.core 0).waitl = [r.id] ∧ freeNumbers used.usedSpills used.spills (heldTiles pw 0).length = some [] := by
  decide +kernel

/-- A slot in SAVING; restores with the code there, to be loaded, and not to be read, and one behind the seeding of a lower class;
a restore to be finished. -/
theorem witness_SaveEvents_records :
    let at_ := fun (st : AwaySt) (f : Slot → Slot) => ({ in1 f with cores := [(0, { Core.reset with away := [away0 st] })] } : State)
    let sv := at_ .saving (fun x => { x with st := .saving, stopped := [{ cmd0 .mma with nextJ := 4095, nextR := 31 }, cmd0 .mmaz] })
    let code := fun (tile : Tile) (addr : Nat) => { at_ .saved (fun x => { x with st := .free }) with
      tiles := [(0, tile)], launches := [(1, oldLaunch { pkt0 with code := addr })] }
    let here := code { Tile.reset with hold1 := some { launch := 1, loaded := true } } 0
    let full := hbmPtr.toNat - 56
    let load_ := code Tile.reset full
    let bad := code Tile.reset (full + 8)
    let both : Tile := { Tile.reset with hold0 := some { launch := 2, loaded := true }, hold1 := some { launch := 1, loaded := true } }
    let held : State := { here with launches := [(1, oldLaunch pkt0), (2, newLaunch)], tiles := [(0, both)] }
    let rs := at_ .restoring (fun x => { x with st := .saving })
    let late := withReqs here [{ land0 with ea := 0#64, stage := .log }]
    let turn := fun (s : State) => (s.node 0).hartAt ≤ s.cycle ∧ Tab.look (s.node 0).harts (s.cycle % 8) = none
    (sv.slot 0).st = .saving ∧ awayOf sv th0 = some (away0 .saving) ∧ heldTiles sv 0 = [] ∧ sv.cores.all (fun e => e.2.lbuf.isEmpty) = true
    ∧ ((sv.slot 0).stopped.take 2).length = 2 ∧ (sv.slot 0).th = th0 ∧ (away0 .saving).slot = 0
    ∧ (∀ d ∈ (sv.slot 0).stopped, d.th = (sv.slot 0).th)
    ∧ turn sv ∧ turn load_ ∧ turn bad ∧ turn rs ∧ here.reqs = [] ∧ (recordAddr here 0 1 + 0x578) / 8 ∉ here.bad
    ∧ late.reqs.any (fun r => decide (r.stage = .log) && r.op.isLanding && decide (addrThread r.ea = th0)) = true
    ∧ awayOf here th0 = some (away0 .saved) ∧ restoreCore here (away0 .saved) = some 0 ∧ hasCode here 0 1 = true ∧ (here.slot 0).st = .free
    ∧ restoreHeld here (away0 .saved) 0 = false ∧ awayOf held th0 = some (away0 .saved) ∧ held.launch? 1 = some (oldLaunch pkt0)
    ∧ restoreCore held (away0 .saved) = some 0 ∧ hasCode held 0 1 = true ∧ restoreHeld held (away0 .saved) 0 = true
    ∧ (∀ s ∈ [load_, bad], awayOf s th0 = some (away0 .saved) ∧ restoreCore s (away0 .saved) = some 0 ∧ hasCode s 0 1 = false
        ∧ freeBank s 0 = some 0)
    ∧ bad.launch? 1 = some (oldLaunch { pkt0 with code := full + 8 }) ∧ imageFails bad (oldLaunch { pkt0 with code := full + 8 }) = true
    ∧ load_.launch? 1 = some (oldLaunch { pkt0 with code := full }) ∧ imageFails load_ (oldLaunch { pkt0 with code := full }) = false
    ∧ codePhys load_ (oldLaunch { pkt0 with code := full }) = some (0x2FFF8 - 56)
    ∧ awayOf rs th0 = some (away0 .restoring) ∧ (∀ i < 18, wordAt rs (recordAddr rs 0 1 + 0x4B0 + 8 * i) = 0)
    ∧ wordAt rs (recordAddr rs 0 1 + 0x578) = 0 ∧ rs.cores.all (fun e => e.2.lbuf.isEmpty) = true ∧ rs.context 0 = some ctx0
    ∧ (away0 .restoring).spills = [] ∧ (away0 .restoring).third = 0#64 ∧ (rs.core 0).q0 = [] ∧ (rs.core 0).q1 = [] ∧ rs.bad = [] ∧ 0x2FFF8 - 56 + 8 * imageWords (oldLaunch { pkt0 with code := full }) ≤ 0xF000000000 := by
  decide +kernel

/-- One byte of a CRC, with its bits as a number that evaluation carries out before the next byte; it computes `crc16`. -/
def crcStep (c : BitVec 16) (b : BitVec 8) : BitVec 16 := iter crcBit 8 (c ^^^ BitVec.ofNat 16 (b.toNat * 256))
def crcFrom : Nat → List (BitVec 8) → Nat
  | n, [] => n
  | n, b :: l => match (crcStep (BitVec.ofNat 16 n) b).toNat with | 0 => crcFrom 0 l | k + 1 => crcFrom (k + 1) l

theorem crcFrom_eq (l : List (BitVec 8)) : ∀ c : BitVec 16, crcFrom c.toNat l = (l.foldl crcStep c).toNat := by
  induction l with
  | nil => intro c; rfl
  | cons b l ih =>
    intro c
    rw [List.foldl_cons, ← ih, crcFrom, BitVec.ofNat_toNat, BitVec.setWidth_eq]
    split <;> rename_i h <;> rw [h]

theorem crc16_eq (l : List (BitVec 8)) : (crc16 l).toNat = crcFrom 0xFFFF l := (crcFrom_eq l 0xFFFF#16).symm

/-- Host memory with a packet at `a`: fields as offset, bytes and value, its CRC and its mark (R362). -/
def packet (a : Nat) (l : List (Nat × Nat × Nat)) : Memory :=
  let m := l.foldl (fun m f => Memory.writeNat m (a + f.1) f.2.1 f.2.2) []
  let c := crcFrom 0xFFFF ((List.range 124).map (fun i => Memory.byte m (a + i)))
  Memory.writeNat (Memory.writeNat m (a + 0x7C) 2 c) (a + 0x7F) 1 0xA5

/-- Queue 2 of context 0: 16 packets from 0x1000, its next one the last of the ring. -/
def queue0 (state : Nat) : HQueue where
  ring := 0x1000
  size := 4
  ridx := 0x800
  qstat := 0x808
  ctx := 0
  cls := 0
  fills := 0
  nfill := 0
  idx := 15
  state := state
  err := 255
  seq := 6#32
  event := true
  slot := some 127
  askedAt := none
  rereads := 0
  rereadAt := 0
  waitSince := 0
  remap := false
  pending := []

/-- The machine with queue 2 and its next packet, at 0x1780. -/
def queued (x : HQueue) (l : List (Nat × Nat × Nat)) : State :=
  { inPod id with queues := [(2, x)], hostMem := packet 0x1780 l }

/-- The CRC of a packet matches. -/
def crcGood (s : State) (a : Nat) : Bool :=
  decide (crcFrom 0xFFFF ((List.range 124).map (fun i => Memory.byte s.hostMem (a + i))) = pk s a 0x7C 2)

theorem crcGood_eq (s : State) (a : Nat) : crcOk s a = crcGood s a := by simp only [crcOk, crcGood, crc16_eq]

/-- The parts of PacketReady that the packet decides. -/
def ready (s : State) (ty : Nat) : Bool :=
  decide (Tab.look s.queues 2 = some (queue0 0)) && decide (Memory.byte s.hostMem (0x1780 + 0x7F) = 0xA5#8) && crcGood s 0x1780
    && decide (Memory.readNat s.hostMem 0x1780 1 = ty) && decide (Memory.readNat s.hostMem (0x1780 + 0x7E) 1 = 0)
/-- Bytes of it that are 0. -/
def blank (s : State) (l : List (Nat × Nat)) : Bool :=
  l.all (fun p => (List.range p.2).all (fun i => decide (i < p.1) || decide (Memory.byte s.hostMem (0x1780 + i) = 0#8)))

theorem ready_sound {s : State} {ty : Nat} (h : ready s ty = true) : PacketReady s 2 ty (queue0 0) 0x1780 := by
  simp only [ready, Bool.and_eq_true, decide_eq_true_eq] at h
  obtain ⟨⟨⟨⟨h1, h2⟩, h3⟩, h4⟩, h5⟩ := h
  exact ⟨h1, rfl, rfl, rfl, rfl, rfl, h2, (crcGood_eq s _).trans h3, h4, h5⟩

theorem witness_PoolPacketEvents :
    let sig := 0x3FFFFFFFFF0
    let nop := queued (queue0 0) [(0x78, 4, 7)]
    let wait := fun (v : Nat) => queued (queue0 0) [(0, 1, 2), (4, 1, 3), (8, 8, sig), (0x10, 8, v), (0x18, 8, 1), (0x78, 4, 7)]
    let parked := fun (r : Bool) => queued { queue0 1 with remap := r } [(0, 1, 2), (8, 8, sig), (0x20, 4, 1), (0x10, 8, 5), (0x78, 4, 7)]
    let late := { parked false with cycle := 1750 }
    let signal := fun (c : Nat) => queued (queue0 0) [(0, 1, 3), (4, 1, c), (8, 8, sig), (0x10, 8, 1)]
    let plate := queued (queue0 0) [(0, 1, 4), (4, 1, 1), (8, 8, 7), (0x60, 8, sig)]
    let bad := fun (n at_ : Nat) => ({ queued { queue0 0 with rereads := n, rereadAt := at_ } [(0, 1, 4)] with
      cycle := 1750, hostMem := Memory.writeNat (packet 0x1780 []) 0x1790 1 1 } : State)
    Tab.look nop.queues 2 = some (queue0 0) ∧ ([(0x1FFF, 0xA5#8), (0x1000, 1#8)].map (fun (d : Nat × BitVec 8) => d.1)).Nodup
    ∧ ready nop 0 = true ∧ blank nop [(1, 0x78)] = true ∧ (0x800 + 4 ≤ 0x1780 + 0x7F)
    ∧ (∀ v ∈ [0, 1], ready (wait v) 2 = true ∧ blank (wait v) [(1, 4), (5, 8), (0x24, 0x78)] = true ∧ field (wait v) 0x1780 4 1 ≤ 3
        ∧ field (wait v) 0x1780 8 8 = sig)
    ∧ Memory.readNat (wait 1).hostMem sig 8 &&& 1 < 1 ∧ ¬ (Memory.readNat (wait 0).hostMem sig 8 &&& 1 < 0) ∧ (queue0 0).err < 2 ^ 8
    ∧ Tab.look (parked true).queues 2 = some { queue0 1 with remap := true } ∧ field (parked true) 0x1780 8 8 < 2 ^ 42
    ∧ 0x808 + 8 ≤ 0x1780 + 0x7F ∧ 0x800 + 4 ≤ 0x808
    ∧ Tab.look late.queues 2 = some (queue0 1) ∧ field late 0x1780 0x20 4 ≠ 0 ∧ 0 + 1750 * field late 0x1780 0x20 4 ≤ late.cycle
    ∧ (∀ c ∈ [0, 1], ready (signal c) 3 = true ∧ blank (signal c) [(1, 4), (5, 8), (0x18, 0x78)] = true
        ∧ field (signal c) 0x1780 4 1 = c ∧ field (signal c) 0x1780 8 8 = sig)
    ∧ sig < 2 ^ 42 ∧ sig % 16 = 0 ∧ (queue0 0).pending = [] ∧ 0x1780 + 128 ≤ sig
    ∧ ready plate 4 = true ∧ blank plate [(1, 4), (5, 8), (0x10, 0x20), (0x24, 0x60), (0x70, 0x78)] = true ∧ field plate 0x1780 4 1 = 1
    ∧ field plate 0x1780 0x20 4 < 10240 ∧ plate.context 0 = some ctx0 ∧ ctx0.allots 0 = true ∧ field plate 0x1780 0x60 8 = sig
    ∧ (∀ p ∈ [(0, 0), (6, 1750), (7, 1750)], Tab.look (bad p.1 p.2).queues 2 = some { queue0 0 with rereads := p.1, rereadAt := p.2 }
        ∧ Memory.byte (bad p.1 p.2).hostMem (0x1780 + 0x7F) = 0xA5#8 ∧ crcGood (bad p.1 p.2) 0x1780 = false ∧ p.2 ≤ (bad p.1 p.2).cycle) := by
  decide +kernel

/-- A layout exists. -/
def laid (r : Except NoLayout (List Part)) : Bool := match r with | .ok _ => true | .error _ => false
/-- The address of an image of eight words in the last line of the window. -/
def lineAt : Nat := hbmPtr.toNat - 56
/-- A share of all eight slots of core 63, and launch 1 with it, its code at `a`. -/
def share63 : Share := { core := 63, slots := 8, ord := 7, items := [], owns := true, seeded := false }
def launchOf (a : Nat) : Launch := { launch0 .placed [{ part0 false with shares := [share63] }] with pkt := { pkt0 with code := a } }
def toSeed (a : Nat) : State := { inPod id with launches := [(1, launchOf a)] }

/-- A LAUNCH packet of one node from node 0 on. -/
def toLaunch (work mode : Nat) : State := queued (queue0 0) [(0, 1, 1), (3, 1, 8), (5, 1, mode), (6, 2, 16), (8, 8, lineAt), (0x10, 4, work),
  (0x15, 1, 0xFF), (0x24, 4, 1), (0x60, 8, 0x3FFFFFFFFF0), (0x68, 8, 5)]

/-- The fields of that packet, and what its checks come to. -/
def launched (work mode : Nat) : LaunchPkt where
  barrier := false
  nopre := false
  seedw := false
  cls := 0
  quota := 8
  domain := 0
  mode := mode
  n := 16
  code := lineAt
  work := work
  shift := 0
  fill := 0xFF
  tvec := 0
  plate := 0#64
  first := 0
  count := 1
  args := List.replicate 7 0#64
  sig := 0x3FFFFFFFFF0#64
  val := 5#64

theorem launchPkt_toLaunch : ∀ p ∈ [(0, 1), (1, 1)], launchPkt (toLaunch p.1 p.2) 0x1780 = launched p.1 p.2 := by decide +kernel

/-- A LAUNCH without work and one on node 0; its layout; one that waits for the node. -/
theorem witness_LaunchEvents :
    ∀ p ∈ [(0, 1), (1, 1)], let s := toLaunch p.1 p.2
      ready s 1 = true ∧ launchErr s 0 0x1780 0 = 0 ∧ (launchPkt s 0x1780).work = p.1 ∧ (launchPkt s 0x1780).mode = p.2
        ∧ (launchPkt s 0x1780).sig.toNat = 0x3FFFFFFFFF0 ∧ field s 0x1780 1 1 % 2 = 0 := by
  intro p h
  have e := launchPkt_toLaunch p h
  simp only [launchErr, badLaunchField, e]
  clear e
  revert p
  decide +kernel

theorem witness_LaunchEvents_layout :
    let s := toLaunch 1 1
    s.context 0 = some ctx0 ∧ laid (layoutNodes s (launchPkt s 0x1780) (nodeRange (launchPkt s 0x1780))) = true := by
  simp only [launchPkt_toLaunch (1, 1) (by decide)]
  decide +kernel

theorem witness_LaunchEvents_waits :
    let s := { toLaunch 1 0 with cores := [(63, { Core.reset with owner := some 9 })] }
    ready s 1 = true ∧ launchErr s 0 0x1780 0 = 0 ∧ (launchPkt s 0x1780).mode = 0
      ∧ ((allotNodes s 0).filter (freeNode s)).length < (launchPkt s 0x1780).count := by
  decide +kernel

/-- A waiting launch with the node free and not. -/
theorem witness_LaunchEvents_waiting :
    let p := { pkt0 with mode := 0 }
    let idle := { launch0 .unplaced [] with pkt := p }
    let wait := fun (c : Core) => ({ inPod id with launches := [(1, idle)], cores := [(63, c)] } : State)
    let taken := wait { Core.reset with owner := some 9 }
    let nodes := fun (s : State) => (allotNodes s 0).filter (freeNode s)
    taken.launches = [] ++ (1, idle) :: [] ∧ idle.st = .unplaced ∧ idle.pkt.work ≠ 0 ∧ idle.pkt.mode = 0
    ∧ (nodes taken).length < p.count ∧ p.count ≤ (nodes (wait Core.reset)).length
    ∧ laid (layoutNodes (wait Core.reset) p ((nodes (wait Core.reset)).take 1)) = true := by
  decide +kernel

/-- An image to load and one that cannot be read; a share to be seeded, and one behind a restore. -/
theorem witness_LaunchEvents_code :
    let seed := toSeed
    let l := launchOf
    let there : State := { seed lineAt with tiles := [(15, { Tile.reset with hold0 := some { launch := 1, loaded := true } })] }
    let slots := fun (s : State) => ((List.range 8).filter (fun i => decide ((s.slot (63 * 8 + i)).st = .free))).length
    (∀ a ∈ [lineAt, lineAt + 8], (seed a).launch? 1 = some (l a) ∧ holdsLaunch (seed a) 15 1 = false ∧ freeBank (seed a) 15 = some 0
        ∧ ((seed a).node 0).hartAt ≤ (seed a).cycle ∧ Tab.look ((seed a).node 0).harts ((seed a).cycle % 8) = none)
    ∧ dieOfNode 0 = 0 ∧ 15 / 16 = 0 ∧ share63.core / 4 = 15 ∧ imageFails (seed lineAt) (l lineAt) = false
    ∧ codePhys (seed lineAt) (l lineAt) = some (0x2FFF8 - 56) ∧ 0x2FFF8 - 56 + 8 * imageWords (l lineAt) ≤ 0xF000000000
    ∧ imageFails (seed (lineAt + 8)) (l (lineAt + 8)) = true ∧ (part0 false).complete = false
    ∧ there.launch? 1 = some (l lineAt) ∧ there.part? 1 0 = some { part0 false with shares := [share63] } ∧ hasCode there 15 1 = true
    ∧ share63.slots ≤ slots there ∧ restoresBelow there 63 1 = false ∧ (l lineAt).cls = 0
    ∧ (let s := { there with cores := [(63, { Core.reset with away := [{ away0 .saved with th := { birth := 504, gen := 1#12 } }] })] };
        restoresBelow s 63 1 = true ∧ s.launch? 1 = some (l lineAt) ∧ s.part? 1 0 = some { part0 false with shares := [share63] }
          ∧ hasCode s 15 1 = true ∧ share63.slots ≤ slots s) := by
  decide +kernel

/-- The mailbox at rest in phase 6. -/
def mail (a0 a1 : Nat) (m : Memory) : State :=
  { inPod id with
    mbox := { Mbox.reset with phase := 6, arg0 := wd a0, arg1 := wd a1 }, hostMem := m, hostHoles := [(0x2000, 0x3000)], queues := [(5, queue0 2)] }

/-- A port with two failing wavelengths. -/
def port0 : PortTest := { laser := true, lock := true, data := Vector.replicate 8 true |>.set 7 false, spare := false }

/-- Argument values at the bounds of each check; a hart within a unit, and an end of its context under way. -/
theorem witness_MailboxEvents :
    let rec_ := fun (l : List (Nat × Nat × Nat)) => l.foldl (fun m f => Memory.writeNat m (0x4000 + f.1) f.2.1 f.2.2) ([] : Memory)
    let set_ := fun (l : List (Nat × Nat × Nat)) => mail 0x4000 0 (rec_ l)
    let q := fun (size : Nat) => mail 4095 0x4000 (rec_ [(8, 8, size)])
    let job : State := { mail 0 0 [] with nodes := [(0, { Node.reset with harts := [(7, job0 .copy 0)] })] }
    let rep : Repair := { march1 := [(5, 1)], march2 := [(5, 1)], stipple := [], routers := [], defects := [], deliver := none }
    (mail 0 0 []).mbox.busy = false ∧ (mail 0 0 []).mbox.phase = 6 ∧ State.reset.mbox.phase ≠ 6 ∧ State.reset.mbox.busy = false
    ∧ (255#8).toNat ∉ [0x01, 0x10, 0x11, 0x20, 0x21, 0x22, 0x30, 0x40]
    ∧ 0xF000000000 < 0xF000000000 + 2 ^ 28 ∧ (0xF000000000 - 2 ^ 28) % 2 ^ 28 = 0 ∧ (0xF000000000 - 2 ^ 28) + 2 ^ 28 ≤ 0xF000000000
    ∧ (∃ x ∈ (mail 0 0 []).hostHoles, 0x2FFF < x.2 ∧ x.1 < 0x2FFF + 32) ∧ (∀ x ∈ (mail 0 0 []).hostHoles, ¬ (0x3000 < x.2 ∧ x.1 < 0x3000 + 32))
    ∧ (∀ n ∈ [4, 16], field (q n) 0x4000 8 8 = n) ∧ field (q 16) 0x4000 0 8 = 0 ∧ field (q 16) 0x4000 0x20 8 = 0 ∧ Tab.look (q 4).queues 4095 = none
    ∧ field (q 3) 0x4000 8 8 < 4 ∧ Tab.look (mail 5 0 []).queues 5 = some (queue0 2) ∧ Tab.look (mail 4095 3 []).queues 4095 = none
    ∧ (queue0 2).err < 2 ^ 8 ∧ (queue0 1).state ≠ 2
    ∧ badCtxField (set_ [(4, 1, 13)]) 0x4000 = true ∧ badCtxField (set_ []) 0x4000 = false ∧ (set_ []).context (field (set_ []) 0x4000 0 2) ≠ none
    ∧ (let s := set_ [(0, 2, 0xFFFF), (0x10, 3, 1)]; badCtxField s 0x4000 = false ∧ s.context 0xFFFF = none ∧ s.ctxs.length < 64
        ∧ badCtxTables (ctxOfRecord s 0x4000) = true)
    ∧ (let s := set_ [(0, 2, 0xFFFF), (0x40, 1, 1)]; badCtxField s 0x4000 = false ∧ badCtxTables (ctxOfRecord s 0x4000) = false
        ∧ ctxConflict s (ctxOfRecord s 0x4000) = true)
    ∧ (let s := set_ [(0, 2, 0xFFFF), (0x40, 1, 2), (8, 2, 240), (10, 2, 240)]; badCtxField s 0x4000 = false ∧ badCtxTables (ctxOfRecord s 0x4000) = false
        ∧ ctxConflict s (ctxOfRecord s 0x4000) = false)
    ∧ (mail 65535 0 []).context 65535 = none ∧ (mail 0 0 []).context 0 = some ctx0 ∧ (mail 0 0 []).nodes = []
    ∧ (job.node 0).harts.all (fun h => decide (h.2.cmd.ctx = 0)) = true
    ∧ State.reset.mbox.arg2 = 0#64 ∧ State.reset.mbox.arg3 = 0#64 ∧ State.reset.hostHoles = []
    ∧ imageErr (hostBytes State.reset 0 0) = 1 ∧ discoveryErr { rep with routers := [9] } (badPositions rep []) = some (5, 9)
    ∧ discoveryErr rep (badPositions rep []) = none := by
  decide +kernel

/-- A hart of the context within a unit, and an end of the context under way; a port of the list, and one after its last. -/
theorem witness_MailboxEvents_ends :
    let rep : Repair := { march1 := [], march2 := [], stipple := [], routers := [], defects := [], deliver := none, ports := [port0] }
    let mid : State := { mail 0 0 [] with nodes := [(0, { Node.reset with harts := [(7, jobAt .copy .rows [] [] [.put storeBegin 0#64 false])] })] }
    let ending := fun (n : Nat) (s : State) => ({ s with mbox := { s.mbox with busy := true, ending := some n } } : State)
    hartsBusy mid 0 = true ∧ hartsBusy (mail 0 0 []) 0 = false ∧ (mail 0 0 []).mbox.ending = none
    ∧ mid.slots.length = 1 ∧ (mid.slot 0).st = .running ∧ (mid.slot 0).ending = none ∧ (mid.slot 0).pre = none ∧ (mid.slot 0).ctx = 0
    ∧ (awayOf { mid with cores := [(0, { Core.reset with away := [away0 .saving] })] } (mid.slot 0).th).isSome = true ∧ (mid.slot 0).th = th0
    ∧ (∀ v : Bool, ({ mid with launches := [((mid.slot 0).launch, oldLaunch { pkt0 with nopre := v })] } : State).launch? (mid.slot 0).launch
        = some (oldLaunch { pkt0 with nopre := v }))
    ∧ ctx0.usedRecs.length < ctx0.saveRecs ∧ (ending 65535 mid).context 65535 = none ∧ (ending 0 mid).mbox.ending = some 0
    ∧ rep.ports[63]? = none ∧ rep.ports[0]? = some port0 := by
  decide +kernel

/-- An image of one page that the opaque hash and signature checks of the fuses accept has no error (R395, R396). -/
theorem witness_MailboxEvents_image (img : List (BitVec 8)) (l : img.length = 4096)
    (m : bytesNat (img.take 8) = 0x00014B5A49464D47) (n : bytesNat ((img.drop 8).take 8) = 4096)
    (k : (Config.sha512 ((img.drop 0x10).take 32)).setWidth 256 = Config.fuseHash)
    (g : Config.ed25519 (BitVec.ofNat 256 (bytesNat ((img.drop 0x10).take 32))) (Config.sha512 (img.take 0x40 ++ img.drop 0x80))
      (BitVec.ofNat 512 (bytesNat ((img.drop 0x40).take 64))) = true) : imageErr img = 0 := by
  simp [imageErr, m, n, l, k, g]

/-- The window's first and last words, and one past it; a period to begin and one begun; each throttle level at its bounds; a droop
hold that ends. -/
theorem witness_ModuleEvents :
    let w : State := { inPod id with memwin := some (0x10000000, 0x10000000) }
    let b := fun (p : Nat) => ({ inPod id with cycle := 1024, nodes := [(0, { Node.reset with period := p })] } : State)
    let t := fun (l : Nat) => ({ State.reset with nodes := [(0, { Node.reset with level := l, droop := [(2, 1026), (1027, 2051)] })], cycle := 1026 } : State)
    State.reset.memwin = none ∧ w.memwin = some (0x10000000, 0x10000000) ∧ 0x10000000 ≤ 0x1FFFFFF8
    ∧ 0x1FFFFFF8 + 8 * [some 1#64].length ≤ 0x10000000 + 0x10000000 ∧ 0x10000000 + 0x10000000 < 0x1FFFFFF8 + 8 * [some 1#64, none].length
    ∧ (windowWord State.reset 0).isSome = true ∧ windowWord State.reset (2 ^ 40 + 2 * 2 ^ 38) = none
    ∧ (10240 * 2 ^ 21 - 8) / 8 * 8 < 10240 * 2 ^ 21 ∧ 10240 * 512 - 1 < 10240 * 512
    ∧ ((b 2).node 0).period = (b 2).cycle / 1024 + 1 ∧ ((b 1).node 0).period < (b 1).cycle / 1024 + 1 ∧ (b 1).context 0 = some ctx0
    ∧ (b 1).ctxs = [(0, ctx0)] ∧ 0 < ctx0.hbmShare ∧ ctx0.hbmShare ≤ 256
    ∧ (∀ l ∈ [0, 2, 6], ((t l).node 0).level = l)
    ∧ (∀ h ∈ ((t 0).node 0).droop, (t 0).cycle < h.1 ∨ h.2 ≤ (t 0).cycle)
    ∧ (2, 1026) ∈ ({ t 2 with cycle := 1025 }.node 0).droop ∧ 2 ≤ 1025 ∧ 1025 < 1026 ∧ (t 0).agenda = [] := by
  decide +kernel

/-- A header from position 7 to this module with a SEQ, and a packet to a position. -/
def header (src dst : BitVec 10) (seq : BitVec 32) (len : BitVec 9) : PodHeader :=
  withCrc { src := src, dst := dst, epoch := 1#8, pctx := 1#16, vc := 0#2, cls := 0#2, seq := seq, len := len, rsv := 0#23, hcrc := 0#16 }
def packet0 (id : Nat) (dst : BitVec 10) (seq : BitVec 32) (len : BitVec 9) : Packet :=
  { id := id, hdr := header 3 dst seq len, body := .presence, req := none, firstSent := some 0, relayed := false }
def key0 (ctr : Nat) (x : Option Nat) : Key := { rot := 1, secret := 0#256, ctr := ctr, last := some 5, exhausted := x }
/-- This module at position 3 with the key of position 7, its port 0 for it up or down. -/
def linked (f : Pod → Pod) : State := let s := inPod id; { s with pod := f { s.pod with keys := [(14, key0 0 none), (15, key0 0 none)] } }
def met (m : Option (Nat × Bool)) (down : List Nat) (p : Pod) : Pod := { p with ports := [(0, { Port.reset with met := m, down := down })] }

/-- Position 7 meets port 0 in slot 4; a window of 4,096; a key at its end and stopped; a pair that is down. -/
theorem witness_PodMeetingEvents :
    (7 : Nat) = 3 ^^^ (16 * (0#6).toNat + (4 + (0#6).toNat) % 16) ∧ 7 ≠ 3 ∧ 7 ∉ (linked id).pod.lost ∧ (linked id).pod.slot ≤ 4
    ∧ (linked id).pod.pos = some 3 ∧ (Tab.look (linked id).pod.joins 7).isSome = true
    ∧ 3 ^^^ (16 * (0#6).toNat + (0 + (0#6).toNat) % 16) = 3 ∧ 11 = 3 ^^^ (16 * (0#6).toNat + (8 + (0#6).toNat) % 16) ∧ 11 ∈ (linked id).pod.lost
    ∧ 5 = 3 ^^^ (16 * (0#6).toNat + (6 + (0#6).toNat) % 16) ∧ Tab.look (linked id).pod.joins 5 = none
    ∧ 4 < (linked (fun p => { p with slot := 5 })).pod.slot
    ∧ (∀ m ∈ [none, some (4, true), some (4, false)], let s := linked (met m [])
        (portAt s 0).met = m ∧ (portAt s 0).disabled = false ∧ 7 ∉ (portAt s 0).down ∧ Tab.look s.pod.keys 14 = some (key0 0 none))
    ∧ (key0 (2 ^ 64 - 1) none).ctr < 2 ^ 64 ∧ (key0 0 (some 3)).exhausted ≠ none
    ∧ (linked (fun p => { p with out := [packet0 1 7 0#32 0, packet0 2 7 4096#32 0] })).pod.out.Pairwise (fun a b => a.id ≠ b.id)
    ∧ (packet0 1 7 0#32 0).hdr.dst = (packet0 2 7 4096#32 0).hdr.dst ∧ (packet0 1 7 0#32 0).hdr.seq = (packet0 2 7 4096#32 0).hdr.seq - 4096#32
    ∧ (∀ m ∈ [none, some (4, true), some (4, false)], 7 ∈ (portAt (linked (met m [7])) 0).down ∧ (portAt (linked (met m [7])) 0).met = m) := by decide +kernel

/-- Packets of position 7 at the bounds of the window; a reply to a request of this module; accesses that the windows admit and do not;
a relayed packet that is 1 ms old. -/
theorem witness_PodMeetingEvents_packets :
    let w := fun (h : BitVec 32) (v : BitVec 4096) => windowOf (linked (fun p => { p with rx := [(7, { high := some h, seen := v })] })) 7
    (9#10).toNat ≠ 3 ∧ (7#10).toNat ≠ 3 ∧ (9#10).toNat ∉ (linked id).pod.lost ∧ (11#10).toNat ∈ (linked id).pod.lost
    ∧ (inPod id).pod.pos = some (header 7 3 0 0).dst.toNat ∧ (header 7 3 0 0).src ≠ (header 7 3 0 0).dst
    ∧ (header 7 3 0 0).src.toNat ∉ (inPod id).pod.lost
    ∧ Tab.look (inPod id).pod.joins 7 = some { epoch := (header 7 3 0 0).epoch, cap := 0x3FFF#64 }
    ∧ windowOf (linked id) 7 = { high := none, seen := 0#4096 }
    ∧ ((w 4095#32 1#4096).high = some 4095#32 ∧ ¬ Newer 0#32 4095#32 ∧ (4095#32 - 0#32).toNat < 4096 ∧ (w 4095#32 1#4096).seen.getLsbD 4095 = false)
    ∧ ((w 4096#32 1#4096).high = some 4096#32 ∧ ¬ Newer 0#32 4096#32 ∧ 4096 ≤ (4096#32 - 0#32).toNat)
    ∧ ((w 7#32 1#4096).high = some 7#32 ∧ ¬ Newer 7#32 7#32 ∧ (w 7#32 1#4096).seen.getLsbD (7#32 - 7#32).toNat = true) ∧ Newer 0#32 0xFFFFFFFF#32
    ∧ (withReqs (inPod id) [{ req0 with tgt := .remote 7, stage := .sent 0 }]).req? 9 = some { req0 with tgt := .remote 7, stage := .sent 0 }
    ∧ (inPod id).reqs = [] ∧ inboundCheck (inPod id) 1 Need.load 0x1FFF8 = some (0, 0x2FFF8)
    ∧ inboundCheck (inPod id) 1 Need.load 0x20000 = none ∧ (inPod id).pod.items = []
    ∧ FirstIn (fun q : Packet => q.id = 9) [packet0 1 7 0 0, packet0 9 7 0 0] [packet0 1 7 0 0] (packet0 9 7 0 0) []
    ∧ (packet0 9 7 0 0).firstSent = some 0 ∧ FirstMeeting 7 9 5 14 ∧ FirstMeeting 3 9 4 10
    ∧ FirstIn (fun m => m = (7, PodBody.receipt 0#32)) [(7, .receipt 1#32), (7, .receipt 0#32)] [(7, .receipt 1#32)] (7, .receipt 0#32) [] := by
  unfold FirstIn Newer FirstMeeting
  decide +kernel

/-- The header of a packet has a right CRC; with its bits inverted it has not. -/
theorem witness_PodMeetingEvents_crc :
    CrcRight (header 7 3 0 0) ∧ ¬ CrcRight { header 7 3 0 0 with hcrc := ~~~ (header 7 3 0 0).hcrc } := by
  have h : CrcRight (header 7 3 0 0) := by
    simp only [CrcRight, header, withCrc, headerCrc]
    exact congrArg crc16 (by decide +kernel)
  refine ⟨h, fun n => ?_⟩
  have e : ~~~ (header 7 3 0 0).hcrc = (header 7 3 0 0).hcrc := n.trans h.symm
  simpa using congrArg (fun v => v.getLsbD 0) e

/-- A port whose accepted flits are those of a packet: it is taken there; with none it is not. -/
theorem witness_PodMeetingEvents_arrived (h : PodHeader) (b : PodBody) :
    (∃ u, TakenAt (linked (fun p => { p with ports := [(0, { Port.reset with rx := (flitsOf h b).map some })] })) h b 0 u)
    ∧ NotArrived (linked id) h b := by
  refine ⟨⟨_, by decide, ⟨[], [], by simp [linked, portAt, Tab.get, inPod, running], fun _ _ _ => Nat.zero_le _, rfl⟩,
    fun q l => absurd l (Nat.not_lt_zero q)⟩, fun q _ x y e => ?_⟩
  have := congrArg List.length e
  simp [linked, portAt, inPod, running, Pod.reset, Tab.get, Port.reset, flitsOf] at this

/-- What fits, for a packet of two flits. -/
theorem witness_PodMeetingEvents_fits (v : Vec) (e : Config.payloadRest .presence = [v]) :
    let o := packet0 1 7 0#32 0
    (key0 0 none).ctr + 4 * (flitsOf o.hdr o.body).length < 2 ^ 64 - 1 ∧ 4 * wireBytes (framesOf o) ≤ 192000 := by
  have f : (flitsOf (packet0 1 7 0#32 0).hdr (packet0 1 7 0#32 0).body).length = 2 := by simp [flitsOf, packet0, e]
  refine ⟨by rw [f]; decide, ?_⟩
  simp only [wireBytes, framesOf, f, List.map_map]
  simp [List.range, List.range.loop, sumNat]
  omega

theorem replicate_sum (c : Nat) : ∀ n, (List.replicate n c).sum = n * c
  | 0 => (Nat.zero_mul c).symm
  | n + 1 => by rw [List.replicate_succ, List.sum_cons, replicate_sum c n, Nat.succ_mul, Nat.add_comm]

/-- A relay buffer of 31,835 packets of 527 bytes has room for one more of 171 bytes and for none of 172 (R343). -/
theorem witness_PodMeetingEvents_relay :
    let used := ((List.replicate 31835 (packet0 0 7 0 511)).map (fun o => 16 + o.hdr.len.toNat)).sum
    used + (16 + (155#9).toNat) ≤ 16777216 ∧ 16777216 < used + (16 + (156#9).toNat) := by
  rw [List.map_replicate, replicate_sum]
  decide

/-- The fields of a trailer above its tag. -/
theorem trailerField_append (hi lo : BitVec 128) (a b : Nat) : trailerField (hi ++ lo) a (128 + b) = hi.toNat / 2 ^ b % 2 ^ (a - (128 + b) + 1) := by
  rw [trailerField, BitVec.toNat_append, ← Nat.shiftLeft_add_eq_or_of_lt lo.isLt, Nat.shiftLeft_eq, Nat.pow_add, ← Nat.div_div_eq_div_mul,
    Nat.mul_comm, Nat.mul_add_div (by decide), Nat.div_eq_of_lt lo.isLt, Nat.add_zero]

/-- A frame of one flit from position 7 on rotor 0, at the receiver's rotation 1 with counter 6, under the tag that its key makes, is
accepted; one at the counter last accepted is not. -/
theorem witness_PodMeetingEvents_frame (fl : Vec) :
    let hi := fun (c : Nat) => BitVec.ofNat 128 (c * 2 ^ 64 + 7 * 2 ^ 54 + 3 * 2 ^ 44 + 1 * 2 ^ 36)
    let m := Config.hkdf 0#256 (linkInfo 7 3 0 1)
    let tag := fun (c : Nat) => (Config.gcm (m.extractLsb' 32 256) (m.extractLsb' 0 32 ++ BitVec.ofNat 64 c) (hi c) [fl]).1
    FrameGood (key0 0 none) 3 7 0 1 (hi 6 ++ tag 6) [fl] ∧ ∀ r, ¬ FrameGood (key0 0 none) 3 7 0 r (hi 5 ++ tag 5) [fl] := by
  intro hi m tag
  have f (c a b : Nat) := trailerField_append (hi c) (tag c) a b
  have n (c : Nat) : (hi c ++ tag c).toNat = (hi c).toNat * 2 ^ 128 + (tag c).toNat := by
    rw [BitVec.toNat_append, ← Nat.shiftLeft_add_eq_or_of_lt (tag c).isLt, Nat.shiftLeft_eq]
  have up (c : Nat) : (hi c ++ tag c).extractLsb' 128 128 = hi c := by
    apply BitVec.eq_of_toNat_eq; rw [BitVec.extractLsb'_toNat, n, Nat.shiftRight_eq_div_pow]; omega
  have low (c : Nat) : (hi c ++ tag c).extractLsb' 0 128 = tag c := by
    apply BitVec.eq_of_toNat_eq; rw [BitVec.extractLsb'_toNat, n, Nat.shiftRight_zero]; omega
  have t : trailerField (hi 6 ++ tag 6) 255 192 = 6 := (f 6 255 64).trans (by simp [hi])
  constructor
  · refine ⟨(f 6 191 54).trans (by simp [hi]), (f 6 181 44).trans (by simp [hi]), (f 6 171 38).trans (by simp [hi]),
      congrArg (· + 1) ((f 6 163 32).trans (by simp [hi])), ⟨by decide, by decide, ((f 6 165 36).trans (by simp [hi])).symm⟩, fun c e _ => ?_, ?_⟩
    · cases e; rw [t]; decide
    · rw [low, opened, up, t]; rfl
  · intro r g
    have t : trailerField (hi 5 ++ tag 5) 165 164 = 1 := (f 5 165 36).trans (by simp [hi])
    have u : trailerField (hi 5 ++ tag 5) 255 192 = 5 := (f 5 255 64).trans (by simp [hi])
    have i := g.index
    have e : (key0 0 none).rot = 1 := rfl
    rw [t, e] at i
    have := g.newer 5 rfl (by rw [e]; omega)
    rw [u] at this
    omega

/-- A request of another module in a wait list; one of this module without reply for 1 ms; a summary waited for; a summary request
to be sent again; three failed windows; a packet dropped by a relay; a new join, of the next epoch; a key past 2^63 and a stopped
one; bounds of the times. -/
theorem witness_PodLossEvents :
    let mk := fun (o : Owner) (st : Stage) => withReqs (inPod id) [{ req0 with own := o, tgt := .remote 7, stage := st }]
    let ask : PeerAsk := { id := 9, pos := 7, sl := 1, tag := 3#2, batch := 1, items := [63], since := 0 }
    let asked := fun (c : Nat) => ({ linked (fun p => { p with asks := [ask] }) with cycle := c } : State)
    let late : Ask := { tag := 3, peer := .module 7, upto := 1, st := .posted 0 }
    let slotAsk := fun (c : Nat) => ({ inPod (fun x => { x with items := [item 3 0 0#8 false], asked := [late] }) with cycle := c } : State)
    let fails := fun (n : Nat) => linked (fun p => { p with fails := [(7, n)] })
    let gone : Unreceipted := { dst := 1023, seq := 0xFFFFFFFF#32, since := 0 }
    let keys := fun (k : Key) (c : Nat) => ({ linked (fun p => { p with keys := [(14, k)] }) with cycle := c } : State)
    (mk (.remote 7 1 2 0) (.waiting 0)).req? 9 = some { req0 with own := .remote 7 1 2 0, tgt := .remote 7, stage := .waiting 0 }
    ∧ 7 ∉ (inPod id).pod.lost ∧ (mk (.slot 0 th0) (.sent 0)).req? 9 = some { req0 with own := .slot 0 th0, tgt := .remote 7, stage := .sent 0 }
    ∧ req0.item = none
    ∧ (∀ c ∈ [1749999, 1750000], FirstIn (fun b : PeerAsk => b.id = 9) (asked c).pod.asks [] ask []
        ∧ ((slotAsk c).slot 0).asked = [late] ∧ (asked c).cycle = c ∧ (slotAsk c).cycle = c)
    ∧ FirstIn (fun b : Ask => b.tag = (3#2).toNat ∧ b.peer = .module 7 ∧ b.st = .posted 0 ∧ 0 + 1750000 ≤ (slotAsk 1750000).cycle) [late] [] late []
    ∧ (Tab.look (inPod id).pod.joins 7).isSome = true ∧ (inPod id).pod.pos ≠ some 7 ∧ (inPod id).reqs = []
    ∧ Tab.get 0 (fails 3).pod.fails (7#10).toNat = 3 ∧ Tab.get 0 (fails 2).pod.fails (7#10).toNat < 3
    ∧ (11#10).toNat ∈ (inPod id).pod.lost
    ∧ gone ∈ (linked (fun p => { p with unreceipted := [gone] })).pod.unreceipted ∧ (1023 : Nat) < 1024 ∧ (linked id).pod.unreceipted = []
    ∧ State.reset.pod.pos = none ∧ State.reset.mbox.phase ≠ 6 ∧ (mail 0 0 []).mbox.phase = 6
    ∧ Tab.look (inPod id).pod.joins (7#10).toNat = some { epoch := 2#8 - 1#8, cap := 0x3FFF#64 } ∧ (3#8 : BitVec 8) ≠ 1#8 + 1#8
    ∧ Tab.look (inPod id).pod.joins (1023#10).toNat = none ∧ (0#6).toNat = (3 ^^^ (7#10).toNat) / 16 ∧ (1#6).toNat ≠ (3 ^^^ (7#10).toNat) / 16
    ∧ Tab.look (inPod id).pod.keys 14 = none
    ∧ Tab.look (keys (key0 (2 ^ 63) none) 0).pod.keys 14 = some (key0 (2 ^ 63) none) ∧ 2 ^ 63 < (key0 (2 ^ 63 + 1) none).ctr
    ∧ (key0 0 (some 0)).exhausted = some 0 ∧ 0 + 1750000 ≤ (keys (key0 0 (some 0)) 1750000).cycle
    ∧ (keys (key0 0 (some 0)) 1749999).cycle < 0 + 1750000 := by
  unfold FirstIn
  decide +kernel

/-- A waiting request whose next notice is due and not yet; a loss notice and a refusal that have arrived, the packet's record there
and not; a member to be lost. -/
theorem witness_PodLossEvents_messages :
    let waits := fun (n : Nat) => withReqs (inPod id) [{ req0 with own := .remote 7 1 2 0, stage := .waiting 0, noticeAt := n }]
    let told := fun (l : List (Nat × PodBody)) => linked (fun p => { p with inbox := l, fails := [(7, 3)] })
    let mine : Unreceipted := { dst := 7, seq := 5#32, since := 0 }
    let m := (9, PodBody.lossNotice 7)
    let d := (9, PodBody.dropRefusal 7 5#32)
    (∀ n ∈ [0, 1], ((waits n).req? 9).map (fun r => (r.noticeAt, r.item)) = some (n, none)) ∧ (waits 0).cycle = 0 ∧ 7 ∉ (waits 0).pod.lost
    ∧ FirstIn (fun k : Nat × PodBody => k.2 = .lossNotice 7) (told [d, m]).pod.inbox [d] m []
    ∧ FirstIn (fun k : Nat × PodBody => k.2 = .dropRefusal 7 5#32) (told [m, d]).pod.inbox [m] d [] ∧ (told []).pod.inbox = []
    ∧ (Tab.look (told [m]).pod.joins 7).isSome = true ∧ (told [m]).pod.pos ≠ some 7 ∧ 7 ∉ (told [m]).pod.lost ∧ 11 ∈ (told [m]).pod.lost
    ∧ (∀ j ∈ (told [m]).pod.joins, j.1 < 1024) ∧ (told [m]).reqs = [] ∧ (told [d]).pod.unreceipted = [] ∧ 3 ≤ Tab.get 0 (told []).pod.fails 7
    ∧ mine ∈ (linked (fun p => { p with unreceipted := [mine] })).pod.unreceipted ∧ mine.dst = 7 ∧ mine.seq = 5#32 := by
  unfold FirstIn
  decide +kernel

/-! The manual's worked results: chapters "The scalar core" (R127 to R146), "The vector unit", "The traps" and others, each cited. -/

/-- After the word, register `d` holds `v`. -/
def gives (i : Instr) (a b : Word) (d : Reg) (v : Word) : Bool := after i (running (two a b)) (fun t => decide ((t.slot 0).rg d = v))
/-- After a word on va in v6, vb in v7 and the old v9, under an element format, v9 holds `v`. -/
def givesV (i : Instr) (e : Word) (a b old v : Nat) : Bool :=
  after i (running (fun x => under e (((x.setV 6 (BitVec.ofNat 256 a)).setV 7 (BitVec.ofNat 256 b)).setV 9 (BitVec.ofNat 256 old))))
    (fun t => decide (((t.slot 0).rv 9).toNat = v))
/-- The lanes of a vector, lane 0 first. -/
def lanes (n : Nat) (l : List Nat) : Nat := l.foldr (fun v a => v + 2 ^ n * a) 0

theorem test_mulh_signs : gives (.mulh 3 1 2) 0xFFFFFFFFFFFFFFFF 0xFFFFFFFFFFFFFFFF 3 0 = true := by decide
theorem test_mulhn : gives (.mulhn 3 1 2) 0xFFFFFFFFFFFFFFFF 0xFFFFFFFFFFFFFFFF 3 0xFFFFFFFFFFFFFFFE = true := by decide
theorem test_div_toward_zero : gives (.div 3 1 2) 0xFFFFFFFFFFFFFFF9 2 3 0xFFFFFFFFFFFFFFFD = true := by decide
theorem test_rem_sign : gives (.rem 3 1 2) 0xFFFFFFFFFFFFFFF9 2 3 0xFFFFFFFFFFFFFFFF = true := by decide
theorem test_divn_zero : gives (.divn 3 1 2) 7 0 3 0xFFFFFFFFFFFFFFFF = true := by decide
theorem test_remn_zero : gives (.remn 3 1 2) 7 0 3 7 = true := by decide
theorem test_div_overflow : gives (.div 3 1 2) 0x8000000000000000 0xFFFFFFFFFFFFFFFF 3 0x8000000000000000 = true := by decide
theorem test_shra : gives (.shra 3 1 2) 0xF000000000000010 0x44 3 0xFF00000000000001 = true := by decide
theorem test_rotr : gives (.rotr 3 1 2) 1 1 3 0x8000000000000000 = true := by decide
theorem test_clz : gives (.clz 3 1) 0x10000 0 3 47 = true := by decide
theorem test_sexth : gives (.sexth 3 1) 0x1234000000008001 0 3 0xFFFFFFFFFFFF8001 = true := by decide
theorem test_idxp_up : gives (.idxp 3 1 2) 0xA45FFE0140A68100 5 3 0xA45FFE0140A68178 = true := by decide
theorem test_idxp_down : gives (.idxp 3 1 2) 0xA45FFE0140A68100 0xFFFFFFFFFFFFFFFF 3 0xA45FFE0140A680E8 = true := by decide
theorem test_addpi : gives (.addpi 3 1 0xFF00) 0xA45FFE0140A68100 0 3 0xA45FFE0140A68000 = true := by decide
theorem test_getf : gives (.getf 3 1) 0xA45FFE0140A68100 0 3 0x5A4 = true := by decide
theorem test_adrp : gives (.adrp 3 1) 0xA45FFE0140A68100 0 3 0xFFE0140A68100 = true := by decide
theorem test_mkp : gives (.mkp 3 1 2) 0xA45FFE0140A68100 0xA 3 0x0A0FFE0140A68100 = true := by decide
theorem test_idxp_trap :
    after (.idxp 3 1 2) (running (fun x => handled (two 0xA44FFE0140A68100 1 x))) (fun t => let y := t.slot 0
      decide (y.finfo = 0x44A4) && decide (y.faddr = 0xA44FFE0140A68100) && decide (y.pc = 4) && decide (y.rg 3 = 0)) = true := by decide
theorem test_fpadd_tie : gives (.fpadd 3 1 2) 0x3F800000 0x33800000 3 0x3F800000 = true := by decide
theorem test_fpadd_above : gives (.fpadd 3 1 2) 0x3F800000 0x33800001 3 0x3F800001 = true := by decide
theorem test_fpfma :
    after (.fpfma 3 1 1) (running (fun x => (x.setG 1 0x3F800800).setG 3 0xBF800000)) (fun t => decide ((t.slot 0).rg 3 = 0x3A000400)) = true := by
  decide
theorem test_fptoi_tie : gives (.fptoi 3 1) 0x40200000 0 3 2 = true := by decide
theorem test_fptoiz : gives (.fptoiz 3 1) 0x40600000 0 3 3 = true := by decide
theorem test_fptoi_large : gives (.fptoi 3 1) 0x5F800000 0 3 0x7FFFFFFFFFFFFFFF = true := by decide
theorem test_itofp_tie : gives (.itofp 3 1) 0x1000001 0 3 0x4B800000 = true := by decide
theorem test_fptoh_overflow : gives (.fptoh 3 1) 0x477FF000 0 3 0x7C00 = true := by decide
theorem test_fpmin_zeros : gives (.fpmin 3 1 2) 0 0x80000000 3 0x80000000 = true := by decide
theorem test_vadd_wraps : givesV (.vadd 9 6 7) 0 100 60 0 0xA0 = true := by decide +kernel
theorem test_vadds : givesV (.vadds 9 6 7) 0 100 60 0 127 = true := by decide +kernel
theorem test_vmul_low : givesV (.vmul 9 6 7) 0 100 60 0 0x70 = true := by decide +kernel
theorem test_vmuls : givesV (.vmuls 9 6 7) 0 100 60 0 127 = true := by decide +kernel
theorem test_vcvt :
    givesV (.vcvt 9 6 0 1) 8 (lanes 32 [0x3FC00000, 0xC0200000, 0x43960000, 0x7FC00000, 0x3EFAE148, 0xBF000000, 0x40E00000, 0xC3480000]) 0
      (lanes 8 (List.replicate 32 0x55))
      (lanes 8 (List.replicate 8 0x55 ++ [2, 0xFE, 127, 0, 0, 0, 7, 0x80] ++ List.replicate 16 0x55)) = true := by decide +kernel
theorem test_vdot : givesV (.vdot 9 6 7) 0 0x04030201 0x08070605 10 80 = true := by decide +kernel
theorem test_vrsum : givesV (.vrsum 9 6) 8 (lanes 32 [0x4B800000, 0x3F800000, 0x3F800000]) 0 7 0x4B800001 = true := by decide +kernel

/-- "Worked trap" (R378): TRAP at offset 24 with TVEC 40; RTE returns (R384). -/
theorem test_trap :
    after (.trap 1 5) (running (fun x => { two 0x77 0 x with tvec := 40#64, pc := 24 })) (fun t => let y := t.slot 0
      decide (y.epc = 28) && decide (y.fcause = 0x8000000000000013) && decide (y.faddr = 0x77) && decide (y.finfo = 5) && decide (y.pc = 40)) = true := by
  decide
theorem test_rte :
    after .rte (running (fun x => { x with epc := 28#64, fcause := 0x8000000000000013#64, pc := 44 })) (fun t => let y := t.slot 0
      decide (y.fcause = 0x13) && decide (y.pc = 28)) = true := by decide

/-- ADDI g6, g1, 5, the worked example of chapter "Scope" with d 6, runs as the first word after reset. -/
theorem test_first_word :
    (match step (State.reset.withFetchWord 32 0x08C10005) with | .next t => decide ((t.slot 0).rg 6 = 5#64 ∧ (t.slot 0).pc = 4) | _ => false) = true := by
  decide +kernel

/-- "Worked 75/25" (R193): with Y idle its bucket is 1 and X receives 35; with both active 27 and 9. -/
theorem test_buckets :
    let c := fun (n : Nat) => { ctx0 with hbmShare := n }
    let act := fun (a : Bool) => ({ hbm := 0, fab := 0, hbmAct := a, fabAct := false } : Bucket)
    let node := fun (y : Bool) => { Node.reset with buckets := [(0, act true), (1, act y)] }
    let s := fun (y : Bool) => ({ State.reset with nodes := [(0, node y)], ctxs := [(0, c 192), (1, c 64)] } : State)
    after (.bucketPeriod 0) (s false) (fun t => decide ((t.bucket 0 0).hbm = 35 ∧ (t.bucket 0 1).hbm = 1)) = true
    ∧ after (.bucketPeriod 0) (s true) (fun t => decide ((t.bucket 0 0).hbm = 27 ∧ (t.bucket 0 1).hbm = 9)) = true := by decide +kernel

end Sys2Proof.Tests
end

section
/-! PROOFS. The address checks of R181 at the issuer, one lemma for each check and outcome, and O11. -/

namespace Sys2Proof.Claims

open Sys2Proof.Machine Sys2Proof.Safety

/-! ### The module that a VDN names -/

section Vdn

variable {s : State} {c : Ctx} {vdn : Nat}

theorem vdnModule_unnamed (hv : vdn ≠ 0x3FF) (he : (Tab.get 0#64 c.podTab vdn).getLsbD 63 = false) :
    vdnModule s (some c) vdn = .error 8 := by
  rw [vdnModule, if_neg hv]
  simp only [he]
  rfl

/-- The pod-table entry of the VDN is valid and names this module, or the VDN is the module's own (R181). -/
def NamesThis (s : State) (c : Ctx) (vdn : Nat) : Prop :=
  vdn = 0x3FF ∨ (Tab.get 0#64 c.podTab vdn).getLsbD 63 = true ∧ s.pod.pos = some ((Tab.get 0#64 c.podTab vdn).toNat % 2 ^ 10)

theorem vdnModule_this (h : NamesThis s c vdn) : vdnModule s (some c) vdn = .ok none := by
  by_cases hv : vdn = 0x3FF
  · simp [vdnModule, hv]
  · obtain ⟨he, hp⟩ := h.resolve_left hv
    simp [vdnModule, hv, he, hp]

theorem vdnModule_other (hk : vdn = 0x3FF ∨ (Tab.get 0#64 c.podTab vdn).getLsbD 63 = true) (h : ¬ NamesThis s c vdn) :
    vdnModule s (some c) vdn = .ok (some ((Tab.get 0#64 c.podTab vdn).toNat % 2 ^ 10)) := by
  have hv : vdn ≠ 0x3FF := fun e => h (.inl e)
  have he := hk.resolve_left hv
  have hp : s.pod.pos ≠ some ((Tab.get 0#64 c.podTab vdn).toNat % 2 ^ 10) := fun e => h (.inr ⟨he, e⟩)
  simpa [vdnModule, hv, he] using hp

theorem vdnModule_known (hk : vdn = 0x3FF ∨ (Tab.get 0#64 c.podTab vdn).getLsbD 63 = true) :
    ∃ o, vdnModule s (some c) vdn = .ok o := by
  by_cases h : NamesThis s c vdn
  · exact ⟨_, vdnModule_this h⟩
  · exact ⟨_, vdnModule_other hk h⟩

end Vdn

/-! ### Check 2: class, space, die and code banks -/

/-- Class and space of a module address (R32). -/
def addrClass (m : Nat) : Nat := m / 2 ^ 40
def addrSpace (m : Nat) : Nat := m / 2 ^ 38 % 4

/-- The two bits of the class are the top of the address. -/
theorem bits_class {m : Nat} (hm : m < 2 ^ 42) : bits m 41 40 = addrClass m := by
  unfold bits addrClass
  omega

/-- An on-chip word that check 2 lets through (R32, R33). -/
def OnChip (hart : Bool) (m : Nat) : Prop :=
  addrClass m = 2 ∧ addrSpace m ≠ 1 ∧ m / 2 ^ 35 % 8 = 0 ∧ m / 2 ^ 31 % 16 ≤ 9
    ∧ (addrSpace m = 3 → hart = true ∧ m / 2 ^ 19 % 4 = 0)

section Module

variable {hart : Bool} {m : Nat}

/-- Check 2 by the fields of the module address. -/
theorem spaceCheck_fields (hm : m < 2 ^ 42) :
    spaceCheck hart m = if addrClass m = 0 then 0 else if addrClass m = 1 then 1 else if addrClass m = 3 then 2
      else if addrSpace m = 1 then 1 else if m / 2 ^ 35 % 8 ≠ 0 ∨ 9 < m / 2 ^ 31 % 16 then 3
      else if addrSpace m = 3 ∧ (!hart ∨ m / 2 ^ 19 % 4 ≠ 0) then 4 else 0 := by
  unfold spaceCheck
  rw [bits_class hm]
  rfl

theorem spaceCheck_hbm (hm : m < 2 ^ 42) (h : addrClass m = 0) : spaceCheck hart m = 0 := by
  simp [spaceCheck_fields hm, h]

theorem spaceCheck_class1 (hm : m < 2 ^ 42) (h : addrClass m = 1) : spaceCheck hart m = 1 := by
  simp [spaceCheck_fields hm, h]

theorem spaceCheck_class3 (hm : m < 2 ^ 42) (h : addrClass m = 3) : spaceCheck hart m = 2 := by
  simp [spaceCheck_fields hm, h]

theorem spaceCheck_space1 (hm : m < 2 ^ 42) (h : addrClass m = 2) (hs : addrSpace m = 1) : spaceCheck hart m = 1 := by
  simp [spaceCheck_fields hm, h, hs]

theorem spaceCheck_die (hm : m < 2 ^ 42) (h : addrClass m = 2) (hs : addrSpace m ≠ 1)
    (hd : m / 2 ^ 35 % 8 ≠ 0 ∨ 9 < m / 2 ^ 31 % 16) : spaceCheck hart m = 3 := by
  rw [spaceCheck_fields hm, h, if_neg hs, if_pos hd]
  rfl

theorem spaceCheck_code (hm : m < 2 ^ 42) (h : addrClass m = 2) (hs : addrSpace m = 3) (hz : m / 2 ^ 35 % 8 = 0)
    (hd : m / 2 ^ 31 % 16 ≤ 9) (hc : hart = false ∨ m / 2 ^ 19 % 4 ≠ 0) : spaceCheck hart m = 4 := by
  rw [spaceCheck_fields hm, h, hs, if_neg (by decide), if_neg (by decide), if_neg (by decide), if_neg (by decide), if_neg (by omega),
    if_pos ⟨rfl, by simpa using hc⟩]

theorem spaceCheck_onChip (hm : m < 2 ^ 42) (h : OnChip hart m) : spaceCheck hart m = 0 := by
  obtain ⟨hcls, hs, hz, hd, hc⟩ := h
  have hcode : ¬ (addrSpace m = 3 ∧ ((!hart) = true ∨ m / 2 ^ 19 % 4 ≠ 0)) := by
    rintro ⟨h3, hb⟩
    obtain ⟨hh, h0⟩ := hc h3
    rw [hh] at hb
    exact hb.elim (by decide) (fun e => e h0)
  rw [spaceCheck_fields hm, hcls, if_neg (by decide), if_neg (by decide), if_neg (by decide), if_neg hs, if_neg (by omega), if_neg hcode]

theorem OnChip.class_ne (h : OnChip hart m) : addrClass m ≠ 0 := by
  rw [h.1]
  decide

/-! ### Check 3: allotment and windows -/

variable {c : Ctx} {n : Need} {w : BitVec 128}

theorem localCheck_allotted (hm : m < 2 ^ 42) (h : addrClass m ≠ 0) (ha : c.allots (m / 2 ^ 21 % 2 ^ 14) = true) :
    localCheck (some c) n m = .ok m := by
  unfold localCheck
  rw [bits_class hm, if_neg h]
  exact if_pos ha

theorem localCheck_notAllotted (hm : m < 2 ^ 42) (h : addrClass m ≠ 0) (ha : c.allots (m / 2 ^ 21 % 2 ^ 14) = false) :
    localCheck (some c) n m = .error 5 := by
  unfold localCheck
  rw [bits_class hm, if_neg h]
  exact if_neg (by rw [show bits m 34 21 = m / 2 ^ 21 % 2 ^ 14 from rfl, ha]; decide)

/-- The address within the windows (R180). -/
theorem bits_window (m : Nat) : bits m 39 0 = m % 2 ^ 40 := by simp [bits]

theorem localCheck_noWindow (hm : m < 2 ^ 42) (h : addrClass m = 0) (hw : ∀ w ∈ c.windows, winCovers (m % 2 ^ 40) w = false) :
    localCheck (some c) n m = .error 6 := by
  have hf : c.windows.find? (winCovers (m % 2 ^ 40)) = none := List.find?_eq_none.2 fun w hw' => by rw [hw w hw']; decide
  simp only [localCheck, bits_class hm, h, if_true, bits_window, hf]

/-- A window forbids an access whose permission it lacks (R180). -/
theorem winGrants_eq_false (h : n.r = true ∧ w.getLsbD 0 = false ∨ n.w = true ∧ w.getLsbD 1 = false ∨ n.a = true ∧ w.getLsbD 2 = false) :
    winGrants n w = false := by
  rw [winGrants, Bool.and_eq_false_iff, Bool.and_eq_false_iff]
  obtain ⟨hn, hb⟩ | ⟨hn, hb⟩ | ⟨hn, hb⟩ := h
  · exact .inl (.inl (by rw [hn, hb]; rfl))
  · exact .inl (.inr (by rw [hn, hb]; rfl))
  · exact .inr (by rw [hn, hb]; rfl)

theorem winGrants_eq_true (hr : n.r = true → w.getLsbD 0 = true) (hw : n.w = true → w.getLsbD 1 = true)
    (ha : n.a = true → w.getLsbD 2 = true) : winGrants n w = true := by
  have grants {need bit : Bool} (h : need = true → bit = true) : (!need || bit) = true := by cases need <;> simp_all
  rw [winGrants, grants hr, grants hw, grants ha]
  rfl

theorem localCheck_forbidden (hm : m < 2 ^ 42) (h : addrClass m = 0) (hf : c.windows.find? (winCovers (m % 2 ^ 40)) = some w)
    (hg : winGrants n w = false) : localCheck (some c) n m = .error 7 := by
  simp only [localCheck, bits_class hm, h, if_true, bits_window, hf, hg, Bool.false_eq_true, if_false]

theorem localCheck_granted (hm : m < 2 ^ 42) (h : addrClass m = 0) (hf : c.windows.find? (winCovers (m % 2 ^ 40)) = some w)
    (hg : winGrants n w = true) : localCheck (some c) n m = .ok (winPbase w * 65536 + m % 2 ^ 40 - winVbase w * 65536) := by
  simp only [localCheck, bits_class hm, h, if_true, bits_window, hf, hg, winPhys]

/-! ### Check 4: states and units -/

/-- The access asks for word states, or for atomics, where its space has none (R163 reason 10). -/
def LacksUnit (n : Need) (m : Nat) : Prop :=
  n.sync = true ∧ ¬ (addrClass m = 2 ∧ addrSpace m = 0) ∨ n.a = true ∧ addrClass m = 2 ∧ addrSpace m ≠ 0

/-- A B-SRAM word on a retired bus of a tile of this module (R163 reason 11, R279). -/
def OnRetiredBus (s : State) (m : Nat) : Prop :=
  addrSpace m = 2 ∧ (2 ≤ (s.tile (m / 2 ^ 17 % 2 ^ 18)).rbus ∨ (s.tile (m / 2 ^ 17 % 2 ^ 18)).rbus = 1 ∧ 65536 ≤ m % 2 ^ 17)

variable {s : State} {own : Bool}

/-- Check 4 by the fields of the module address. -/
theorem unitCheck_fields (hm : m < 2 ^ 42) :
    unitCheck s n own m = if n.sync && !(decide (addrClass m = 2) && decide (addrSpace m = 0)) then 10
      else if n.a && decide (addrClass m = 2) && !(decide (addrClass m = 2) && decide (addrSpace m = 0)) then 10
      else if own && (decide (addrClass m = 2) && decide (addrSpace m = 2)) then
        (if 2 ≤ (s.tile (m / 2 ^ 17 % 2 ^ 18)).rbus then 11
         else if (s.tile (m / 2 ^ 17 % 2 ^ 18)).rbus = 1 ∧ 65536 ≤ m % 2 ^ 17 then 11 else 0)
      else 0 := by
  have htile : bits m 34 17 % 2 ^ 18 = m / 2 ^ 17 % 2 ^ 18 := Nat.mod_mod _ _
  have hoff : bits m 16 0 = m % 2 ^ 17 := by simp [bits]
  unfold unitCheck
  rw [bits_class hm, htile, hoff]
  rfl

theorem unitCheck_lacksUnit (hm : m < 2 ^ 42) (h : LacksUnit n m) : unitCheck s n own m = 10 := by
  rw [unitCheck_fields hm]
  obtain ⟨hs, hn⟩ | ⟨ha, hc, hn⟩ := h
  · exact if_pos (by rw [hs, ← Bool.decide_and, decide_eq_false hn]; rfl)
  · simp [ha, hc, hn]

/-- Check 4 once word states and atomics are served: the retired buses of this module's own tiles. -/
theorem unitCheck_served (hm : m < 2 ^ 42) (h : ¬ LacksUnit n m) :
    unitCheck s n own m = if own = true ∧ addrClass m = 2 ∧ addrSpace m = 2 then
      (if 2 ≤ (s.tile (m / 2 ^ 17 % 2 ^ 18)).rbus then 11
       else if (s.tile (m / 2 ^ 17 % 2 ^ 18)).rbus = 1 ∧ 65536 ≤ m % 2 ^ 17 then 11 else 0)
      else 0 := by
  obtain ⟨hs, ha⟩ := not_or.1 h
  rw [unitCheck_fields hm, if_neg (by simpa using hs), if_neg (by simpa [imp_and] using ha)]
  simp only [Bool.and_eq_true, decide_eq_true_eq]

theorem unitCheck_retiredBus (hm : m < 2 ^ 42) (h : ¬ LacksUnit n m) (hc : addrClass m = 2) (hb : OnRetiredBus s m) :
    unitCheck s n true m = 11 := by
  obtain ⟨hs, h2 | h1⟩ := hb
  · rw [unitCheck_served hm h, if_pos ⟨rfl, hc, hs⟩, if_pos h2]
  · rw [unitCheck_served hm h, if_pos ⟨rfl, hc, hs⟩, if_neg (by omega), if_pos h1]

theorem unitCheck_this (hm : m < 2 ^ 42) (h : ¬ LacksUnit n m) (hb : addrClass m = 2 → ¬ OnRetiredBus s m) :
    unitCheck s n true m = 0 := by
  rw [unitCheck_served hm h]
  split
  next hbs =>
    obtain ⟨h2, h1⟩ := not_or.1 fun hr => hb hbs.2.1 ⟨hbs.2.2, hr⟩
    rw [if_neg h2, if_neg h1]
  next => rfl

theorem unitCheck_other (hm : m < 2 ^ 42) (h : ¬ LacksUnit n m) : unitCheck s n false m = 0 := by
  simp [unitCheck_served hm h]

end Module

/-! ### The checks in their order -/

section Order

variable {s : State} {ctx : Nat} {c : Ctx} {n : Need} {ea : Nat}

/-- VDN and module address of a 52-bit address (R32). -/
theorem bits_vdn (hea : ea < 2 ^ 52) : bits ea 51 42 = ea / 2 ^ 42 := by
  unfold bits
  omega
theorem bits_module (ea : Nat) : bits ea 41 0 = ea % 2 ^ 42 := by simp [bits]

variable (hc : s.context ctx = some c) (hea : ea < 2 ^ 52)
include hc hea

theorem checkAddr_vdn {r : Nat} (hv : vdnModule s (some c) (ea / 2 ^ 42) = .error r) : checkAddr s ctx n ea = .error r := by
  simp only [checkAddr, hc, bits_vdn hea, hv]

/-- Check 2 fails alike for this module's addresses and another's. -/
theorem checkAddr_space {o : Option Nat} {k : Nat} (hv : vdnModule s (some c) (ea / 2 ^ 42) = .ok o)
    (hs : spaceCheck n.hart (ea % 2 ^ 42) = k) (hk : k ≠ 0) : checkAddr s ctx n ea = .error k := by
  cases o <;> simp only [checkAddr, hc, bits_vdn hea, bits_module, hv, hs, if_pos hk]

theorem checkAddr_local {r : Nat} (hv : vdnModule s (some c) (ea / 2 ^ 42) = .ok none)
    (hs : spaceCheck n.hart (ea % 2 ^ 42) = 0) (hl : localCheck (some c) n (ea % 2 ^ 42) = .error r) :
    checkAddr s ctx n ea = .error r := by
  simp only [checkAddr, hc, bits_vdn hea, bits_module, hv, hs, ne_eq, not_true, if_false, hl]

theorem checkAddr_this {loc k : Nat} (hv : vdnModule s (some c) (ea / 2 ^ 42) = .ok none)
    (hs : spaceCheck n.hart (ea % 2 ^ 42) = 0) (hl : localCheck (some c) n (ea % 2 ^ 42) = .ok loc)
    (hu : unitCheck s n true (ea % 2 ^ 42) = k) : checkAddr s ctx n ea = if k ≠ 0 then .error k else .ok (.mem loc) := by
  simp only [checkAddr, hc, bits_vdn hea, bits_module, hv, hs, ne_eq, not_true, if_false, hl, hu]

theorem checkAddr_other {p k : Nat} (hv : vdnModule s (some c) (ea / 2 ^ 42) = .ok (some p))
    (hs : spaceCheck n.hart (ea % 2 ^ 42) = 0) (hu : unitCheck s n false (ea % 2 ^ 42) = k) :
    checkAddr s ctx n ea = if k ≠ 0 then .error k else .ok (.remote p) := by
  simp only [checkAddr, hc, bits_vdn hea, bits_module, hv, hs, ne_eq, not_true, if_false, hu]

/-! ### The outcomes, by the module that the address lies in -/

/-- The addresses of another module: the checks of the issuer end with the units (R181). -/
theorem checkAddr_elsewhere
    (hk : ea / 2 ^ 42 = 0x3FF ∨ (Tab.get 0#64 c.podTab (ea / 2 ^ 42)).getLsbD 63 = true)
    (hh : ¬ NamesThis s c (ea / 2 ^ 42)) (hp : addrClass (ea % 2 ^ 42) = 0 ∨ OnChip n.hart (ea % 2 ^ 42)) :
    (LacksUnit n (ea % 2 ^ 42) → checkAddr s ctx n ea = .error 10)
    ∧ (¬ LacksUnit n (ea % 2 ^ 42) →
        checkAddr s ctx n ea = .ok (.remote ((Tab.get 0#64 c.podTab (ea / 2 ^ 42)).toNat % 2 ^ 10))) := by
  have hm : ea % 2 ^ 42 < 2 ^ 42 := Nat.mod_lt _ (by decide)
  have hs : spaceCheck n.hart (ea % 2 ^ 42) = 0 := hp.elim (spaceCheck_hbm hm) (spaceCheck_onChip hm)
  exact ⟨fun hu => checkAddr_other hc hea (vdnModule_other hk hh) hs (unitCheck_lacksUnit hm hu),
    fun hu => checkAddr_other hc hea (vdnModule_other hk hh) hs (unitCheck_other hm hu)⟩

/-- An on-chip word of an allotted node of this module. -/
theorem checkAddr_allotted (hh : NamesThis s c (ea / 2 ^ 42)) (ho : OnChip n.hart (ea % 2 ^ 42))
    (ha : c.allots (ea % 2 ^ 42 / 2 ^ 21 % 2 ^ 14) = true) {k : Nat} (hu : unitCheck s n true (ea % 2 ^ 42) = k) :
    checkAddr s ctx n ea = if k ≠ 0 then .error k else .ok (.mem (ea % 2 ^ 42)) := by
  have hm : ea % 2 ^ 42 < 2 ^ 42 := Nat.mod_lt _ (by decide)
  exact checkAddr_this hc hea (vdnModule_this hh) (spaceCheck_onChip hm ho) (localCheck_allotted hm ho.class_ne ha) hu

/-- An HBM address of this module that a window covers and grants. -/
theorem checkAddr_granted (hh : NamesThis s c (ea / 2 ^ 42)) (h0 : addrClass (ea % 2 ^ 42) = 0) {w : BitVec 128}
    (hf : c.windows.find? (winCovers (ea % 2 ^ 42 % 2 ^ 40)) = some w) (hg : winGrants n w = true) :
    checkAddr s ctx n ea = if n.sync then .error 10
      else .ok (.mem (winPbase w * 65536 + ea % 2 ^ 42 % 2 ^ 40 - winVbase w * 65536)) := by
  have hm : ea % 2 ^ 42 < 2 ^ 42 := Nat.mod_lt _ (by decide)
  have hcls : ¬ addrClass (ea % 2 ^ 42) = 2 := by rw [h0]; decide
  have hthis {k : Nat} := checkAddr_this hc hea (k := k) (vdnModule_this hh) (spaceCheck_hbm hm h0)
    (localCheck_granted hm h0 hf hg)
  by_cases hs : n.sync = true
  · rw [hthis (unitCheck_lacksUnit hm (.inl ⟨hs, fun e => hcls e.1⟩)), if_pos hs]
    rfl
  · have hu : ¬ LacksUnit n (ea % 2 ^ 42) := fun e => e.elim (fun e => hs e.1) (fun e => hcls e.2.1)
    rw [hthis (unitCheck_this hm hu fun e => absurd e hcls), if_neg hs]
    rfl

end Order

/-- Settles O11: each outcome is the first of the four checks of R181 that fails, by the lemma of that check. -/
theorem addressChecks : Obligations.AddressChecks := by
  intro s ctx c n ea hc hea
  have hm : ea % 2 ^ 42 < 2 ^ 42 := Nat.mod_lt _ (by decide)
  refine ⟨fun hv he => checkAddr_vdn hc hea (vdnModule_unnamed hv he), ?known, checkAddr_elsewhere hc hea, ?here⟩
  case known =>
    intro hk
    obtain ⟨o, ho⟩ := vdnModule_known (s := s) hk
    have fails {k : Nat} := checkAddr_space (n := n) (k := k) hc hea ho
    exact ⟨fun h => fails (spaceCheck_class1 hm h) (by decide), fun h => fails (spaceCheck_class3 hm h) (by decide),
      fun h hs => fails (spaceCheck_space1 hm h hs) (by decide),
      fun h hs hd => fails (spaceCheck_die hm h hs hd) (by decide),
      fun h hs hz hd hb => fails (spaceCheck_code hm h hs hz hd hb) (by decide)⟩
  case here =>
    intro hh
    refine ⟨?foreign, ?allotted, ?noWindow, ?window⟩
    case foreign =>
      intro ho ha
      exact checkAddr_local hc hea (vdnModule_this hh) (spaceCheck_onChip hm ho)
        (localCheck_notAllotted hm (OnChip.class_ne ho) ha)
    case allotted =>
      intro ho ha
      have ends {k : Nat} := checkAddr_allotted (k := k) hc hea hh ho ha
      refine ⟨fun h0 => ?_, fun h0 hn => ?_, fun h0 hs hna => ⟨fun hb => ?_, fun hb => ?_⟩⟩
      · have hu : ¬ LacksUnit n (ea % 2 ^ 42) := fun e => e.elim (fun e => e.2 ⟨ho.1, h0⟩) (fun e => e.2.2 h0)
        exact ends (unitCheck_this hm hu fun _ hb => absurd (hb.1.symm.trans h0) (by decide))
      · exact ends (unitCheck_lacksUnit hm (hn.imp (fun e => ⟨e, fun e => h0 e.2⟩) (fun e => ⟨e, ho.1, h0⟩)))
      all_goals have hu : ¬ LacksUnit n (ea % 2 ^ 42) := by simp [LacksUnit, hs, hna]
      · exact ends (unitCheck_retiredBus hm hu ho.1 hb)
      · exact ends (unitCheck_this hm hu fun _ => hb)
    case noWindow =>
      intro h0 hw
      exact checkAddr_local hc hea (vdnModule_this hh) (spaceCheck_hbm hm h0) (localCheck_noWindow hm h0 hw)
    case window =>
      intro w h0 hf
      exact ⟨fun hb => checkAddr_local hc hea (vdnModule_this hh) (spaceCheck_hbm hm h0)
          (localCheck_forbidden hm h0 hf (winGrants_eq_false hb)),
        fun hr hw ha => checkAddr_granted hc hea hh h0 hf (winGrants_eq_true hr hw ha)⟩

end Sys2Proof.Claims
end

section
/-! PROOFS. Fields of equal width packed in a number, from the least significant up. -/

namespace Sys2Proof.Claims

open Sys2Proof.Machine

/-- The fields `f 0`, ..., `f (n - 1)` of `b` bits each. -/
def packed (f : Nat → Nat) (b : Nat) : Nat → Nat
  | 0 => 0
  | n + 1 => packed f b n + f n * 2 ^ (b * n)

section Packed

variable {f : Nat → Nat} {b : Nat}

theorem packed_lt : ∀ {n : Nat}, (∀ t < n, f t < 2 ^ b) → packed f b n < 2 ^ (b * n)
  | 0, _ => Nat.one_pos
  | n + 1, hf => by
    have ih : packed f b n < 2 ^ (b * n) := packed_lt fun t ht => hf t (by omega)
    have htop : (f n + 1) * 2 ^ (b * n) ≤ 2 ^ b * 2 ^ (b * n) := Nat.mul_le_mul_right _ (hf n (by omega))
    calc packed f b n + f n * 2 ^ (b * n) < (f n + 1) * 2 ^ (b * n) := by rw [Nat.succ_mul]; omega
      _ ≤ 2 ^ b * 2 ^ (b * n) := htop
      _ = 2 ^ (b * (n + 1)) := by rw [← Nat.pow_add, Nat.mul_succ, Nat.add_comm]

theorem packed_field : ∀ {n k : Nat}, (∀ t < n, f t < 2 ^ b) → k < n → packed f b n / 2 ^ (b * k) % 2 ^ b = f k
  | n + 1, k, hf, hk => by
    have hlow : ∀ t < n, f t < 2 ^ b := fun t ht => hf t (by omega)
    obtain hlt | rfl := Nat.lt_succ_iff_lt_or_eq.1 hk
    · obtain ⟨j, rfl⟩ : ∃ j, n = k + (j + 1) := ⟨n - k - 1, by omega⟩
      have hsplit : f (k + (j + 1)) * 2 ^ (b * (k + (j + 1))) = 2 ^ b * (f (k + (j + 1)) * 2 ^ (b * j)) * 2 ^ (b * k) := by
        have hexp : b * (k + (j + 1)) = b + b * j + b * k := by
          rw [Nat.mul_add, Nat.mul_succ, Nat.add_comm (b * j) b, Nat.add_comm]
        rw [hexp, Nat.pow_add, Nat.pow_add, ← Nat.mul_assoc, Nat.mul_left_comm]
      rw [packed, hsplit, Nat.add_mul_div_right _ _ (Nat.two_pow_pos _), Nat.add_mul_mod_self_left, packed_field hlow hlt]
    · rw [packed, Nat.add_mul_div_right _ _ (Nat.two_pow_pos _), Nat.div_eq_of_lt (packed_lt hlow), Nat.zero_add,
        Nat.mod_eq_of_lt (hf k hk)]

/-- A sum over the field numbers, each field shifted to its place above bit `o`. -/
theorem foldl_shifted_fields (o : Nat) : ∀ n : Nat,
    (List.range n).foldl (fun a t => a + f t * 2 ^ (o + b * t)) 0 = packed f b n * 2 ^ o
  | 0 => (Nat.zero_mul _).symm
  | n + 1 => by
    rw [List.range_succ, List.foldl_append, foldl_shifted_fields o n, packed, Nat.add_mul, Nat.mul_assoc, ← Nat.pow_add,
      Nat.add_comm (b * n)]
    rfl

end Packed

/-- Two folds agree whose steps agree on the list's elements. -/
theorem foldl_congr_mem {α β : Type} {g h : α → β → α} : ∀ {l : List β} {a : α}, (∀ a, ∀ x ∈ l, g a x = h a x) →
    l.foldl g a = l.foldl h a
  | [], _, _ => rfl
  | x :: l, a, hgh => by
    rw [List.foldl_cons, List.foldl_cons, hgh a x List.mem_cons_self]
    exact foldl_congr_mem fun b y hy => hgh b y (List.mem_cons_of_mem x hy)

/-- What lies from bit `j` up in the part of a number above bit `o`. -/
theorem mul_add_div_two_pow {p r o : Nat} (j : Nat) (hr : r < 2 ^ o) : (p * 2 ^ o + r) / 2 ^ (o + j) = p / 2 ^ j := by
  rw [Nat.pow_add, ← Nat.div_div_eq_div_mul, Nat.add_comm, Nat.add_mul_div_right _ _ (Nat.two_pow_pos o), Nat.div_eq_of_lt hr,
    Nat.zero_add]

theorem wd_toNat {n : Nat} (h : n < 2 ^ 64) : (wd n).toNat = n := Nat.mod_eq_of_lt h

end Sys2Proof.Claims
end

section
/-! PROOFS. SRD and SWR on the special registers (R385, R386), and O36. -/

namespace Sys2Proof.Claims

open Sys2Proof.Machine Sys2Proof.Safety

/-! ### SRD -/

/-- SRD reads no register, so that no operand is corrected. -/
theorem correctReads_srd (s : State) (d : Reg) (n : BitVec 12) : correctReads s s.cur (usesOf (.srd d n)) = s := by
  have hz : (s.slot s.cur).rcorr &&& 0#48 = 0#48 := BitVec.and_zero
  exact if_pos hz

/-- SRD writes what the special register reads as. -/
theorem srd_writes {s : State} {d : Reg} {n : BitVec 12} (h : Issues s (.srd d n)) :
    WritesG s (.srd d n) d (readSpecial s s.cur n.toNat) := by
  refine writesG_of h ?_
  show issue (.srd d n) s (fun t => writeG t d (readSpecial t t.cur n.toNat)) = _
  rw [issue_issues h, issue_issues h, correctReads_srd]

/-- The same, by the register's number and value. -/
theorem srd_writes_of {s : State} {d : Reg} {n : BitVec 12} {k : Nat} {v : Word} (hn : n.toNat = k)
    (hv : readSpecial s s.cur k = v) (h : Issues s (.srd d n)) : WritesG s (.srd d n) d v := by
  subst hn hv
  exact srd_writes h

theorem readSpecial_plain (s : State) : ∀ e ∈ plainSpecials s, readSpecial s s.cur e.1 = e.2 := by
  simp only [plainSpecials, List.forall_mem_cons]
  exact ⟨rfl, rfl, rfl, rfl, rfl, rfl, rfl, rfl, rfl, rfl, rfl, rfl, rfl, rfl, rfl, fun _ h => nomatch h⟩

theorem readSpecial_counter (s : State) (sl : Nat) (k : Fin 16) : readSpecial s sl (0x050 + k.val) = (s.slot sl).cnt.get k := by
  obtain ⟨k, hk⟩ := k
  have hcnt : (Fin.ofNat 16 (0x050 + k - 0x050) : Fin 16) = ⟨k, hk⟩ := Fin.ext (by simp only [Fin.ofNat]; omega)
  have hbelow : ∀ r < 0x050, ¬ 0x050 + k = r := fun r hr => by omega
  have hrange : 0x050 ≤ 0x050 + k ∧ 0x050 + k < 0x060 := by omega
  simp (disch := decide) only [readSpecial, hbelow, if_false, if_pos hrange, hcnt]

/-! ### The packed registers -/

/-- Bit `i` of the enabled slots of a core in CAPS (R388). -/
def enabledBit (s : State) (c i : Nat) : Nat := b2n (decide ((s.slot (c * 8 + i)).st ≠ .disabled))

theorem enabledBit_lt (s : State) (c i : Nat) : enabledBit s c i < 2 ^ 1 := by
  unfold enabledBit b2n
  split <;> decide

theorem enabledBit_eq_zero {s : State} {c i : Nat} : enabledBit s c i = 0 ↔ (s.slot (c * 8 + i)).st = .disabled := by
  simp [enabledBit, b2n]

/-- PLATEG of a slot's context (R388). -/
def plateGOf (s : State) (sl : Nat) : Nat :=
  match s.context (s.slot sl).ctx with
  | some c => c.plateG
  | none => 0

theorem plateGOf_some {s : State} {sl : Nat} {c : Ctx} (h : s.context (s.slot sl).ctx = some c) : plateGOf s sl = c.plateG := by
  simp [plateGOf, h]

theorem plateGOf_lt {s : State} {sl : Nat} (h : ∀ c, s.context (s.slot sl).ctx = some c → c.plateG < 16) :
    plateGOf s sl < 16 := by
  unfold plateGOf
  split
  next c hc => exact h c hc
  next => decide

theorem capsWord_fields (s : State) (sl : Nat) :
    capsWord s sl = wd (packed (enabledBit s (coreOfSlot sl)) 1 8 * 2 ^ 48
      + (s.tile (tileOfSlot sl)).rbus * 2 ^ 46 + plateGOf s sl) := by
  have hen : (slotsOfCore (coreOfSlot sl)).foldl (fun a k => a + b2n (decide ((s.slot k).st ≠ .disabled)) * 2 ^ (k % 8)) 0
      = packed (enabledBit s (coreOfSlot sl)) 1 8 * 2 ^ 0 := by
    rw [← foldl_shifted_fields, slotsOfCore, List.foldl_map]
    refine foldl_congr_mem fun a i hi => ?_
    have hmod : (coreOfSlot sl * 8 + i) % 8 = 0 + 1 * i := by have := List.mem_range.1 hi; omega
    rw [hmod]
    rfl
  rw [Nat.pow_zero, Nat.mul_one] at hen
  rw [← hen]
  rfl

/-- CAPS reads as its fields (R388). -/
theorem readSpecial_caps {s : State} (hb : (s.tile (tileOfSlot s.cur)).rbus < 4)
    (hg : ∀ c, s.context (s.slot s.cur).ctx = some c → c.plateG < 16) {v : Nat} (hv : v = (readSpecial s s.cur 0x003).toNat) :
    (∀ k < 8, (v / 2 ^ (48 + k) % 2 = 0 ↔ (s.slot (s.cur / 8 * 8 + k)).st = .disabled))
    ∧ v / 2 ^ 46 % 4 = (s.tile (tileOfSlot s.cur)).rbus
    ∧ (∀ c, s.context (s.slot s.cur).ctx = some c → v % 16 = c.plateG) := by
  have hbits := fun t (_ : t < 8) => enabledBit_lt s (coreOfSlot s.cur) t
  have hen : packed (enabledBit s (coreOfSlot s.cur)) 1 8 < 2 ^ 8 := packed_lt hbits
  have hG : plateGOf s s.cur < 16 := plateGOf_lt hg
  have hval : v = packed (enabledBit s (coreOfSlot s.cur)) 1 8 * 2 ^ 48
      + ((s.tile (tileOfSlot s.cur)).rbus * 2 ^ 46 + plateGOf s s.cur) := by
    rw [hv, show readSpecial s s.cur 0x003 = capsWord s s.cur from rfl, capsWord_fields, wd_toNat (by omega)]
    omega
  refine ⟨fun k hk => ?_, by omega, fun c hc => ?_⟩
  · have hfield := packed_field hbits hk
    rw [Nat.one_mul, Nat.pow_one] at hfield
    rw [hval, mul_add_div_two_pow k (by omega), hfield]
    exact enabledBit_eq_zero
  · rw [← plateGOf_some hc]
    omega

/-- BSTAT reads as the open items of each tag above its stored half (R186). -/
theorem readSpecial_bstat {s : State} (hi : ∀ k < 4, ((s.slot s.cur).tagItems k).length ≤ 64) {v : Nat}
    (hv : v = (readSpecial s s.cur 0x019).toNat) :
    v % 2 ^ 16 = (s.slot s.cur).bstat.toNat ∧ ∀ k < 4, v / 2 ^ (32 + 8 * k) % 2 ^ 8 = ((s.slot s.cur).tagItems k).length := by
  have hlen : ∀ t < 4, ((s.slot s.cur).tagItems t).length < 2 ^ 8 := fun t ht => Nat.lt_of_le_of_lt (hi t ht) (by decide)
  have hpack := packed_lt hlen
  have hb := (s.slot s.cur).bstat.isLt
  have hval : v = packed (fun t => ((s.slot s.cur).tagItems t).length) 8 4 * 2 ^ 32 + (s.slot s.cur).bstat.toNat := by
    rw [hv, show readSpecial s s.cur 0x019 = bstatWord (s.slot s.cur) from rfl, bstatWord, foldl_shifted_fields, wd_toNat (by omega)]
  refine ⟨by omega, fun k hk => ?_⟩
  rw [hval, mul_add_div_two_pow _ (by omega), packed_field hlen hk]

/-- LANDST reads as its three counts (R122). -/
theorem readSpecial_landst {s : State} (hr : (s.slot s.cur).routes.length ≤ 16) (hl : (s.slot s.cur).logged ≤ 32)
    (hc : (s.core (coreOfSlot s.cur)).lbuf.length ≤ 32) {v : Nat} (hv : v = (readSpecial s s.cur 0x028).toNat) :
    v % 2 ^ 8 = ((s.core (coreOfSlot s.cur)).lbuf.filter (fun e => decide (e.th = (s.slot s.cur).th))).length
    ∧ v / 2 ^ 8 % 2 ^ 8 = (s.slot s.cur).logged ∧ v / 2 ^ 16 = (s.slot s.cur).routes.length := by
  have hh := Nat.le_trans (List.length_filter_le (fun e => decide (e.th = (s.slot s.cur).th)) (s.core (coreOfSlot s.cur)).lbuf) hc
  have hval : v = (s.slot s.cur).routes.length * 2 ^ 16 + (s.slot s.cur).logged * 2 ^ 8
      + ((s.core (coreOfSlot s.cur)).lbuf.filter (fun e => decide (e.th = (s.slot s.cur).th))).length := by
    rw [hv, show readSpecial s s.cur 0x028 = landstWord s s.cur from rfl, landstWord, wd_toNat (by omega)]
  omega

/-! ### SWR -/

/-- A change of a slot that leaves registers and counters alone, and that is the same before and after the word retires. -/
structure SpecialsOnly (f : Slot → Slot) : Prop where
  g : ∀ x, (f x).g = x.g
  v : ∀ x, (f x).v = x.v
  pres : ∀ x, (f x).pres = x.pres
  cnt : ∀ x, (f x).cnt = x.cnt
  retire : ∀ x m p, f (Slot.retire { x with rcorr := m } p) = Slot.retire { f x with rcorr := m } p

theorem specialsOnly_id : SpecialsOnly id :=
  ⟨fun _ => rfl, fun _ => rfl, fun _ => rfl, fun _ => rfl, fun _ _ _ => rfl⟩

theorem specialWrites_specialsOnly (v : Word) : ∀ e ∈ specialWrites v, SpecialsOnly e.2 := by
  simp only [specialWrites, List.forall_mem_cons]
  refine ⟨?_, ?_, ?_, ?_, ?_, ?_, ?_, ?_, ?_, ?_, ?_, ?_, ?_, fun _ h => nomatch h⟩
  all_goals exact ⟨fun _ => rfl, fun _ => rfl, fun _ => rfl, fun _ => rfl, fun _ _ _ => rfl⟩

section Write

variable {x : Slot} {n : Nat} {v : Word}

theorem writeSpecial_listed : ∀ e ∈ specialWrites v, x.writeSpecial e.1 v = e.2 x := by
  simp only [specialWrites, List.forall_mem_cons]
  refine ⟨rfl, rfl, rfl, rfl, rfl, rfl, ?landst, rfl, rfl, rfl, rfl, rfl, rfl, fun _ h => nomatch h⟩
  case landst =>
    show (if v.getLsbD 32 = true then { x with routes := [] } else x) = _
    split <;> rfl

theorem writeSpecial_unlisted (h : ∀ e ∈ specialWrites v, n ≠ e.1) : x.writeSpecial n v = x := by
  simp only [specialWrites, List.forall_mem_cons] at h
  obtain ⟨h1, h2, h3, h4, h5, h6, h7, h8, h9, h10, h11, h12, h13, -⟩ := h
  rw [Slot.writeSpecial, if_neg h1, if_neg h2, if_neg h3, if_neg h4, if_neg h5, if_neg h6, if_neg h7, if_neg h8, if_neg h9,
    if_neg h10, if_neg h11, if_neg h12, if_neg h13]

theorem writeSpecial_readOnly (h : n ∈ readOnly) : x.writeSpecial n v = x := by
  have hnot : ∀ k ∈ readOnly,
      k ∉ [0x010, 0x011, 0x012, 0x018, 0x019, 0x01A, 0x028, 0x030, 0x031, 0x032, 0x033, 0x034, 0x038] := by decide
  exact writeSpecial_unlisted fun e he hn => hnot n h (hn ▸ List.mem_map_of_mem (f := Prod.fst) he)

/-- What SWR does to its slot is one of the effects listed for R386, or nothing. -/
theorem writeSpecial_specialsOnly (n : Nat) (v : Word) : SpecialsOnly (fun x => x.writeSpecial n v) := by
  by_cases h : ∃ e ∈ specialWrites v, n = e.1
  · obtain ⟨e, he, rfl⟩ := h
    rw [show (fun x : Slot => x.writeSpecial e.1 v) = e.2 from funext fun _ => writeSpecial_listed e he]
    exact specialWrites_specialsOnly v e he
  · rw [show (fun x : Slot => x.writeSpecial n v) = id from
      funext fun _ => writeSpecial_unlisted fun e he hn => h ⟨e, he, hn⟩]
    exact specialsOnly_id

end Write

/-- SWR retires with its register's value in the special register, and leaves every other agent alone. -/
theorem swr_runs {s : State} {a : Reg} {n : BitVec 12} (h : Issues s (.swr a n)) :
    ∃ t m, exec (.swr a n) s = .next t
      ∧ t.slot s.cur = Slot.retire { (s.slot s.cur).writeSpecial n.toNat ((s.slot s.cur).rg a) with rcorr := m }
          ((s.slot s.cur).pc + 4)
      ∧ SameElse s t s.cur := by
  obtain ⟨m, hm⟩ := correctReads_slot s s.cur (usesOf (.swr a n))
  have he : exec (.swr a n) s = issue (.swr a n) s (fun t => finish t (fun x => x.writeSpecial n.toNat (x.rg a))) := rfl
  rw [issue_issues h, finish, correctReads_cur] at he
  refine ⟨_, m, he, ?_, sameElse_updSlot (correctReads_else s s.cur _) _⟩
  rw [State.slot_updSlot_self, hm]
  exact (writeSpecial_specialsOnly n.toNat _).retire _ m _

/-- A word that only retires its slot. -/
theorem regStep_of_retire {s t : State} {m : BitVec 48} {p : Nat}
    (hs : t.slot s.cur = Slot.retire { s.slot s.cur with rcorr := m } p) (ho : SameElse s t s.cur) : RegStep s t [] p := by
  refine ⟨?_, ?_, ?_, ho⟩ <;> rw [hs]
  · exact ⟨fun _ _ => rfl, fun _ _ => rfl, fun _ _ => rfl⟩
  · exact ⟨⟨rfl, rfl, rfl, rfl, rfl, rfl, rfl, rfl, rfl, rfl, rfl, rfl, rfl, rfl, rfl, rfl, rfl, rfl⟩, ⟨rfl, rfl, rfl, rfl, rfl⟩⟩
  · exact ⟨rfl, rfl, Slot.cnt_retire_issued _ p, fun _ hk => Slot.cnt_retire_ne _ p hk⟩

theorem sameElse_onSlot {s t : State} (h : SameElse s t s.cur) (f : Slot → Slot) : SameElse (onSlot f s) t s.cur :=
  { h with slots := fun k hk => (h.slots k hk).trans (State.slot_updSlot_ne s f hk).symm }

section Swr

variable {s : State} {a : Reg} {n : BitVec 12} (h : Issues s (.swr a n))
include h

theorem swr_listed : ∀ e ∈ specialWrites ((s.slot s.cur).rg a), n.toNat = e.1 →
    Acts s (.swr a n) (onSlot e.2) [] ((s.slot s.cur).pc + 4) := by
  intro e he hn
  obtain ⟨t, m, hx, hs, ho⟩ := swr_runs h
  rw [hn, writeSpecial_listed e he, ← State.slot_updSlot_self s s.cur e.2] at hs
  exact ⟨t, hx, regStep_of_retire (s := onSlot e.2 s) hs (sameElse_onSlot ho e.2)⟩

theorem swr_readOnly (hn : n.toNat ∈ readOnly) : GoesTo s (.swr a n) ((s.slot s.cur).pc + 4) := by
  obtain ⟨t, m, hx, hs, ho⟩ := swr_runs h
  rw [writeSpecial_readOnly hn] at hs
  exact ⟨t, hx, regStep_of_retire hs ho⟩

/-- SWR of any special register keeps the registers and goes on. -/
theorem swr_frame : ∃ t : State, exec (.swr a n) s = .next t ∧ SameRegs (s.slot s.cur) (t.slot s.cur) []
    ∧ Retired (s.slot s.cur) (t.slot s.cur) ((s.slot s.cur).pc + 4) ∧ SameElse s t s.cur := by
  obtain ⟨t, m, hx, hs, ho⟩ := swr_runs h
  obtain ⟨hg, hv, hpres, hcnt, -⟩ := writeSpecial_specialsOnly n.toNat ((s.slot s.cur).rg a)
  refine ⟨t, hx, ⟨fun r _ => ?_, fun r _ => ?_, fun c _ => ?_⟩, ⟨?_, ?_, ?_, fun k hk => ?_⟩, ho⟩ <;> rw [hs]
  · exact congrArg (·.get r.toFin) (hg _)
  · exact congrArg (·.get r.toFin) (hv _)
  · exact congrArg (inMask · c) (hpres _)
  · rfl
  · rfl
  · rw [Slot.cnt_retire_issued]
    exact congrArg (·.get cntIssued + 1#64) (hcnt _)
  · rw [Slot.cnt_retire_ne _ _ hk]
    exact congrArg (·.get k) (hcnt _)

end Swr

/-- Settles O36: SRD writes what the register reads as, field by field where the register is packed, and what SWR does is
listed for each writable register and nothing for the others. -/
theorem specialRegisters : Obligations.SpecialRegisters := by
  intro s d a n
  refine ⟨fun e he hn => srd_writes_of hn (readSpecial_plain s e he), fun k hn => srd_writes_of hn (readSpecial_counter s s.cur k),
    fun hn => srd_writes_of hn rfl, fun hn => srd_writes_of hn rfl, fun hn hb hg h => ?caps, fun hn hi h => ?bstat,
    fun hn hr hl hc h => ?landst, fun e he hn h => swr_listed h e he hn, fun hn h => swr_readOnly h hn,
    fun _ => ⟨fun h => ⟨_, srd_writes h⟩, swr_frame⟩⟩
  case caps => exact ⟨_, srd_writes_of hn rfl h, readSpecial_caps hb hg rfl⟩
  case bstat => exact ⟨_, srd_writes_of hn rfl h, readSpecial_bstat hi rfl⟩
  case landst => exact ⟨_, srd_writes_of hn rfl h, readSpecial_landst hr hl hc rfl⟩

end Sys2Proof.Claims
end
